-- ==== Sys2Proof/Word.lean ====
section
/-! DEFINITION. The words of the model: bytes of a frame, and a list of fixed length `Vec n α`
with the four operations every table of the part is read and written by. -/

namespace Sys2Proof

/-- A byte of a station frame or an octet of an uplink frame (01 R2, 10 R178). -/
abbrev Byte := BitVec 8

/-- A run of bytes, in the order they pass on the line. -/
abbrev Bytes := List Byte

/-- A list of exactly `n` entries: the eight positions, the nine links, the twelve slots, the two printers. -/
structure Vec (n : Nat) (α : Type) where
  toList : List α
  size : toList.length = n
deriving DecidableEq, Repr

namespace Vec

variable {n : Nat} {α β : Type}

/-- Entry `i`. -/
def get (v : Vec n α) (i : Fin n) : α := v.toList[i.val]'(by rw [v.size]; exact i.isLt)

/-- The same table with entry `i` replaced. -/
def set (v : Vec n α) (i : Fin n) (a : α) : Vec n α := ⟨v.toList.set i.val a, by simp [v.size]⟩

/-- The same table with entry `i` changed by `f`. -/
def modify (v : Vec n α) (i : Fin n) (f : α → α) : Vec n α := v.set i (f (v.get i))

/-- Every entry changed by `f`. -/
def map (f : α → β) (v : Vec n α) : Vec n β := ⟨v.toList.map f, by simp [v.size]⟩

/-- The table whose entry `i` is `f i`. -/
def tab (f : Fin n → α) : Vec n α := ⟨(List.finRange n).map f, by simp⟩

/-- The table with the same entry everywhere. -/
def fill (a : α) : Vec n α := ⟨List.replicate n a, by simp⟩

/-- Some entry meets `p`. -/
def any (p : α → Bool) (v : Vec n α) : Bool := v.toList.any p

/-- Every entry meets `p`. -/
def all (p : α → Bool) (v : Vec n α) : Bool := v.toList.all p

/-- The exact sum of the entries. -/
def sum (v : Vec n Int) : Int := v.toList.sum

end Vec

end Sys2Proof
end

