-- ==== Sys2Proof/Syntax.lean ====
section
/-! DEFINITION. The commands of the block: one constructor per row of spec/opcode_table.json, with its
operands, and the small types those operands are made of. -/

namespace Sys2Proof

/-- A station link: TL0 to TL7, or the supervisor link SL (01 R9). -/
inductive Link where
  | tl (n : Fin 8)
  | sl
deriving DecidableEq, Repr

/-- A link's place in the table of nine, in the coding of 11 R199 (0-7 TL0-TL7, 8 SL). -/
def Link.idx : Link → Fin 9
  | .tl n => ⟨n.val, by omega⟩
  | .sl => 8

/-- A drawer sensor's level (03 R49). -/
inductive Sensor where
  | shut
  | opened
deriving DecidableEq, Repr

/-- The way a book moves: FORWARD towards the head's later lines, REVERSE back to the mouth (08 R143). -/
inductive Direction where
  | forward
  | reverse
deriving DecidableEq, Repr

/-- The fields of a DAY-OPEN message, each as wide as its octets carry it (11 R202). A face value of 0
marks the slot absent. -/
structure DayOpenFields where
  day : Nat
  month : Nat
  year : Nat
  seconds : Nat
  minorDigits : Nat
  faces : Vec 12 Nat
  postingLimit : Nat
  itemization : Nat
  drawerMax : Nat
  tolerance : Nat
deriving DecidableEq, Repr

/-- The four control totals of a DAY-ACCEPTED or a SUMMARY (10 R192). -/
structure Totals where
  records : Nat
  credit : Nat
  debit : Nat
  hash : Nat
deriving DecidableEq, Repr

/-- The commands. A station request stands for the arrival, on its link, of a whole frame that passed its
check (01 R4): its tag and its raw body bytes, whatever they encode. Positions are `Fin 8`, printers `Fin 2`
(0 is P0), buffers `Fin 2` (0 is A). -/
inductive Instr where
  | lineFault (link : Link)
  | lengthByteAbove250 (link : Link) (byte : Byte)
  | interByteGap (link : Link)
  | lineSilent (link : Link)
  | frameCheckFailed (link : Link)
  | unknownKind (link : Link) (kind tag : Byte) (body : Bytes)
  | replySent (link : Link)
  | takeNotices (link : Link) (tag : Byte) (body : Bytes)
  | statusTeller (n : Fin 8) (tag : Byte) (body : Bytes)
  | statusSupervisor (tag : Byte) (body : Bytes)
  | cutoff (link : Link) (tag : Byte) (body : Bytes)
  | reopenDay (link : Link) (tag : Byte) (body : Bytes)
  | send (link : Link) (tag : Byte) (body : Bytes)
  | resend (link : Link) (tag : Byte) (body : Bytes)
  | config (link : Link) (tag : Byte) (body : Bytes)
  | restart (link : Link) (tag : Byte) (body : Bytes)
  | warmRestart
  | resetLineAsserted
  | warmLine
  | mainPowerFail
  | backupLow
  | mainPowerReturn
  | oneHzTick
  | eightHzTick
  | signOn (link : Link) (tag : Byte) (body : Bytes)
  | openTxn (link : Link) (tag : Byte) (body : Bytes)
  | closeTxn (link : Link) (tag : Byte) (body : Bytes)
  | away (link : Link) (tag : Byte) (body : Bytes)
  | unlock (link : Link) (tag : Byte) (body : Bytes)
  | signOff (link : Link) (tag : Byte) (body : Bytes)
  | forceSignOff (link : Link) (tag : Byte) (body : Bytes)
  | readPosition (link : Link) (tag : Byte) (body : Bytes)
  | idle (n : Fin 8)
  | sensorInputChange (n : Fin 8) (level : Sensor)
  | opening (n : Fin 8)
  | shutting (n : Fin 8)
  | releaseWindowEnd (n : Fin 8)
  | drawerLong (n : Fin 8)
  | serviceLong (n : Fin 8)
  | post (link : Link) (tag : Byte) (body : Bytes)
  | void (link : Link) (tag : Byte) (body : Bytes)
  | readCashTeller (n : Fin 8) (tag : Byte) (body : Bytes)
  | readCashSupervisor (tag : Byte) (body : Bytes)
  | propose (link : Link) (tag : Byte) (body : Bytes)
  | confirm (link : Link) (tag : Byte) (body : Bytes)
  | decline (link : Link) (tag : Byte) (body : Bytes)
  | withdraw (link : Link) (tag : Byte) (body : Bytes)
  | expiry (id : Nat)
  | beginBalance (link : Link) (tag : Byte) (body : Bytes)
  | declare (link : Link) (tag : Byte) (body : Bytes)
  | forceBalance (link : Link) (tag : Byte) (body : Bytes)
  | reopen (link : Link) (tag : Byte) (body : Bytes)
  | vaultDeclare (link : Link) (tag : Byte) (body : Bytes)
  | readProfile (link : Link) (tag : Byte) (body : Bytes)
  | readJournal (link : Link) (tag : Byte) (body : Bytes)
  | printBook (link : Link) (tag : Byte) (body : Bytes)
  | cancelPrint (link : Link) (tag : Byte) (body : Bytes)
  | printerServiceOffline (link : Link) (tag printer : Byte)
  | printerServiceOnline (link : Link) (tag printer : Byte)
  | printerServiceClear (link : Link) (tag printer : Byte)
  | insertion (p : Fin 2)
  | removal (p : Fin 2)
  | noBook (p : Fin 2)
  | pageTimeout (p : Fin 2)
  | bookConfirmed (p : Fin 2)
  | encoderStep (p : Fin 2) (dir : Direction)
  | jam (p : Fin 2)
  | strikeDone (p : Fin 2)
  | strikeTimeEnd (p : Fin 2)
  | bookLeft (p : Fin 2)
  | seeTellerTimeEnd (n : Fin 8)
  | showText (link : Link) (tag : Byte) (body : Bytes)
  | textHoldEnd (n : Fin 8)
  | uplinkFrameDiscarded (bits : List Bool)
  | pingReply
  | dayOpen (fields : DayOpenFields)
  | blockAck (number : Nat)
  | blockNak (number : Nat)
  | answerTimeEnd (buffer : Fin 2)
  | dayAccepted (totals : Totals)
  | dayRejected (reason : Nat)
  | verdictWaitEnd
  | uplinkFrameSent
  | pingRound
  | pingWaitEnd
  | stationByteReceived (link : Link) (byte : Byte)
deriving DecidableEq, Repr

end Sys2Proof
end

