-- ==== Sys2Proof/Decode.lean ====
section
/-! DEFINITION. Commands from words. The table of the block's commands gives bits to no row, so no word spells a command. -/

namespace Sys2Proof

/-- The command that a word of `nbits` bits spells: none, since no row of spec/opcode_table.json has bits. -/
def decodeTableWord (_nbits _w : Nat) : Option Instr := none

end Sys2Proof
end

