-- ==== Sys2Proof/Config.lean ====
section
/-! DEFINITION. The bounds and durations the spec fixes, each under the name the chapters use.
Nothing here is a free value: the spec leaves no result of a command undefined (NOTES.md). -/

namespace Sys2Proof.Config

/-- The largest amount of a posting, a proposal or a unitemized balance's magnitude (04 R61, R65, 05 R84). -/
def maxAmount : Nat := 9999999999
/-- The largest account reference (04 R65). -/
def maxAccount : Nat := 999999999999
/-- The largest total of a cash record (04 R61), and the largest magnitude of a book balance (08 R136). -/
def maxTotal : Int := 99999999999
/-- The bound of an unitemized balance, either way (04 R61). -/
def maxUnitemized : Int := 9999999999
/-- The largest slot count of a drawer (04 R61). -/
def maxDrawerCount : Nat := 65535
/-- The largest slot count of the vault (04 R61). -/
def maxVaultCount : Nat := 16777215
/-- The bound of a branch day counter (04 R62). -/
def maxCounter : Nat := 999999999999
/-- The largest face value of a denomination slot (04 R60). -/
def maxFace : Nat := 10000000
/-- The largest balancing tolerance (02 R15). -/
def maxTolerance : Nat := 99999
/-- The largest teller ID (03 R36). -/
def maxTeller : Nat := 9999
/-- The journal's room in all, and for the customer class (07 R122). -/
def journalRoom : Nat := 4096
def customerRoom : Nat := 4032
/-- The fill at which JOURNAL-HIGH is given (07 R124). -/
def journalHigh : Nat := 3584
/-- Where counts of sixteen bits hold (07 R118, 06 R113). -/
def hold16 : Nat := 65535
/-- The carry list's room (07 R131). -/
def carryRoom : Nat := 512
/-- The dual-control table's room (05 R84). -/
def tableRoom : Nat := 6
/-- The transmit list's room on a station link (01 R5). -/
def transmitRoom : Nat := 2
/-- Items of one print job at most (07 R126). -/
def jobItems : Nat := 64
/-- Records of one uplink block at most (10 R186). -/
def blockRecords : Nat := 16
/-- The modulus of the hash total (10 R193). -/
def hashModulus : Nat := 1000000000000
/-- Where the service stopwatch and the drawer-open time hold, in hundredths (03 R36). -/
def maxStopwatch : Nat := 999999
/-- Where the silence holds, in hundredths (03 R48). -/
def maxSilence : Nat := 90000
/-- The release window, in hundredths (03 R50). -/
def releaseWindow : Nat := 1000
/-- The debounce hold of a drawer sensor, in hundredths (03 R49). -/
def sensorHold : Nat := 5
/-- 20 ms in hundredths (01 R3, 02 R26). -/
def quietTime : Nat := 2
/-- WAIT-BOOK's and PAGE-TURN's wait (08 R144, R153). -/
def bookWait : Nat := 6000
/-- The confirmation of a book (08 R145). -/
def confirmTime : Nat := 20
/-- A feed's time (08 R146). -/
def feedTime : Nat := 300
/-- A strike's time (08 R150). -/
def strikeTime : Nat := 40
/-- The stay before BOOK-LEFT (08 R155). -/
def removalTime : Nat := 3000
/-- The see-teller time (08 R158). -/
def seeTellerTime : Nat := 1000
/-- The encoder's bounds and the slip (08 R143, R147). -/
def encoderLow : Int := -1024
def encoderHigh : Int := 2047
def slip : Int := 3
/-- The wait after a PING, a block's answer time, the verdict wait (10 R182, R187, R194). -/
def pingWait : Nat := 300
def answerTime : Nat := 1000
def verdictWait : Nat := 30000
/-- The block retry limit that means unlimited, and where the retry count holds (10 R180, R189). -/
def retryUnlimited : Nat := 15
def retryHold : Nat := 255
/-- The largest block number (10 R180). -/
def maxBlock : Nat := 65535

end Sys2Proof.Config
end

