-- ==== Sys2Proof/Machine/State.lean ====
section
/-! DEFINITION. The state of the KT480: every item the spec gives each of its ten blocks, the supply and
reset line, the input pins and output lines, the queue of commands waiting, and the state after reset. -/

namespace Sys2Proof.Machine

/-- Why a step could stop with a fault. The spec gives the KT480 no stop, so there is no constructor. -/
inductive Fault where
deriving DecidableEq, Repr

/-- Why a command could have no meaning. Raised by `exec` alone, for a row without a meaning (safe);
no arm raises it now. -/
inductive Refusal where
  /-- The row of this mnemonic has no meaning yet; raised by an arm of `exec`; safe. -/
  | notModelled (mnemonic : String)
deriving DecidableEq, Repr

/-! ### Station link unit -/

/-- The reply codes, in the order of the reply code table (01 R9); `code` numbers are theirs (11 R198). -/
inductive Code where
  | ok | queued | held | busy | badForm | notAllowed | wrongState | dayState | range | breakdown
  | shortfall | tableFull | journalFull | noSuch | inPrint | tellerInUse | drawerOpen | noItems | printActive
deriving DecidableEq, Repr

/-- The notice kinds, in the order of 01 R13's table. -/
inductive Notice where
  | overrideDone | overrideFailed | transferOffered | transferDone | transferEnded | printEnded | bookLeft
  | drawerLong | dayChanged | restarted | overrideAsked | positionChanged | drawerForced | serviceLong
  | drawerHigh | journalHigh | linkChanged | printerFault
deriving DecidableEq, Repr

/-- The speeds of a station link (01 R2). -/
inductive Speed where
  | low    -- 19,200 bits per second
  | high   -- 115,200 bits per second
deriving DecidableEq, Repr

/-- The receiver states (01 R3). -/
inductive Receiver where
  | hunt | receiving | skipping
deriving DecidableEq, Repr

/-- A reply in a transmit list (01 R5, R8). `own` marks the reply in the reserved place, that of the accepted
request; a reply without it is a BUSY reply. `rest` is the body after the code and the notices-waiting byte. -/
structure Reply where
  kind : Byte
  tag : Byte
  code : Code
  waiting : Bool
  rest : Bytes
  own : Bool
deriving DecidableEq, Repr

/-- One station link (01, the table of the station link unit). `strap` is the strap pin's level as it stands; `speed` is
the one the last reset read from it (01 R2). DESIGN CHOICE (log 33): the table has no row that moves a strap, so the
level a link begins with stays. -/
structure LinkRec where
  strap : Speed
  speed : Speed
  receiver : Receiver
  frame : Bytes
  quiet : Option Nat
  inWork : Bool
  transmit : List Reply
  lastTag : Option Byte
  notices : Vec 18 Bool
deriving DecidableEq, Repr

/-! ### Day controller -/

/-- The day states (02 R15). -/
inductive DayState where
  | closed | opened | cutoff | sending | rejected
deriving DecidableEq, Repr

/-- A business date (02 R15). -/
structure Date where
  day : Nat
  month : Nat
  year : Nat
deriving DecidableEq, Repr

/-- The rejection reason (02 R15). -/
inductive Rejection where
  | none
  | mismatch
  | code (reason : Nat)
deriving DecidableEq, Repr

/-- The reset causes (02 R15, R33). -/
inductive ResetCause where
  | cold | powerUp | warmLine | warmRestart
deriving DecidableEq, Repr

/-- The day record (02 R15), with the phase of the last 8 Hz tick (02 R24, 09 R175). -/
structure Day where
  state : DayState
  date : Option Date
  clockSet : Bool
  seconds : Nat
  hundredths : Nat
  phase : Nat
  minorDigits : Nat
  postingLimit : Nat
  itemization : Nat
  drawerMax : Nat
  tolerance : Nat
  rejection : Rejection
  cause : ResetCause
  warmCount : Nat
  intact : Bool
deriving DecidableEq, Repr

/-- The configuration (02 R27). -/
structure Settings where
  idleBlank : Nat
  brightness : Nat
  openLimit : Nat
  serviceLimit : Nat
  transferExpiry : Nat
  overrideExpiry : Nat
  home : Vec 8 (Fin 2)
  sharing : Bool
  linesPerPage : Nat
  pagesPerBook : Nat
  linePitch : Nat
  topMargin : Nat
  pingPeriod : Nat
  pingRetries : Nat
  blockRetryLimit : Nat
deriving DecidableEq, Repr

/-- Main power, the reset line, and a RESTART's reset pending (02 R31, R32, R34). -/
structure Supply where
  mainPower : Bool
  resetLine : Bool
  restartPending : Bool
deriving DecidableEq, Repr

/-! ### Position table -/

/-- The position states (03 R36). -/
inductive PosState where
  | closed | ready | serving | held | away | balancing | outOfBalance | forceWait | balanced
deriving DecidableEq, Repr

/-- The drawer lock (03 R36). -/
inductive Lock where
  | locked | released
deriving DecidableEq, Repr

/-- One position record (03 R36), with the sensor's input level and its hold (03 R49). -/
structure Position where
  state : PosState
  teller : Option Nat
  txnStart : Option Nat
  lock : Lock
  window : Option Nat
  sensor : Sensor
  input : Sensor
  hold : Option Nat
  openTime : Nat
  openLimit : Nat
  longRaised : Bool
  forced : Bool
  stopwatch : Nat
  running : Bool
  serviceLimit : Nat
  serviceRaised : Bool
  silence : Nat
  idle : Bool
deriving DecidableEq, Repr

/-! ### Cash unit -/

/-- A cash record (04 R61): the slot counts, the unitemized balance and the stored total. -/
structure CashRecord where
  counts : Vec 12 Nat
  unitemized : Int
  total : Int
deriving DecidableEq, Repr

/-- The cash unit (04 R60 to R62, R78). A slot's face value is `none` where the slot is absent; `high` is
the DRAWER-HIGH state. -/
structure Cash where
  faces : Vec 12 (Option Nat)
  drawers : Vec 8 CashRecord
  high : Vec 8 Bool
  vault : CashRecord
  opening : Nat
  cashIn : Nat
  cashOut : Nat
  dayOver : Nat
  dayShort : Nat
deriving DecidableEq, Repr

/-- The posting kinds (04 R64). -/
inductive PostKind where
  | deposit | withdrawal | credit | debit
deriving DecidableEq, Repr

/-- One breakdown line: a slot number as its byte names it, a count, and whether it is an IN line. -/
structure Line where
  slot : Nat
  count : Nat
  isIn : Bool
deriving DecidableEq, Repr

/-- A posting (04 R64). An account of 0 means that no account is given. -/
structure Posting where
  kind : PostKind
  amount : Nat
  account : Nat
  book : Bool
  lines : List Line
deriving DecidableEq, Repr

/-! ### Dual-control table -/

/-- Who holds cash: a drawer, or the vault (05 R84). -/
inductive Holder where
  | drawer (n : Fin 8)
  | vault
deriving DecidableEq, Repr

/-- What an entry proposes (05 R84): a transfer of pieces, or a posting held for override. -/
inductive Proposal where
  | transfer (source destination : Holder) (lines : List Line)
  | override (n : Fin 8) (posting : Posting)
deriving DecidableEq, Repr

/-- One dual-control entry (05 R84); its place in the table's list is its order of creation. -/
structure Entry where
  id : Nat
  proposer : Link
  confirmer : Link
  amount : Nat
  remaining : Nat
  proposal : Proposal
deriving DecidableEq, Repr

/-- The last override outcome of a position (05 R97). -/
inductive OverrideOutcome where
  | none
  | pending (id : Nat)
  | done (seq : Nat)
  | failed (code : Code)
  | declined
  | withdrawn
  | expired
  | dropped
deriving DecidableEq, Repr

/-- The dual-control table (05 R84). -/
structure Dct where
  entries : List Entry
  cursor : Nat
  outcomes : Vec 8 OverrideOutcome
deriving DecidableEq, Repr

/-! ### Balancing and profiles -/

/-- A balancing context (06 R100). -/
structure Context where
  attempts : Nat
  declaration : Option (Vec 12 Nat)
  difference : Option Int
deriving DecidableEq, Repr

/-- A day profile (06 R113). -/
structure Profile where
  transactions : Nat
  serviceSum : Nat
  serviceMin : Nat
  serviceMax : Nat
  postings : Nat
  cashIn : Nat
  cashOut : Nat
  largest : Nat
  overrides : Nat
  overSum : Nat
  shortSum : Nat
deriving DecidableEq, Repr

/-- The balancing block (06). -/
structure Bal where
  contexts : Vec 8 Context
  profiles : Vec 8 Profile
deriving DecidableEq, Repr

/-! ### Journal -/

/-- The position field of a record (07 R119). -/
inductive Place where
  | position (n : Fin 8)
  | vault
  | none
deriving DecidableEq, Repr

/-- The fourteen record kinds (07 R120), in the order of 11 R200. -/
inductive RecordKind where
  | deposit | withdrawal | credit | debit | reversal | signOn | signOff | putAway | transfer
  | cashOver | cashShort | vaultCount | drawerForced | reset
deriving DecidableEq, Repr

/-- The effect of a record on the customer's account (04 R64, 07 R119). -/
inductive Effect where
  | none | credit | debit
deriving DecidableEq, Repr

/-- The link of a record (07 R119). -/
inductive RecordLink where
  | absent
  | reversed (seq : Nat)
  | voidedBy (seq : Nat)
deriving DecidableEq, Repr

/-- A journal record: its fields and marks (07 R119). -/
structure Record where
  seq : Nat
  time : Nat
  place : Place
  teller : Nat
  kind : RecordKind
  amount : Nat
  account : Option Nat
  source : Option Holder
  destination : Option Holder
  book : Bool
  effect : Effect
  link : RecordLink
  pending : Bool
  claimed : Option (Fin 8)
  printed : Option (Nat × Nat)
  sent : Bool
deriving DecidableEq, Repr

/-- A carry item (07 R131). -/
structure CarryItem where
  date : Date
  seq : Nat
  place : Place
  kind : RecordKind
  effect : Effect
  amount : Nat
  account : Nat
  heldBy : Option (Fin 8)
deriving DecidableEq, Repr

/-- The journal and the carry list (07 R118). -/
structure Journal where
  records : List Record
  next : Nat
  unjournaled : Nat
  spent : Bool
  carry : List CarryItem
deriving DecidableEq, Repr

/-! ### Passbook print unit -/

/-- The printer states, in the order of 08 R141. -/
inductive PrinterState where
  | idle | waitBook | confirming | aligning | striking | feeding | ejecting | waitRemoval | pageTurn | fault | offline
deriving DecidableEq, Repr

/-- The fault causes (08 R141). -/
inductive FaultCause where
  | head | slip | jam
deriving DecidableEq, Repr

/-- Where CONFIRMING returns to on a removal (08 R141). -/
inductive ConfirmReturn where
  | waitBook | pageTurn
deriving DecidableEq, Repr

/-- The stage of an eject (08 R141). -/
inductive Stage where
  | line | pageEnd | final
deriving DecidableEq, Repr

/-- The feed motor's outputs (08 R146). -/
inductive Motor where
  | off | forward | reverse
deriving DecidableEq, Repr

/-- The geometry a job latches (08 R136, R140). -/
structure Geometry where
  linesPerPage : Nat
  pagesPerBook : Nat
  linePitch : Nat
  topMargin : Nat
deriving DecidableEq, Repr

/-- An item of a job (08 R136): a journal record by its number, or the next carry item the position holds. -/
inductive JobItem where
  | record (seq : Nat)
  | carry
deriving DecidableEq, Repr

/-- A print job (08 R136). -/
structure Job where
  position : Fin 8
  account : Nat
  items : List JobItem
  more : Bool
  next : Nat
  page : Nat
  line : Nat
  balance : Int
  overflow : Bool
  printed : Nat
  printer : Option (Fin 2)
  geometry : Option Geometry
deriving DecidableEq, Repr

/-- The outcomes of a job (08 R158, R159). -/
inductive PrintOutcome where
  | none | done | noBook | pageTimeout | bookFull | incomplete | faulted | cancelled
deriving DecidableEq, Repr

/-- A last print result (08 R159). With outcome NONE the other items are absent, and read 0 or none. -/
structure PrintResult where
  outcome : PrintOutcome
  printer : Option (Fin 2)
  cause : Option FaultCause
  account : Nat
  gathered : Nat
  more : Bool
  printed : Nat
  page : Nat
  line : Nat
  balance : Int
  balanceValid : Bool
deriving DecidableEq, Repr

/-- A printer record (08 R141), with the book sensor's input level and the outputs: the motor, the strike
output and the codes last sent to the head. -/
structure Printer where
  state : PrinterState
  job : Option Job
  leftBy : Option (Fin 8)
  online : Bool
  fault : Option FaultCause
  book : Bool
  input : Bool
  count : Int
  target : Option Int
  direction : Option Direction
  furthest : Option Int
  confirmReturn : Option ConfirmReturn
  stage : Option Stage
  timer : Option Nat
  bookLeft : Bool
  motor : Motor
  strike : Bool
  head : Bytes
deriving DecidableEq, Repr

/-- The passbook print unit (08 R135). -/
structure Pbu where
  queue : List Job
  printers : Vec 2 Printer
  results : Vec 8 PrintResult
  seeTeller : Vec 8 (Option Nat)
deriving DecidableEq, Repr

/-! ### Window display unit -/

/-- Who put an overlay up (09 R165). -/
inductive Source where
  | pbu | pos
deriving DecidableEq, Repr

/-- An overlay: its text in the codes of 11 R198, and its source. -/
structure Overlay where
  text : Bytes
  source : Source
deriving DecidableEq, Repr

/-- A text layer: its characters and the hold remaining (09 R165, R170). -/
structure TextLayer where
  text : Bytes
  hold : Nat
deriving DecidableEq, Repr

/-- The lamp patterns (09 R175). -/
inductive Pattern where
  | off | steady | slow | fast | wink
deriving DecidableEq, Repr

/-- A display record and the lamp of the same window (09 R165, R175). -/
structure Window where
  cells : Bytes
  overlay : Option Overlay
  text : Option TextLayer
  amount : Option Nat
  blank : Bool
  target : Nat
  current : Nat
  pattern : Pattern
  lamp : Bool
deriving DecidableEq, Repr

/-! ### Uplink controller -/

/-- The outcomes of a DAY-OPEN (02 R18, 11 R202). -/
inductive OpenOutcome where
  | accepted | dayState | range | denomination
deriving DecidableEq, Repr

/-- The SUMMARY's figures (10 R192), each as it stood when the SUMMARY was built. -/
structure Summary where
  date : Option Date
  totals : Totals
  opening : Nat
  cashIn : Nat
  cashOut : Nat
  dayOver : Nat
  dayShort : Nat
  vault : CashRecord
  unjournaled : Nat
  carryDrop : Nat
  profiles : Vec 8 Profile
deriving DecidableEq, Repr

/-- What a block holds (10 R180): records named by their numbers, or the SUMMARY. -/
inductive Contents where
  | records (seqs : List Nat)
  | summary (figures : Summary)
deriving DecidableEq, Repr

/-- A block in a buffer (10 R180). `held` is the status HELD; without it the block is OUTSTANDING. -/
structure Block where
  number : Nat
  contents : Contents
  held : Bool
  retries : Nat
  answer : Option Nat
deriving DecidableEq, Repr

/-- A ping round (10 R180, R182). -/
structure Round where
  sent : Nat
  allowed : Nat
  wait : Option Nat
deriving DecidableEq, Repr

/-- A frame of the uplink's transmit list, with all it carries (10 R179, R181). A block's frame names its buffer. -/
inductive UpFrame where
  | ping (state : DayState) (date : Option Date)
  | dayOpenReply (outcome : OpenOutcome) (state : DayState) (date : Option Date)
  | block (buffer : Fin 2) (number : Nat) (records : List Record)
  | summary (buffer : Fin 2) (number : Nat) (figures : Summary)
deriving DecidableEq, Repr

/-- The uplink controller (10 R180). `sinceRef` is the hundredths since the ping reference. -/
structure Ulc where
  up : Bool
  sinceRef : Nat
  round : Option Round
  buffers : Vec 2 (Option Block)
  nextBlock : Nat
  verdict : Option Nat
  waiting : List UpFrame
  sending : Option UpFrame
deriving DecidableEq, Repr

/-! ### The state -/

/-- The state of the part, block by block (00, block overview), with the queue of commands waiting. -/
structure State where
  pending : List Instr
  supply : Supply
  links : Vec 9 LinkRec
  day : Day
  settings : Settings
  positions : Vec 8 Position
  cash : Cash
  dct : Dct
  bal : Bal
  jnl : Journal
  pbu : Pbu
  windows : Vec 8 Window
  ulc : Ulc
deriving DecidableEq, Repr

/-! ### The state after reset -/

/-- BRANCH CLOSED in the codes of 11 R198. -/
def branchClosed : Bytes := [0x42, 0x52, 0x41, 0x4E, 0x43, 0x48, 0x20, 0x43, 0x4C, 0x4F, 0x53, 0x45, 0x44]

/-- The notice set that holds RESTARTED alone (01 R14). -/
def restartedOnly : Vec 18 Bool := (Vec.fill false).set 9 true

/-- A link after a COLD reset, its strap pin as it stands (01 R10, R14). -/
def LinkRec.cold (strap : Speed) : LinkRec :=
  { strap := strap, speed := strap, receiver := .skipping, frame := [], quiet := some 2, inWork := false,
    transmit := [], lastTag := none, notices := restartedOnly }

/-- The day record after a COLD reset (02 R15). -/
def Day.cold : Day :=
  { state := .closed, date := none, clockSet := false, seconds := 0, hundredths := 0, phase := 0, minorDigits := 2,
    postingLimit := 0, itemization := 0, drawerMax := 99999999999, tolerance := 0, rejection := .none,
    cause := .cold, warmCount := 0, intact := true }

/-- The configuration after a COLD reset (02 R27). -/
def Settings.cold : Settings :=
  { idleBlank := 120, brightness := 10, openLimit := 45, serviceLimit := 600, transferExpiry := 120,
    overrideExpiry := 180, home := ⟨[0, 0, 0, 0, 1, 1, 1, 1], rfl⟩, sharing := true, linesPerPage := 24,
    pagesPerBook := 8, linePitch := 12, topMargin := 36, pingPeriod := 60, pingRetries := 2, blockRetryLimit := 5 }

/-- A position after a COLD reset, its sensor input as it stands (03 R36, R49). -/
def Position.cold (input : Sensor) : Position :=
  { state := .closed, teller := none, txnStart := none, lock := .locked, window := none, sensor := input,
    input := input, hold := none, openTime := 0, openLimit := 45, longRaised := false, forced := false,
    stopwatch := 0, running := false, serviceLimit := 600, serviceRaised := false, silence := 0, idle := false }

/-- A cash record that holds nothing (04 R61). -/
def CashRecord.zero : CashRecord := { counts := Vec.fill 0, unitemized := 0, total := 0 }

/-- The cash unit after a COLD reset (04 R83). -/
def Cash.cold : Cash :=
  { faces := Vec.fill none, drawers := Vec.fill CashRecord.zero, high := Vec.fill false, vault := CashRecord.zero,
    opening := 0, cashIn := 0, cashOut := 0, dayOver := 0, dayShort := 0 }

/-- The dual-control table after a COLD reset (05 R84, R99). -/
def Dct.cold : Dct := { entries := [], cursor := 0, outcomes := Vec.fill .none }

/-- The empty context and the empty profile (06 R100, R113). -/
def Context.empty : Context := { attempts := 0, declaration := none, difference := none }
def Profile.empty : Profile :=
  { transactions := 0, serviceSum := 0, serviceMin := 0, serviceMax := 0, postings := 0, cashIn := 0, cashOut := 0,
    largest := 0, overrides := 0, overSum := 0, shortSum := 0 }

/-- The balancing block after a COLD reset. -/
def Bal.cold : Bal := { contexts := Vec.fill Context.empty, profiles := Vec.fill Profile.empty }

/-- The journal after a COLD reset (07 R118). -/
def Journal.cold : Journal := { records := [], next := 1, unjournaled := 0, spent := false, carry := [] }

/-- The last print result of outcome NONE (08 R159). -/
def PrintResult.empty : PrintResult :=
  { outcome := .none, printer := none, cause := none, account := 0, gathered := 0, more := false, printed := 0,
    page := 0, line := 0, balance := 0, balanceValid := false }

/-- A printer after a COLD reset, its book sensor input as it stands (08 R141, R164). -/
def Printer.cold (input : Bool) : Printer :=
  { state := .idle, job := none, leftBy := none, online := true, fault := none, book := input, input := input,
    count := 0, target := none, direction := none, furthest := none, confirmReturn := none, stage := none,
    timer := none, bookLeft := false, motor := .off, strike := false, head := [] }

/-- The print unit after a COLD reset (08 R135, R164). -/
def Pbu.cold (inputs : Vec 2 Bool) : Pbu :=
  { queue := [], printers := inputs.map Printer.cold, results := Vec.fill PrintResult.empty, seeTeller := Vec.fill none }

/-- A window after a COLD reset (09 R165, R177): the day is CLOSED, so it composes BRANCH CLOSED. -/
def Window.cold : Window :=
  { cells := branchClosed ++ [0x20, 0x20, 0x20], overlay := some ⟨branchClosed, .pos⟩, text := none, amount := none,
    blank := false, target := 10, current := 0, pattern := .off, lamp := false }

/-- The uplink controller after a COLD reset (10 R180, R197): a ping round has begun, and its first PING, with
the day CLOSED and no date, is being sent. -/
def Ulc.cold : Ulc :=
  { up := false, sinceRef := 0, round := some { sent := 1, allowed := 3, wait := none }, buffers := Vec.fill none,
    nextBlock := 1, verdict := none, waiting := [], sending := some (.ping .closed none) }

/-- The state right after a COLD reset (02 R31 and each block's COLD values), given the levels of the input
pins. The reset line's level is not the part's to change, and the queue is the model's own. -/
def State.cold (pending : List Instr) (resetLine : Bool) (straps : Vec 9 Speed) (sensors : Vec 8 Sensor)
    (books : Vec 2 Bool) : State :=
  { pending := pending
    supply := { mainPower := true, resetLine := resetLine, restartPending := false }
    links := straps.map LinkRec.cold
    day := Day.cold
    settings := Settings.cold
    positions := sensors.map Position.cold
    cash := Cash.cold
    dct := Dct.cold
    bal := Bal.cold
    jnl := Journal.cold
    pbu := Pbu.cold books
    windows := Vec.fill Window.cold
    ulc := Ulc.cold }

/-- The machine right after reset: a COLD reset with the reset line released. DESIGN CHOICE (log 6), unsafe:
the spec gives no level of an input pin; here every strap selects 19,200, every drawer is shut and no
printer holds a book. -/
def State.reset : State := State.cold [] false (Vec.fill .low) (Vec.fill .shut) (Vec.fill false)

end Sys2Proof.Machine
end

