-- ==== Sys2Proof/Machine/Flags.lean ====
section
/-! DEFINITION. The numbers the formats give to named values (11 R198, R199, R202), and the notice flags:
which link carries which kind (01 R13) and how an event sets one (01 R11). -/

namespace Sys2Proof.Machine

/-- Reply codes 0 to 18 in the order of the table (11 R198). -/
def Code.num : Code → Nat
  | .ok => 0 | .queued => 1 | .held => 2 | .busy => 3 | .badForm => 4 | .notAllowed => 5 | .wrongState => 6
  | .dayState => 7 | .range => 8 | .breakdown => 9 | .shortfall => 10 | .tableFull => 11 | .journalFull => 12
  | .noSuch => 13 | .inPrint => 14 | .tellerInUse => 15 | .drawerOpen => 16 | .noItems => 17 | .printActive => 18

/-- A notice kind's place among the flags, 0 to 17 in the order of 01 R13. -/
def Notice.idx : Notice → Fin 18
  | .overrideDone => 0 | .overrideFailed => 1 | .transferOffered => 2 | .transferDone => 3 | .transferEnded => 4
  | .printEnded => 5 | .bookLeft => 6 | .drawerLong => 7 | .dayChanged => 8 | .restarted => 9 | .overrideAsked => 10
  | .positionChanged => 11 | .drawerForced => 12 | .serviceLong => 13 | .drawerHigh => 14 | .journalHigh => 15
  | .linkChanged => 16 | .printerFault => 17

/-- The links that carry a kind (01 R13): ten kinds on a teller link, fourteen on SL. -/
def Notice.carriedBy : Notice → Link → Bool
  | .overrideDone, .tl _ | .overrideFailed, .tl _ | .printEnded, .tl _ | .bookLeft, .tl _ => true
  | .overrideDone, .sl | .overrideFailed, .sl | .printEnded, .sl | .bookLeft, .sl => false
  | .transferOffered, _ | .transferDone, _ | .transferEnded, _ | .drawerLong, _ | .dayChanged, _ | .restarted, _ => true
  | .overrideAsked, .sl | .positionChanged, .sl | .drawerForced, .sl | .serviceLong, .sl | .drawerHigh, .sl
  | .journalHigh, .sl | .linkChanged, .sl | .printerFault, .sl => true
  | .overrideAsked, .tl _ | .positionChanged, .tl _ | .drawerForced, .tl _ | .serviceLong, .tl _ | .drawerHigh, .tl _
  | .journalHigh, .tl _ | .linkChanged, .tl _ | .printerFault, .tl _ => false

/-- Position states 0 to 8 in the order of 03 R36 (11 R199). -/
def PosState.num : PosState → Nat
  | .closed => 0 | .ready => 1 | .serving => 2 | .held => 3 | .away => 4 | .balancing => 5 | .outOfBalance => 6
  | .forceWait => 7 | .balanced => 8

/-- Printer states 0 to 10 in the order of 08 R141 (11 R199). -/
def PrinterState.num : PrinterState → Nat
  | .idle => 0 | .waitBook => 1 | .confirming => 2 | .aligning => 3 | .striking => 4 | .feeding => 5 | .ejecting => 6
  | .waitRemoval => 7 | .pageTurn => 8 | .fault => 9 | .offline => 10

/-- Day states 0 to 4 (11 R202). -/
def DayState.num : DayState → Nat
  | .closed => 0 | .opened => 1 | .cutoff => 2 | .sending => 3 | .rejected => 4

/-- Reset causes 0 to 3 (11 R199). -/
def ResetCause.num : ResetCause → Nat
  | .cold => 0 | .powerUp => 1 | .warmLine => 2 | .warmRestart => 3

/-- Fault causes, 0 for absent (11 R199). -/
def faultNum : Option FaultCause → Nat
  | none => 0 | some .head => 1 | some .slip => 2 | some .jam => 3

/-- Print outcomes 0 to 7 in the order of 08 R159 (11 R199). -/
def PrintOutcome.num : PrintOutcome → Nat
  | .none => 0 | .done => 1 | .noBook => 2 | .pageTimeout => 3 | .bookFull => 4 | .incomplete => 5 | .faulted => 6
  | .cancelled => 7

/-- Record kinds 1 to 14 (11 R200). -/
def RecordKind.num : RecordKind → Nat
  | .deposit => 1 | .withdrawal => 2 | .credit => 3 | .debit => 4 | .reversal => 5 | .signOn => 6 | .signOff => 7
  | .putAway => 8 | .transfer => 9 | .cashOver => 10 | .cashShort => 11 | .vaultCount => 12 | .drawerForced => 13
  | .reset => 14

/-- Effects (11 R200). -/
def Effect.num : Effect → Nat
  | .none => 0 | .credit => 1 | .debit => 2

/-- DAY-OPEN outcomes 0 to 3 (11 R202). -/
def OpenOutcome.num : OpenOutcome → Nat
  | .accepted => 0 | .dayState => 1 | .range => 2 | .denomination => 3

/-- Two-valued items (11 R199). -/
def boolNum (b : Bool) : Nat := if b then 1 else 0
def Lock.num : Lock → Nat
  | .locked => 0 | .released => 1
def sensorNum : Sensor → Nat
  | .shut => 0 | .opened => 1

/-- The record of link `l`. -/
def State.link (s : State) (l : Link) : LinkRec := s.links.get l.idx

/-- The state with the record of link `l` changed by `f`. -/
def State.onLink (s : State) (l : Link) (f : LinkRec → LinkRec) : State :=
  { s with links := s.links.modify l.idx f }

/-- A flag set in a notice set; one already set stays set (01 R11). -/
def LinkRec.flag (k : Notice) (r : LinkRec) : LinkRec := { r with notices := r.notices.set k.idx true }

/-- An event sets its notice's flag on link `l`, if `l` carries the kind (01 R11, R13). -/
def State.notify (s : State) (k : Notice) (l : Link) : State :=
  if k.carriedBy l then s.onLink l (LinkRec.flag k) else s

/-- DAY-CHANGED is set on all nine links (02 R16). -/
def State.notifyDayChanged (s : State) : State := { s with links := s.links.map (LinkRec.flag .dayChanged) }

/-- The kinds whose flags a set holds, in the order of 01 R13, numbered from 1 (01 R12, 11 R199). -/
def noticeCodes (v : Vec 18 Bool) : List Nat :=
  ((List.finRange 18).filter (fun i => v.get i)).map (fun i => i.val + 1)

/-- The notices-waiting indication: the set holds at least one flag (01 R8). -/
def LinkRec.waiting (r : LinkRec) : Bool := r.notices.any id

end Sys2Proof.Machine
end

