-- ==== Sys2Proof/Machine/Formats.lean ====
section
/-! DEFINITION. The layouts of 11: numbers as bytes, the CRC-16 (01 R4), station frames and the request kinds
(R198), the parts of reply bodies (R199), journal records (R200), uplink messages (R202), and the rendering of
amounts (00 R1). -/

namespace Sys2Proof.Machine

/-! ### Numbers as bytes -/

/-- `n` in `k` bytes, most significant first. -/
def be : Nat → Nat → Bytes
  | 0, _ => []
  | k + 1, n => BitVec.ofNat 8 (n / 256 ^ k) :: be k n

/-- A signed number in two's complement over `k` bytes. -/
def beInt (k : Nat) (z : Int) : Bytes := be k (z % (256 ^ k : Nat)).toNat

/-- The number the bytes spell, most significant first. -/
def ofBytes (b : Bytes) : Nat := b.foldl (fun a x => a * 256 + x.toNat) 0

/-- The number in the `k` bytes of `b` from offset `off`. -/
def field (b : Bytes) (off k : Nat) : Nat := ofBytes ((b.drop off).take k)

/-- The signed number in the `k` bytes of `b` from offset `off`. -/
def fieldInt (b : Bytes) (off k : Nat) : Int :=
  let v := field b off k
  if 2 * v < 256 ^ k then (v : Int) else (v : Int) - (256 ^ k : Nat)

/-- The bytes cut into lines of `k`. -/
def linesOf (k : Nat) : Nat → Bytes → List Bytes
  | 0, _ => []
  | m + 1, b => b.take k :: linesOf k m (b.drop k)

/-! ### The frame check (01 R4) -/

/-- One bit of the remainder's shift: generator x^16 + x^12 + x^5 + 1. -/
def crcShift (c : BitVec 16) : BitVec 16 := if c.msb then (c <<< 1) ^^^ 0x1021#16 else c <<< 1

/-- The remainder after one more byte, most significant bit first. -/
def crcByte (c : BitVec 16) (b : Byte) : BitVec 16 :=
  let c := c ^^^ (b.zeroExtend 16 <<< 8)
  crcShift (crcShift (crcShift (crcShift (crcShift (crcShift (crcShift (crcShift c)))))))

/-- The CRC-16 of a run of bytes: it starts at all ones and is not inverted. -/
def crc16 (b : Bytes) : BitVec 16 := b.foldl crcByte 0xFFFF#16

/-- The two check bytes, high-order byte first. -/
def checkBytes (b : Bytes) : Bytes := be 2 (crc16 b).toNat

/-! ### Station frames (11 R198) -/

/-- The start byte. -/
def startByte : Byte := 0xA5

/-- A frame's bytes after the start byte: length, kind, tag, body, check. -/
def frameTail (kind tag : Byte) (body : Bytes) : Bytes :=
  let covered := BitVec.ofNat 8 body.length :: kind :: tag :: body
  covered ++ checkBytes covered

/-- A whole frame. -/
def frameBytes (kind tag : Byte) (body : Bytes) : Bytes := startByte :: frameTail kind tag body

/-- The bytes of a reply frame (01 R8): its body begins with the code and the notices-waiting byte. -/
def Reply.bytes (r : Reply) : Bytes :=
  frameBytes r.kind r.tag (BitVec.ofNat 8 r.code.num :: BitVec.ofNat 8 (boolNum r.waiting) :: r.rest)

/-- The request kinds, in the order of their first appearance in the request catalogue (01, 11 R198). -/
inductive Kind where
  | takeNotices | status | cutoff | reopenDay | send | resend | config | restart | signOn | openTxn | closeTxn | away
  | unlock | signOff | forceSignOff | readPosition | post | void | readCash | propose | confirm | decline | withdraw
  | beginBalance | declare | reopen | forceBalance | vaultDeclare | readProfile | readJournal | printBook | cancelPrint
  | printerService | showText
deriving DecidableEq, Repr

/-- Kind values 1 to 34. -/
def Kind.num : Kind → Nat
  | .takeNotices => 1 | .status => 2 | .cutoff => 3 | .reopenDay => 4 | .send => 5 | .resend => 6 | .config => 7
  | .restart => 8 | .signOn => 9 | .openTxn => 10 | .closeTxn => 11 | .away => 12 | .unlock => 13 | .signOff => 14
  | .forceSignOff => 15 | .readPosition => 16 | .post => 17 | .void => 18 | .readCash => 19 | .propose => 20
  | .confirm => 21 | .decline => 22 | .withdraw => 23 | .beginBalance => 24 | .declare => 25 | .reopen => 26
  | .forceBalance => 27 | .vaultDeclare => 28 | .readProfile => 29 | .readJournal => 30 | .printBook => 31
  | .cancelPrint => 32 | .printerService => 33 | .showText => 34

/-- The kind byte of a request and of its reply. -/
def Kind.byte (k : Kind) : Byte := BitVec.ofNat 8 k.num

/-- The role check (01 R9 and the catalogue): the links a kind may be sent on. -/
def Kind.allows : Kind → Link → Bool
  | .takeNotices, _ | .status, _ | .readCash, _ | .propose, _ | .confirm, _ | .decline, _ | .withdraw, _ => true
  | .cutoff, l | .reopenDay, l | .send, l | .resend, l | .config, l | .restart, l | .forceSignOff, l | .readPosition, l
  | .forceBalance, l | .vaultDeclare, l | .readProfile, l | .readJournal, l | .printerService, l => l == .sl
  | .signOn, l | .openTxn, l | .closeTxn, l | .away, l | .unlock, l | .signOff, l | .post, l | .void, l
  | .beginBalance, l | .declare, l | .reopen, l | .printBook, l | .cancelPrint, l | .showText, l => l != .sl

/-- A list of `k` lines of `w` bytes after `fixed` bytes, `k` from `low` to `high`. -/
def listLength (fixed w low high len : Nat) : Bool :=
  decide (fixed + w * low ≤ len) && decide (len ≤ fixed + w * high) && decide ((len - fixed) % w = 0)

/-- The length check (11 R198's table of body lengths), by the link's role where the table says so. -/
def Kind.admits : Kind → Link → Nat → Bool
  | .takeNotices, _, len | .status, _, len | .cutoff, _, len | .reopenDay, _, len | .send, _, len | .resend, _, len
  | .restart, _, len | .openTxn, _, len | .closeTxn, _, len | .away, _, len | .signOff, _, len | .beginBalance, _, len
  | .reopen, _, len | .cancelPrint, _, len => len == 0
  | .readCash, .tl _, len => len == 0
  | .readCash, .sl, len => len == 1
  | .forceSignOff, _, len | .readPosition, _, len | .forceBalance, _, len | .readProfile, _, len | .confirm, _, len
  | .decline, _, len | .withdraw, _, len => len == 1
  | .signOn, _, len | .unlock, _, len | .readJournal, _, len | .printerService, _, len => len == 2
  | .printBook, _, len => len == 12
  | .post, _, len => listLength 12 4 0 12 len
  | .void, _, len => listLength 2 4 0 12 len
  | .propose, _, len => listLength 7 4 0 12 len
  | .declare, _, len => listLength 0 3 0 12 len
  | .vaultDeclare, _, len => listLength 0 4 0 12 len
  | .config, _, len => listLength 0 4 1 22 len
  | .showText, _, len => listLength 1 1 0 16 len

/-- Acting requests record their tag; reading requests do not (01, the request catalogue, R10). -/
def Kind.acting : Kind → Bool
  | .status | .readPosition | .readCash | .readProfile | .readJournal => false
  | .takeNotices | .cutoff | .reopenDay | .send | .resend | .config | .restart | .signOn | .openTxn | .closeTxn | .away
  | .unlock | .signOff | .forceSignOff | .post | .void | .propose | .confirm | .decline | .withdraw | .beginBalance
  | .declare | .reopen | .forceBalance | .vaultDeclare | .printBook | .cancelPrint | .printerService | .showText => true

/-! ### Codes of places (11 R199, R200) -/

def linkNum (l : Link) : Nat := l.idx.val
def Holder.num : Holder → Nat
  | .drawer n => n.val
  | .vault => 8
def holderNum : Option Holder → Nat
  | none => 255
  | some h => h.num
def Place.num : Place → Nat
  | .position n => n.val
  | .vault => 8
  | .none => 255
def printerNum : Option (Fin 2) → Nat
  | none => 255
  | some p => p.val
def RecordLink.bytes : RecordLink → Bytes
  | .absent => be 1 0 ++ be 2 0
  | .reversed q => be 1 1 ++ be 2 q
  | .voidedBy q => be 1 2 ++ be 2 q

/-- A date in three octets, NONE as three zero octets (11 R202). -/
def dateBytes : Option Date → Bytes
  | none => be 3 0
  | some d => be 1 d.day ++ be 1 d.month ++ be 1 d.year

/-! ### Parts of reply bodies (11 R199) -/

/-- The position record, 20 bytes. -/
def Position.bytes (p : Position) : Bytes :=
  be 1 p.state.num ++ be 2 (p.teller.getD 0) ++ be 2 (p.txnStart.getD 0) ++ be 1 p.lock.num ++ be 2 (p.window.getD 0)
    ++ be 1 (sensorNum p.sensor) ++ be 3 p.openTime ++ be 1 (boolNum p.longRaised) ++ be 1 (boolNum p.forced)
    ++ be 3 p.stopwatch ++ be 1 (boolNum p.running) ++ be 1 (boolNum p.serviceRaised) ++ be 1 (boolNum p.idle)

/-- The last print result, 19 bytes. -/
def PrintResult.bytes (r : PrintResult) : Bytes :=
  be 1 r.outcome.num ++ be 1 (printerNum r.printer) ++ be 1 (faultNum r.cause) ++ be 5 r.account ++ be 1 r.gathered
    ++ be 1 (boolNum r.more) ++ be 1 r.printed ++ be 1 r.page ++ be 1 r.line ++ beInt 5 r.balance
    ++ be 1 (boolNum r.balanceValid)

/-- The kind of an entry: 1 TRANSFER, 2 OVERRIDE. -/
def Proposal.num : Proposal → Nat
  | .transfer _ _ _ => 1
  | .override _ _ => 2

/-- A teller entry, 10 bytes; SL's pair of id and kind. -/
def Entry.bytes (e : Entry) : Bytes :=
  be 1 e.id ++ be 1 e.proposal.num ++ be 1 (linkNum e.proposer) ++ be 5 e.amount ++ be 2 e.remaining
def Entry.pair (e : Entry) : Bytes := be 1 e.id ++ be 1 e.proposal.num

/-- The last override outcome and its value, 3 bytes. -/
def OverrideOutcome.bytes : OverrideOutcome → Bytes
  | .none => be 1 0 ++ be 2 0
  | .pending id => be 1 1 ++ be 2 id
  | .done q => be 1 2 ++ be 2 q
  | .failed c => be 1 3 ++ be 2 c.num
  | .declined => be 1 4 ++ be 2 0
  | .withdrawn => be 1 5 ++ be 2 0
  | .expired => be 1 6 ++ be 2 0
  | .dropped => be 1 7 ++ be 2 0

/-- A last executed tag: 0 and 0 for NONE, or 1 and the tag. -/
def tagBytes : Option Byte → Bytes
  | none => be 2 0
  | some t => be 1 1 ++ [t]

/-- A rejection reason, 2 bytes. -/
def Rejection.bytes : Rejection → Bytes
  | .none => be 2 0
  | .mismatch => be 1 1 ++ be 1 0
  | .code c => be 1 2 ++ be 1 c

/-- A counted list: its length in one byte, then its parts. -/
def counted (parts : List Bytes) : Bytes := be 1 parts.length ++ parts.flatten

/-- The record an event asked for (11 R199): appended with its number, not made, or lost. -/
inductive Written where
  | appended (seq : Nat)
  | notMade
  | lost
deriving DecidableEq, Repr

/-- Record status, then the sequence number, sent as 0 when the record was not made or was lost. -/
def Written.bytes : Written → Bytes
  | .appended q => be 1 0 ++ be 2 q
  | .notMade => be 1 1 ++ be 2 0
  | .lost => be 1 2 ++ be 2 0

/-- The average service time, rounded half up, and the no-data indication (06 R116). -/
def Profile.average (f : Profile) : Nat :=
  if f.transactions = 0 then 0 else (2 * f.serviceSum + f.transactions) / (2 * f.transactions)
def Profile.noData (f : Profile) : Bool := f.transactions == 0

/-- A profile, 46 bytes (11 R199, R202): with no data the min and max read 0. -/
def Profile.bytes (f : Profile) : Bytes :=
  be 2 f.transactions ++ be 5 f.serviceSum ++ be 3 (if f.noData then 0 else f.serviceMin)
    ++ be 3 (if f.noData then 0 else f.serviceMax) ++ be 3 f.average ++ be 1 (boolNum f.noData) ++ be 2 f.postings
    ++ be 5 f.cashIn ++ be 5 f.cashOut ++ be 5 f.largest ++ be 2 f.overrides ++ be 5 f.overSum ++ be 5 f.shortSum

/-- The first 26 bytes of a journal record, as a BLOCK carries them (11 R200). -/
def Record.fieldBytes (r : Record) : Bytes :=
  be 2 r.seq ++ be 3 r.time ++ be 1 r.place.num ++ be 2 r.teller ++ be 1 r.kind.num ++ be 5 r.amount
    ++ be 5 (r.account.getD 0) ++ be 1 (holderNum r.source) ++ be 1 (holderNum r.destination) ++ be 1 (boolNum r.book)
    ++ be 1 r.effect.num ++ r.link.bytes

/-- A journal record with its marks, 31 bytes (11 R200). -/
def Record.bytes (r : Record) : Bytes :=
  r.fieldBytes ++ be 1 (boolNum r.pending) ++ be 1 (boolNum r.sent)
    ++ be 1 (match r.claimed with | none => 255 | some n => n.val)
    ++ be 1 (match r.printed with | none => 0 | some pl => pl.1) ++ be 1 (match r.printed with | none => 0 | some pl => pl.2)

/-! ### Uplink messages (11 R202) -/

/-- The octets of the SUMMARY's fields after the block number. -/
def Summary.bytes (m : Summary) : Bytes :=
  dateBytes m.date ++ be 2 m.totals.records ++ be 6 m.totals.credit ++ be 6 m.totals.debit ++ be 5 m.totals.hash
    ++ be 5 m.opening ++ be 5 m.cashIn ++ be 5 m.cashOut ++ be 5 m.dayOver ++ be 5 m.dayShort
    ++ (m.vault.counts.toList.map (be 3)).flatten ++ beInt 5 m.vault.unitemized ++ be 5 m.vault.total.toNat
    ++ be 2 m.unjournaled ++ be 2 m.carryDrop ++ (m.profiles.toList.map Profile.bytes).flatten

/-- The octets of a frame before its check: the kind octet and the fields. -/
def UpFrame.octets : UpFrame → Bytes
  | .ping st d => be 1 81 ++ be 1 st.num ++ dateBytes d
  | .dayOpenReply o st d => be 1 82 ++ be 1 o.num ++ be 1 st.num ++ dateBytes d
  | .block _ k rs => be 1 83 ++ be 2 k ++ be 1 rs.length ++ (rs.map Record.fieldBytes).flatten
  | .summary _ k m => be 1 84 ++ be 2 k ++ m.bytes

/-! ### Rendering an amount (00 R1) -/

/-- The codes of a text. -/
def codes (cs : List Char) : Bytes := cs.map (fun c => BitVec.ofNat 8 c.toNat)

/-- The decimal digits of `n`, at least one; `fuel` bounds their number. -/
def digitsFrom : Nat → Nat → Bytes → Bytes
  | 0, _, acc => acc
  | fuel + 1, n, acc =>
    let acc := BitVec.ofNat 8 (0x30 + n % 10) :: acc
    if n / 10 = 0 then acc else digitsFrom fuel (n / 10) acc
def decimal (n : Nat) : Bytes := digitsFrom (n.log2 + 1) n []

/-- Digits, least significant first, with a comma after every third. -/
def groupRev : Bytes → Bytes
  | a :: b :: c :: d :: rest => a :: b :: c :: 0x2C#8 :: groupRev (d :: rest)
  | l => l

/-- Blanks before a text, or after it, to fill `w` places. -/
def padLeft (w : Nat) (b : Bytes) : Bytes := List.replicate (w - b.length) 0x20#8 ++ b
def padRight (w : Nat) (b : Bytes) : Bytes := b ++ List.replicate (w - b.length) 0x20#8

/-- Exactly `k` digits of `n`, with leading zeros. -/
def fixedDigits (k n : Nat) : Bytes :=
  let d := decimal n
  List.replicate (k - d.length) 0x30#8 ++ d

/-- The rendering of a magnitude under `m` minor digits. -/
def renderNat (m n : Nat) : Bytes :=
  let whole := (groupRev (decimal (n / 10 ^ m)).reverse).reverse
  if m = 0 then whole else whole ++ 0x2E#8 :: fixedDigits m (n % 10 ^ m)

/-- The rendering of an amount under `m` minor digits: a negative value carries a leading minus. -/
def render (m : Nat) (z : Int) : Bytes := if z < 0 then 0x2D#8 :: renderNat m z.natAbs else renderNat m z.natAbs

end Sys2Proof.Machine
end

