-- ==== Sys2Proof/Machine/Ops.lean ====
section
/-! DEFINITION. The named operations over the state that more than one block uses: reading and changing a
table's entry, a check that refuses, a change of position state, the release and locking of a drawer. -/

namespace Sys2Proof.Machine

/-! ### Entries of the tables -/

/-- Position `n`'s record, and the state with it changed by `f`. -/
def State.pos (s : State) (n : Fin 8) : Position := s.positions.get n
def State.onPos (s : State) (n : Fin 8) (f : Position → Position) : State :=
  { s with positions := s.positions.modify n f }

/-- Printer `p`'s record, and the state with it changed by `f`. -/
def State.printer (s : State) (p : Fin 2) : Printer := s.pbu.printers.get p
def State.onPrinter (s : State) (p : Fin 2) (f : Printer → Printer) : State :=
  { s with pbu := { s.pbu with printers := s.pbu.printers.modify p f } }

/-- Window `n`'s record, and the state with it changed by `f`. -/
def State.window (s : State) (n : Fin 8) : Window := s.windows.get n
def State.onWindow (s : State) (n : Fin 8) (f : Window → Window) : State :=
  { s with windows := s.windows.modify n f }

/-- Position `n`'s day profile, and the state with it changed by `f`. -/
def State.profile (s : State) (n : Fin 8) : Profile := s.bal.profiles.get n
def State.onProfile (s : State) (n : Fin 8) (f : Profile → Profile) : State :=
  { s with bal := { s.bal with profiles := s.bal.profiles.modify n f } }

/-- Position `n`'s balancing context, and the state with it changed by `f`. -/
def State.context (s : State) (n : Fin 8) : Context := s.bal.contexts.get n
def State.onContext (s : State) (n : Fin 8) (f : Context → Context) : State :=
  { s with bal := { s.bal with contexts := s.bal.contexts.modify n f } }

/-- Position `n`'s last override outcome set (05 R97). -/
def State.setOutcome (s : State) (n : Fin 8) (o : OverrideOutcome) : State :=
  { s with dct := { s.dct with outcomes := s.dct.outcomes.set n o } }

/-- The supply lets the part take events: main power is present and the reset line is not asserted (02 R30, R32). -/
def State.alive (s : State) : Bool := s.supply.mainPower && !s.supply.resetLine

/-- An event is taken only by a part that is alive; otherwise it changes nothing (02 R30, R32). -/
def State.whenAlive (s : State) (f : State → State) : State := if s.alive then f s else s

/-! ### Judging a request -/

/-- A request taken: the state with every change made, the code, and the reply's body after the code and the
notices-waiting byte (01 R7, R8). -/
structure Taken where
  state : State
  code : Code
  rest : Bytes
deriving DecidableEq, Repr

/-- What an owning block answers: the refusing code, or the request taken (01 R7). -/
abbrev Judged := Except Code Taken

/-- One check of an owning block: it goes on where the condition holds and refuses with `c` otherwise. -/
def check {α : Type} (p : Prop) [Decidable p] (c : Code) (k : Except Code α) : Except Code α := if p then k else .error c

/-- Taken with the reply OK. -/
def okReply (s : State) (rest : Bytes) : Judged := .ok ⟨s, .ok, rest⟩

/-! ### Positions and drawers -/

/-- A change of position state, with POSITION-CHANGED on SL (03 R37). -/
def State.movePos (s : State) (n : Fin 8) (st : PosState) : State :=
  (s.onPos n (fun p => { p with state := st })).notify .positionChanged .sl

/-- The release of a drawer lock by the table of 03 R50. -/
def Position.release (p : Position) : Position :=
  match p.sensor, p.lock with
  | .shut, _ => { p with lock := .released, window := some Config.releaseWindow }
  | .opened, .released => p
  | .opened, .locked => { p with lock := .released, window := none }

/-- The release of drawer `n`'s lock (03 R50). -/
def State.release (s : State) (n : Fin 8) : State := s.onPos n Position.release

/-- Any running release window ends and the lock state becomes LOCKED (03 R42, R46, R47). -/
def Position.secure (p : Position) : Position := { p with lock := .locked, window := none }

/-- The teller ID in a record: the one signed on, or 0 (07 R119). -/
def Position.tellerNum (p : Position) : Nat := p.teller.getD 0

/-- A count that holds at its bound. -/
def holdAt (bound n : Nat) : Nat := if n ≤ bound then n else bound

end Sys2Proof.Machine
end

