-- ==== Sys2Proof/Machine/Displays.lean ====
section
/-! DEFINITION. What the window display unit composes from the state the other blocks own (08 R163, 09): the
overlays, the layers, the blank flag, the target brightness and the lamp patterns; and the idle flag (03 R48).
All of these are functions of the rest of the state, so one operation, `State.settle`, brings them up to date at
the end of every whole change. -/

namespace Sys2Proof.Machine

/-! ### Idleness (03 R48) -/

/-- The states in which a position may be idle. -/
def PosState.mayIdle : PosState → Bool
  | .ready | .closed | .away => true
  | .serving | .held | .balancing | .outOfBalance | .forceWait | .balanced => false

/-- A position is idle when its state permits it and its silence has reached the idle blank time. -/
def Position.isIdle (idleBlank : Nat) (p : Position) : Bool := p.state.mayIdle && decide (idleBlank * 100 ≤ p.silence)

/-- A request from the position's own link: its silence is 0 and its idle flag follows at once. -/
def Position.hear (idleBlank : Nat) (p : Position) : Position :=
  { p with silence := 0, idle := Position.isIdle idleBlank { p with silence := 0 } }

/-! ### Overlays -/

/-- The overlay texts (09 R166). -/
def textInsertBook (p : Fin 2) : Bytes :=
  codes ['I', 'N', 'S', 'E', 'R', 'T', ' ', 'B', 'O', 'O', 'K', ' ', 'P'] ++ [BitVec.ofNat 8 (0x30 + p.val)]
def textTurnPage : Bytes := codes ['T', 'U', 'R', 'N', ' ', 'P', 'A', 'G', 'E']
def textTakeBook : Bytes := codes ['T', 'A', 'K', 'E', ' ', 'B', 'O', 'O', 'K']
def textSeeTeller : Bytes := codes ['S', 'E', 'E', ' ', 'T', 'E', 'L', 'L', 'E', 'R']
def textPositionClosed : Bytes :=
  codes ['P', 'O', 'S', 'I', 'T', 'I', 'O', 'N', ' ', 'C', 'L', 'O', 'S', 'E', 'D']
def textNextWindow : Bytes := codes ['N', 'E', 'X', 'T', ' ', 'W', 'I', 'N', 'D', 'O', 'W']

/-- The text a running job's printer state gives (08 R163, item 1). -/
def Printer.jobText (p : Fin 2) (r : Printer) : Option Bytes :=
  match r.state, r.confirmReturn, r.stage with
  | .waitBook, _, _ => some (textInsertBook p)
  | .confirming, some .pageTurn, _ => some textTurnPage
  | .confirming, _, _ => some (textInsertBook p)
  | .pageTurn, _, _ => some textTurnPage
  | .waitRemoval, _, some .pageEnd => some textTurnPage
  | .waitRemoval, _, some .final => some textTakeBook
  | _, _, _ => none

/-- The printer runs a job of position `n`. -/
def Printer.runsFor (n : Fin 8) (r : Printer) : Bool :=
  match r.job with
  | some j => decide (j.position = n)
  | none => false

/-- The printer holds a book that a job of position `n` left behind (08 R163, item 3). -/
def Printer.holdsLeft (n : Fin 8) (r : Printer) : Bool :=
  (r.state == .waitRemoval || r.state == .ejecting) && r.job.isNone && decide (r.leftBy = some n)

/-- The text of position `n`'s job on printer `p`. -/
def Pbu.jobText (u : Pbu) (n : Fin 8) (p : Fin 2) : Option Bytes :=
  if (u.printers.get p).runsFor n then (u.printers.get p).jobText p else none

/-- The print overlay of position `n`: the first that applies (08 R163). -/
def Pbu.overlay (u : Pbu) (n : Fin 8) : Option Bytes :=
  match u.jobText n 0 with
  | some t => some t
  | none =>
    match u.jobText n 1 with
    | some t => some t
    | none =>
      if (u.seeTeller.get n).isSome then some textSeeTeller
      else if (u.printers.get 0).holdsLeft n || (u.printers.get 1).holdsLeft n then some textTakeBook
      else none

/-- The position overlay (09 R168). -/
def positionOverlay (day : DayState) (st : PosState) : Option Bytes :=
  match day, st with
  | .closed, _ => some branchClosed
  | _, .closed => some textPositionClosed
  | _, .away => some textNextWindow
  | _, _ => none

/-- The overlay layer of window `n` (09 R167): the print overlay, else the position overlay. -/
def State.overlay (s : State) (n : Fin 8) : Option Overlay :=
  match s.pbu.overlay n with
  | some t => some ⟨t, .pbu⟩
  | none => (positionOverlay s.day.state (s.pos n).state).map (fun t => ⟨t, .pos⟩)

/-- The sixteen cells: the first layer present (09 R166, R167). -/
def composeCells (minorDigits : Nat) (overlay : Option Overlay) (text : Option TextLayer) (amount : Option Nat) : Bytes :=
  match overlay, text, amount with
  | some o, _, _ => padRight 16 o.text
  | none, some t, _ => padRight 16 t.text
  | none, none, some a => padLeft 16 (renderNat minorDigits a)
  | none, none, none => padRight 16 []

/-! ### Lamps -/

/-- The output of a pattern by phase (09 R175). -/
def Pattern.output (phase : Nat) : Pattern → Bool
  | .off => false
  | .steady => true
  | .slow => decide (phase < 4)
  | .fast => decide (phase % 2 = 0)
  | .wink => decide (phase < 2)

/-- Position `n`'s last print result is FAULTED and the printer it names is still in FAULT (08 R163, 09 R176). DESIGN
CHOICE (log 36): the condition is judged on the result and the printer's state as they stand, so a printer put right by
CLEAR that faults again meets it again for a FAULTED result of before. -/
def Pbu.faultStands (u : Pbu) (n : Fin 8) : Bool :=
  let r := u.results.get n
  r.outcome == .faulted &&
    (match r.printer with
    | some p => (u.printers.get p).state == .fault
    | none => false)

/-- The pattern of lamp `n` (09 R176). -/
def State.lampPattern (s : State) (n : Fin 8) : Pattern :=
  let p := s.pos n
  if p.state = .forceWait ∨ p.forced ∨ s.pbu.faultStands n then .fast
  else if p.longRaised ∨ p.serviceRaised then .fast
  else if p.state = .held ∨ p.state = .outOfBalance then .slow
  else if s.cash.high.get n then .wink
  else if p.state ≠ .closed then .steady
  else .off

/-! ### Settling -/

/-- The idle flag of every position judged (03 R48). -/
def State.settleIdle (s : State) : State :=
  { s with positions := s.positions.map (fun p => { p with idle := p.isIdle s.settings.idleBlank }) }

/-- Window `n` composed again (09 R165 to R176). A lamp whose pattern changes takes at once the output of the phase
of the last tick. -/
def State.settleWindow (s : State) (n : Fin 8) : Window :=
  let w := s.window n
  let overlay := s.overlay n
  let blank := (s.pos n).idle && (s.pbu.overlay n).isNone
  let pattern := s.lampPattern n
  { w with
    cells := composeCells s.day.minorDigits overlay w.text w.amount
    overlay := overlay
    blank := blank
    target := if blank then 0 else s.settings.brightness
    pattern := pattern
    lamp := if pattern = w.pattern then w.lamp else pattern.output s.day.phase }

/-- Every window composed again. -/
def State.settleWindows (s : State) : State := { s with windows := Vec.tab s.settleWindow }

/-- The end of a whole change: the idle flags are judged and every window is composed. A part held by its reset
line, or without main power, keeps its displays dark and its lamps off (02 R32, 09 R177). -/
def State.settle (s : State) : State := s.whenAlive (fun s => s.settleIdle.settleWindows)

/-- Displays dark and lamps off, while the reset line is asserted or main power is absent (09 R177). -/
def State.darken (s : State) : State :=
  { s with windows := s.windows.map (fun w => { w with current := 0, lamp := false }) }

/-- The amount layer of display `n` (09 R169). -/
def State.setAmount (s : State) (n : Fin 8) (a : Option Nat) : State := s.onWindow n (fun w => { w with amount := a })

end Sys2Proof.Machine
end

