-- ==== Sys2Proof/Machine/Requests.lean ====
section
/-! DEFINITION. How the station link unit takes a request (01 R5 to R12, 03 R48): a whole frame that passed its
check is answered BUSY, discarded, refused, or handed to its owning block and taken as one whole event. -/

namespace Sys2Proof.Machine

/-- A frame that passed its check has arrived: the receiver is in HUNT (01 R4), and on a teller link the silence of
its position becomes 0, whatever the request's outcome, and the idle flag is judged at that moment (03 R48), so that a
reply describes the flag that holds (01 R7). -/
def State.arrive (s : State) (l : Link) : State :=
  let s := s.onLink l (fun r => { r with receiver := .hunt, frame := [], quiet := none })
  match l with
  | .tl n => s.onPos n (Position.hear s.settings.idleBlank)
  | .sl => s

/-- A reply placed in a transmit list (01 R5, R8): the notices-waiting indication shows the set at this moment. -/
def LinkRec.place (kind tag : Byte) (code : Code) (rest : Bytes) (own : Bool) (r : LinkRec) : LinkRec :=
  { r with transmit := r.transmit ++ [{ kind := kind, tag := tag, code := code, waiting := r.waiting, rest := rest, own := own }] }

/-- The reserved place of an accepted request filled with its reply. -/
def State.reply (s : State) (l : Link) (kind tag : Byte) (code : Code) (rest : Bytes) : State :=
  s.onLink l (LinkRec.place kind tag code rest true)

/-- The last executed tag of a link (01 R10). -/
def State.recordTag (s : State) (l : Link) (tag : Byte) : State := s.onLink l (fun r => { r with lastTag := some tag })

/-- The state after a request has arrived and been accepted (01 R5): the in-work flag is set. -/
def State.accept (s : State) (l : Link) : State := (s.arrive l).onLink l (fun r => { r with inWork := true })

/-- A judged request answered (01 R7, R8, R10): a taken acting request records its tag before its reply is placed;
a refusal changes nothing and carries nothing. -/
def answer (l : Link) (kind tag : Byte) (acting : Bool) (accepted : State) (j : Judged) : State :=
  match j with
  | .error c => accepted.reply l kind tag c []
  | .ok t => (if acting then t.state.recordTag l tag else t.state).reply l kind tag t.code t.rest

/-- A request arrives on a link (01 R5): with one in work it is answered BUSY where the transmit list has a free
place and is otherwise discarded; with none in work it is accepted, judged and answered. -/
def requestWith (l : Link) (kind tag : Byte) (acting : Bool) (judge : State → Judged) (s : State) : State :=
  s.whenAlive fun s =>
    State.settle <|
      if (s.link l).inWork then
        if (s.link l).transmit.length < Config.transmitRoom then
          (s.arrive l).onLink l (LinkRec.place kind tag .busy [] false)
        else s.arrive l
      else answer l kind tag acting (s.accept l) (judge (s.accept l))

/-- The checks of 01 R6 after the kind check: role, then length; then the owning block. -/
def judgeRequest (l : Link) (k : Kind) (body : Bytes) (handler : State → Judged) (s : State) : Judged :=
  check (k.allows l = true) .notAllowed <| check (k.admits l body.length = true) .badForm <| handler s

/-- A request of a known kind. -/
def request (l : Link) (k : Kind) (tag : Byte) (body : Bytes) (handler : State → Judged) (s : State) : State :=
  requestWith l k.byte tag k.acting (judgeRequest l k body handler) s

/-- The handler of a request of the teller role, which acts on the link's own position (01 R9). -/
def tellerHandler (l : Link) (handler : Fin 8 → State → Judged) (s : State) : Judged :=
  match l with
  | .tl n => handler n s
  | .sl => .error .notAllowed

/-- A request of the teller role. -/
def tellerRequest (l : Link) (k : Kind) (tag : Byte) (body : Bytes) (handler : Fin 8 → State → Judged) (s : State) : State :=
  request l k tag body (tellerHandler l handler) s

/-- A request whose kind is not in the catalogue is refused with BAD-FORM (01 R6, check 1). -/
def unknownRequest (l : Link) (kind tag : Byte) (s : State) : State :=
  requestWith l kind tag false (fun _ => .error .badForm) s

/-- TAKE-NOTICES (01 R12): the kinds set are returned and the set is cleared, as one event. -/
def takeNotices (l : Link) (s : State) : Judged :=
  okReply (s.onLink l (fun r => { r with notices := Vec.fill false }))
    (counted ((noticeCodes (s.link l).notices).map (be 1)))

/-- TAKE-NOTICES. -/
def execTakeNotices (l : Link) (tag : Byte) (body : Bytes) (s : State) : Host.Outcome State Fault Refusal :=
  .next (request l .takeNotices tag body (takeNotices l) s)

end Sys2Proof.Machine
end

