-- ==== Sys2Proof/Machine/Journal.lean ====
section
/-! DEFINITION. The electronic journal and the carry list (07): appending, classes and limits, book marks and
claims, sent marks, READ-JOURNAL, and the carry-over at acceptance. -/

namespace Sys2Proof.Machine

/-! ### Classes and room (07 R120 to R123) -/

/-- Customer-class kinds. -/
def RecordKind.customer : RecordKind → Bool
  | .deposit | .withdrawal | .credit | .debit | .reversal | .signOn => true
  | .signOff | .putAway | .transfer | .cashOver | .cashShort | .vaultCount | .drawerForced | .reset => false

/-- How many customer-class records the journal holds. -/
def Journal.customers (j : Journal) : Nat := (j.records.filter (fun r => r.kind.customer)).length

/-- The journal can take a customer-class record (07 R122). -/
def Journal.takesCustomer (j : Journal) : Bool :=
  decide (j.customers < Config.customerRoom) && decide (j.records.length < Config.journalRoom)

/-- A record of a kind at a place, by a teller, with every other field absent, 0, clear or NONE (07 R119, R120).
Its number and time are given by the append. -/
def Record.plain (kind : RecordKind) (place : Place) (teller : Nat) (amount : Nat) : Record :=
  { seq := 0, time := 0, place := place, teller := teller, kind := kind, amount := amount, account := none,
    source := none, destination := none, book := false, effect := .none, link := .absent, pending := false,
    claimed := none, printed := none, sent := false }

/-- A record appended (07 R121): it takes the next sequence number and the seconds of day; JOURNAL-HIGH is given by
the append that leaves 3,584 records while the state is ARMED (07 R124). -/
def State.append (s : State) (r : Record) : State :=
  let records := s.jnl.records ++ [{ r with seq := s.jnl.next, time := s.day.seconds }]
  let high := !s.jnl.spent && decide (records.length = Config.journalHigh)
  let s := { s with jnl := { s.jnl with records := records, next := s.jnl.next + 1, spent := s.jnl.spent || high } }
  if high then s.notify .journalHigh .sl else s

/-- A system-class record appended, or lost to a full journal: then it takes no number and the unjournaled count
grows by one, holding at 65,535 (07 R123). -/
def State.appendSystem (s : State) (r : Record) : State :=
  if s.jnl.records.length < Config.journalRoom then s.append r
  else { s with jnl := { s.jnl with unjournaled := holdAt Config.hold16 (s.jnl.unjournaled + 1) } }

/-- What became of a system-class record asked for in state `s`. -/
def State.written (s : State) : Written :=
  if s.jnl.records.length < Config.journalRoom then .appended s.jnl.next else .lost

/-- The record of a number. -/
def Journal.find (j : Journal) (seq : Nat) : Option Record := j.records.find? (fun r => r.seq == seq)

/-- Every record changed by `f`. -/
def Journal.mapRecords (j : Journal) (f : Record → Record) : Journal := { j with records := j.records.map f }

/-! ### Book marks and claims (07 R125 to R128) -/

/-- A carry item, or a record, that a job for the account may gather (07 R126). -/
def CarryItem.eligible (account : Nat) (c : CarryItem) : Bool := c.account == account && c.heldBy.isNone
def Record.eligible (account : Nat) (r : Record) : Bool :=
  r.pending && r.claimed.isNone && decide (r.account = some account)

/-- The first `k` entries that meet `p`, changed by `f`; the rest as they stand. -/
def claimFirst {α : Type} (p : α → Bool) (f : α → α) : Nat → List α → List α
  | _, [] => []
  | 0, l => l
  | k + 1, a :: l => if p a then f a :: claimFirst p f k l else a :: claimFirst p f (k + 1) l

/-- How many items a job for the account would gather from the carry list, and the records it would gather, in order. -/
def Journal.gatherCarry (j : Journal) (account : Nat) : Nat :=
  min Config.jobItems (j.carry.filter (CarryItem.eligible account)).length
def Journal.gatherRecords (j : Journal) (account : Nat) : List Nat :=
  ((j.records.filter (Record.eligible account)).take (Config.jobItems - j.gatherCarry account)).map Record.seq

/-- All eligible items of the account (07 R126). -/
def Journal.eligibleCount (j : Journal) (account : Nat) : Nat :=
  (j.carry.filter (CarryItem.eligible account)).length + (j.records.filter (Record.eligible account)).length

/-- The gathered items in print order: carry items first (07 R126, 08 R136). -/
def Journal.gather (j : Journal) (account : Nat) : List JobItem :=
  List.replicate (j.gatherCarry account) .carry ++ (j.gatherRecords account).map .record

/-- The gathered items claimed by position `n`'s job (07 R126). -/
def Journal.claim (j : Journal) (account : Nat) (n : Fin 8) : Journal :=
  { j with
    carry := claimFirst (CarryItem.eligible account) (fun c => { c with heldBy := some n }) Config.jobItems j.carry
    records := claimFirst (Record.eligible account) (fun r => { r with claimed := some n })
      (Config.jobItems - j.gatherCarry account) j.records }

/-- Position `n`'s claims and holds released (07 R128). -/
def Record.unclaim (n : Fin 8) (r : Record) : Record := if r.claimed = some n then { r with claimed := none } else r
def CarryItem.unhold (n : Fin 8) (c : CarryItem) : CarryItem := if c.heldBy = some n then { c with heldBy := none } else c
def Journal.releaseClaims (j : Journal) (n : Fin 8) : Journal :=
  { j with records := j.records.map (Record.unclaim n), carry := j.carry.map (CarryItem.unhold n) }

/-- Every claim and hold released, at a POWER-UP or WARM reset (07 R134). -/
def Journal.releaseAll (j : Journal) : Journal :=
  { j with
    records := j.records.map (fun r => { r with claimed := none })
    carry := j.carry.map (fun c => { c with heldBy := none }) }

/-- A record printed at a page and line (07 R127). -/
def Journal.printRecord (j : Journal) (seq page line : Nat) : Journal :=
  j.mapRecords (fun r => if r.seq = seq then { r with pending := false, printed := some (page, line) } else r)

/-- The first carry item that position `n`'s job holds, and the list without it (07 R127, 08 R136). -/
def Journal.heldItem (j : Journal) (n : Fin 8) : Option CarryItem := j.carry.find? (fun c => decide (c.heldBy = some n))
def Journal.printCarry (j : Journal) (n : Fin 8) : Journal :=
  { j with carry := j.carry.eraseP (fun c => decide (c.heldBy = some n)) }

/-! ### Sent marks (07 R129) -/

/-- The records of the given numbers marked sent, and every sent mark cleared. -/
def Journal.markSent (j : Journal) (seqs : List Nat) : Journal :=
  j.mapRecords (fun r => if seqs.contains r.seq then { r with sent := true } else r)
def Journal.clearSent (j : Journal) : Journal := j.mapRecords (fun r => { r with sent := false })

/-- Every record is marked sent. -/
def Journal.allSent (j : Journal) : Bool := j.records.all (fun r => r.sent)

/-! ### The carry-over (07 R131 to R133) -/

/-- The book-pending records, in sequence order. -/
def Journal.pendings (j : Journal) : List Record := j.records.filter (fun r => r.pending)

/-- The carry-drop count D. -/
def Journal.carryDrop (j : Journal) : Nat := j.carry.length + j.pendings.length - Config.carryRoom

/-- A pending record as a carry item of the day being accepted. -/
def Record.toCarry (date : Date) (r : Record) : CarryItem :=
  { date := date, seq := r.seq, place := r.place, kind := r.kind, effect := r.effect, amount := r.amount,
    account := r.account.getD 0, heldBy := none }

/-- The journal at the acceptance of a day (07 R132): the oldest of carry list and pending records are dropped, the
rest of the pending records join behind, and the journal is emptied. -/
def Journal.acceptDay (j : Journal) (date : Date) : Journal :=
  { j with
    records := []
    next := 1
    carry := (j.carry ++ j.pendings.map (Record.toCarry date)).drop j.carryDrop }

/-! ### READ-JOURNAL (07 R130) -/

/-- READ-JOURNAL. -/
def readJournal (start : Nat) (s : State) : Judged :=
  check (1 ≤ start ∧ start ≤ Config.journalRoom) .range <|
    let from_ := s.jnl.records.filter (fun r => decide (start ≤ r.seq))
    let shown := from_.take 5
    okReply s
      (be 1 shown.length ++ be 1 (boolNum (decide (5 < from_.length))) ++ be 2 s.jnl.records.length
        ++ be 2 s.jnl.customers ++ be 2 s.jnl.next ++ be 2 s.jnl.unjournaled ++ be 1 (boolNum s.jnl.spent)
        ++ be 2 s.jnl.carry.length ++ (shown.map Record.bytes).flatten)

def execReadJournal (l : Link) (tag : Byte) (body : Bytes) (s : State) : Host.Outcome State Fault Refusal :=
  .next (request l .readJournal tag body (readJournal (field body 0 2)) s)

end Sys2Proof.Machine
end

