-- ==== Sys2Proof/Machine/Operands.lean ====
section
/-! DEFINITION. The bodies of requests read into their fields (11 R198). A reader answers `none` where a field's
encoding names no value; a value outside its range is the owning block's to judge. -/

namespace Sys2Proof.Machine

/-- One breakdown line: slot 1, count 2, direction 1 (1 IN, 2 OUT). -/
def readLine (b : Bytes) : Option Line :=
  match field b 3 1 with
  | 1 => some { slot := field b 0 1, count := field b 1 2, isIn := true }
  | 2 => some { slot := field b 0 1, count := field b 1 2, isIn := false }
  | _ => none

/-- Every value of a list, or `none` where one is missing. -/
def allSome {α : Type} : List (Option α) → Option (List α)
  | [] => some []
  | none :: _ => none
  | some a :: l =>
    match allSome l with
    | some r => some (a :: r)
    | none => none

/-- The breakdown lines of a list of four-byte lines. -/
def readLines (b : Bytes) : Option (List Line) := allSome ((linesOf 4 (b.length / 4) b).map readLine)

/-- A POST kind, 1 to 4. -/
def readPostKind : Nat → Option PostKind
  | 1 => some .deposit
  | 2 => some .withdrawal
  | 3 => some .credit
  | 4 => some .debit
  | _ => none

/-- A flag, 0 or 1. -/
def readFlag : Nat → Option Bool
  | 0 => some false
  | 1 => some true
  | _ => none

/-- A POST body: kind 1, amount 5, account reference 5, book flag 1, then breakdown lines. -/
def readPosting (b : Bytes) : Option Posting :=
  match readPostKind (field b 0 1), readFlag (field b 11 1), readLines (b.drop 12) with
  | some k, some f, some ls => some { kind := k, amount := field b 1 5, account := field b 6 5, book := f, lines := ls }
  | _, _, _ => none

/-- A position byte, 0 to 7. -/
def readPosition? (v : Nat) : Option (Fin 8) := if h : v < 8 then some ⟨v, h⟩ else none

/-- A transfer end: 0 to 7 a drawer, 8 the vault. -/
def readHolder (v : Nat) : Option Holder :=
  if h : v < 8 then some (.drawer ⟨v, h⟩) else if v = 8 then some .vault else none

/-- A printer byte, 0 or 1. -/
def readPrinter (v : Nat) : Option (Fin 2) := if h : v < 2 then some ⟨v, h⟩ else none

/-- A PROPOSE body: source 1, destination 1, amount 5, then breakdown lines. -/
structure ProposeBody where
  source : Holder
  destination : Holder
  amount : Nat
  lines : List Line
deriving DecidableEq, Repr
def readPropose (b : Bytes) : Option ProposeBody :=
  match readHolder (field b 0 1), readHolder (field b 1 1), readLines (b.drop 7) with
  | some src, some dst, some ls => some { source := src, destination := dst, amount := field b 2 5, lines := ls }
  | _, _, _ => none

/-- A declaration line: a slot byte and a count. -/
structure CountLine where
  slot : Nat
  count : Nat
deriving DecidableEq, Repr

/-- The lines of a DECLARE (slot 1, count 2) and of a VAULT-DECLARE (slot 1, count 3). -/
def readCounts (width : Nat) (b : Bytes) : List CountLine :=
  (linesOf (width + 1) (b.length / (width + 1)) b).map (fun x => { slot := field x 0 1, count := field x 1 width })

/-- A CONFIG line: item 1, position 1, value 2. -/
structure ConfigLine where
  item : Nat
  position : Nat
  value : Nat
deriving DecidableEq, Repr
def readConfig (b : Bytes) : List ConfigLine :=
  (linesOf 4 (b.length / 4) b).map (fun x => { item := field x 0 1, position := field x 1 1, value := field x 2 2 })

/-- A PRINT-BOOK body: account 5, page 1, line 1, last balance 5 signed. -/
structure PrintBody where
  account : Nat
  page : Nat
  line : Nat
  balance : Int
deriving DecidableEq, Repr
def readPrint (b : Bytes) : PrintBody :=
  { account := field b 0 5, page := field b 5 1, line := field b 6 1, balance := fieldInt b 7 5 }

/-- A selector of READ-CASH on SL: 0 to 7 a drawer, 8 the vault, 9 the counters. -/
inductive CashSelector where
  | drawer (n : Fin 8)
  | vault
  | counters
deriving DecidableEq, Repr
def readSelector (v : Nat) : Option CashSelector :=
  if h : v < 8 then some (.drawer ⟨v, h⟩) else if v = 8 then some .vault else if v = 9 then some .counters else none

/-- A PRINTER-SERVICE action: 1 OFFLINE, 2 ONLINE, 3 CLEAR. -/
inductive ServiceAction where
  | offline | online | clear
deriving DecidableEq, Repr
def readAction : Nat → Option ServiceAction
  | 1 => some .offline
  | 2 => some .online
  | 3 => some .clear
  | _ => none

end Sys2Proof.Machine
end

