-- ==== Sys2Proof/Machine/Profiles.lean ====
section
/-! DEFINITION. What the events of a day add to a position's profile (06 R114, R115), and READ-PROFILE. -/

namespace Sys2Proof.Machine

/-- The direction of a cash movement at a window (04 R64). -/
inductive CashDir where
  | inward | outward | none
deriving DecidableEq, Repr

/-- A transaction's duration reaches the profile (06 R114). -/
def Profile.addDuration (d : Nat) (f : Profile) : Profile :=
  if f.transactions < Config.hold16 then
    { f with
      transactions := f.transactions + 1
      serviceSum := f.serviceSum + d
      serviceMin := if f.transactions = 0 then d else min f.serviceMin d
      serviceMax := if f.transactions = 0 then d else max f.serviceMax d }
  else { f with serviceMin := min f.serviceMin d, serviceMax := max f.serviceMax d }

/-- A posting made, or a VOID taken, with its cash direction (06 R115). -/
def Profile.addPosting (dir : CashDir) (amount : Nat) (f : Profile) : Profile :=
  { f with
    postings := holdAt Config.hold16 (f.postings + 1)
    cashIn := if dir = .inward then f.cashIn + amount else f.cashIn
    cashOut := if dir = .outward then f.cashOut + amount else f.cashOut
    largest := max f.largest amount }

/-- A held posting made at CONFIRM, besides what the posting adds (06 R115). -/
def Profile.addOverride (f : Profile) : Profile := { f with overrides := holdAt Config.hold16 (f.overrides + 1) }

/-- An accepted difference (06 R104, R115). -/
def Profile.addDifference (d : Int) (f : Profile) : Profile :=
  if 0 < d then { f with overSum := f.overSum + d.natAbs }
  else if d < 0 then { f with shortSum := f.shortSum + d.natAbs }
  else f

/-- READ-PROFILE (06 R117). -/
def readProfile (v : Nat) (s : State) : Judged :=
  match readPosition? v with
  | none => .error .badForm
  | some n => okReply s (s.profile n).bytes

def execReadProfile (l : Link) (tag : Byte) (body : Bytes) (s : State) : Host.Outcome State Fault Refusal :=
  .next (request l .readProfile tag body (readProfile (field body 0 1)) s)

end Sys2Proof.Machine
end

