-- ==== Sys2Proof/Machine/Cash.lean ====
section
/-! DEFINITION. Cash arithmetic (04): the value of a record, breakdowns, POST and VOID, DRAWER-HIGH, READ-CASH,
and the changes the other blocks make through the cash unit (R82). -/

namespace Sys2Proof.Machine

/-! ### Denominations and values -/

/-- The face value of a slot byte's slot, where it names a present slot (04 R66: above 11 counts as absent). -/
def Cash.face? (c : Cash) (slot : Nat) : Option Nat := if h : slot < 12 then c.faces.get ⟨slot, h⟩ else none

/-- The value of counted pieces: the sum, over the present slots, of count × face value (04 R61). -/
def worth (faces : Vec 12 (Option Nat)) (counts : Vec 12 Nat) : Int :=
  (Vec.tab fun i => ((counts.get i * (faces.get i).getD 0 : Nat) : Int)).sum

/-- A cash record with its total recomputed (04 R61). -/
def CashRecord.make (faces : Vec 12 (Option Nat)) (counts : Vec 12 Nat) (unitemized : Int) : CashRecord :=
  { counts := counts, unitemized := unitemized, total := worth faces counts + unitemized }

/-- The pieces a breakdown moves in one direction, slot by slot. -/
def pieces (isIn : Bool) (lines : List Line) : Vec 12 Nat :=
  Vec.tab fun i => ((lines.filter (fun l => l.isIn == isIn && l.slot == i.val)).map Line.count).sum

/-- A drawer that holds nothing: every slot count 0 and unitemized balance 0 (03 R44). -/
def CashRecord.isEmpty (r : CashRecord) : Bool := r.counts.all (fun c => c == 0) && r.unitemized == 0

/-! ### Reading and replacing cash records -/

def State.drawer (s : State) (n : Fin 8) : CashRecord := s.cash.drawers.get n
def State.holding (s : State) : Holder → CashRecord
  | .drawer n => s.drawer n
  | .vault => s.cash.vault
def State.setDrawer (s : State) (n : Fin 8) (r : CashRecord) : State :=
  { s with cash := { s.cash with drawers := s.cash.drawers.set n r } }
def State.setHolding (s : State) (h : Holder) (r : CashRecord) : State :=
  match h with
  | .drawer n => s.setDrawer n r
  | .vault => { s with cash := { s.cash with vault := r } }

/-! ### DRAWER-HIGH (04 R78, R79) -/

/-- The re-arm level: 9/10 of the drawer maximum, rounded down. -/
def rearmLevel (maximum : Nat) : Int := ((9 * maximum / 10 : Nat) : Int)

/-- A HIGH drawer whose total is at or below the re-arm level becomes ARMED (04 R79). -/
def State.rearm (s : State) (n : Fin 8) : State :=
  if s.cash.high.get n && decide ((s.drawer n).total ≤ rearmLevel s.day.drawerMax) then
    { s with cash := { s.cash with high := s.cash.high.set n false } }
  else s

/-- The judgement after a posting, a VOID or a transfer: an ARMED drawer above the maximum becomes HIGH, with
DRAWER-HIGH on SL (04 R78); otherwise re-arming is judged (04 R79). -/
def State.judgeHigh (s : State) (n : Fin 8) : State :=
  if !s.cash.high.get n && decide ((s.day.drawerMax : Int) < (s.drawer n).total) then
    State.notify { s with cash := { s.cash with high := s.cash.high.set n true } } .drawerHigh .sl
  else s.rearm n

/-! ### Judging a movement (04 R66 to R68) -/

/-- The net of a breakdown for a cash direction. -/
def breakdownNet (faces : Vec 12 (Option Nat)) (dir : CashDir) (lines : List Line) : Int :=
  match dir with
  | .inward => worth faces (pieces true lines) - worth faces (pieces false lines)
  | .outward => worth faces (pieces false lines) - worth faces (pieces true lines)
  | .none => 0

/-- No two lines name the same slot in the same direction. -/
def linesDistinct : List Line → Bool
  | [] => true
  | a :: l => l.all (fun b => !(b.slot == a.slot && b.isIn == a.isIn)) && linesDistinct l

/-- Each line names a present slot and counts 1 to 999 pieces, and no two are the same (04 R66, 1 to 3). -/
def Cash.linesSound (c : Cash) (lines : List Line) : Bool :=
  lines.all (fun l => (c.face? l.slot).isSome && decide (1 ≤ l.count ∧ l.count ≤ 999)) && linesDistinct lines

/-- Check 3: a breakdown of one or more lines is sound and nets exactly the amount (04 R66). -/
def Cash.breakdownOk (c : Cash) (dir : CashDir) (amount : Nat) (lines : List Line) : Bool :=
  lines.isEmpty || (c.linesSound lines && decide (breakdownNet c.faces dir lines = amount))

/-- Check 4: a cash movement above the itemization threshold carries a breakdown (04 R67). -/
def itemizationOk (threshold : Nat) (dir : CashDir) (amount : Nat) (lines : List Line) : Bool :=
  dir == .none || !lines.isEmpty || decide (amount ≤ threshold)

/-- The signed movement of a cash direction. -/
def CashDir.signed (dir : CashDir) (amount : Nat) : Int :=
  match dir with
  | .inward => amount
  | .outward => -(amount : Int)
  | .none => 0

/-- The drawer record a movement leaves: by its breakdown's pieces, or through the unitemized balance (04 R68, R70). -/
def CashRecord.moved (faces : Vec 12 (Option Nat)) (dir : CashDir) (amount : Nat) (lines : List Line) (r : CashRecord) :
    CashRecord :=
  if lines.isEmpty then CashRecord.make faces r.counts (r.unitemized + dir.signed amount)
  else CashRecord.make faces
    (Vec.tab fun i => r.counts.get i + (pieces true lines).get i - (pieces false lines).get i) r.unitemized

/-- Check 5: the effect of a cash movement on drawer and counter (04 R68). -/
def Cash.judgeEffect {α : Type} (c : Cash) (dir : CashDir) (amount : Nat) (lines : List Line) (r : CashRecord)
    (k : Except Code α) : Except Code α :=
  if dir = .none then k else
  check (∀ i, (pieces false lines).get i ≤ r.counts.get i + (pieces true lines).get i) .shortfall <|
  check (∀ i, (r.moved c.faces dir amount lines).counts.get i ≤ Config.maxDrawerCount) .range <|
  check (dir = .outward → lines.isEmpty → (amount : Int) ≤ r.total) .shortfall <|
  check (-Config.maxUnitemized ≤ (r.moved c.faces dir amount lines).unitemized ∧
    (r.moved c.faces dir amount lines).unitemized ≤ Config.maxUnitemized) .range <|
  check (0 ≤ r.total + dir.signed amount ∧ r.total + dir.signed amount ≤ Config.maxTotal) .range <|
  check (if dir = .inward then c.cashIn + amount ≤ Config.maxCounter else c.cashOut + amount ≤ Config.maxCounter) .range k

/-- A cash movement made at drawer `n`: the drawer, the counter and, at the end, the lock and DRAWER-HIGH are the
caller's steps (04 R70, 1 and 2). -/
def State.moveCash (s : State) (n : Fin 8) (dir : CashDir) (amount : Nat) (lines : List Line) : State :=
  if dir = .none then s else
    let s' := s.setDrawer n ((s.drawer n).moved s.cash.faces dir amount lines)
    { s' with cash := { s'.cash with
        cashIn := if dir = .inward then s.cash.cashIn + amount else s.cash.cashIn
        cashOut := if dir = .outward then s.cash.cashOut + amount else s.cash.cashOut } }

/-- What follows the record of a posting or a VOID (04 R70, 4 to 7, R75): the profile, the amount layer and, for a
cash movement, the release of the lock and the DRAWER-HIGH judgement. -/
def State.afterMovement (s : State) (n : Fin 8) (dir : CashDir) (amount : Nat) : State :=
  let s := (s.onProfile n (Profile.addPosting dir amount)).setAmount n (some amount)
  if dir = .none then s else (s.release n).judgeHigh n

/-! ### Postings (04 R64 to R72) -/

def PostKind.dir : PostKind → CashDir
  | .deposit => .inward
  | .withdrawal => .outward
  | .credit | .debit => .none
def PostKind.effect : PostKind → Effect
  | .deposit | .credit => .credit
  | .withdrawal | .debit => .debit
def PostKind.record : PostKind → RecordKind
  | .deposit => .deposit
  | .withdrawal => .withdrawal
  | .credit => .credit
  | .debit => .debit

/-- The record of a posting (04 R71). -/
def Posting.record (p : Posting) (n : Fin 8) (teller : Nat) : Record :=
  { Record.plain p.kind.record (.position n) teller p.amount with
    account := if p.account = 0 then none else some p.account
    book := p.book
    effect := p.kind.effect
    pending := p.book }

/-- A posting made at position `n` (04 R70). -/
def State.makePosting (s : State) (n : Fin 8) (p : Posting) : State :=
  ((s.moveCash n p.kind.dir p.amount p.lines).append (p.record n (s.pos n).tellerNum)).afterMovement n p.kind.dir p.amount

/-- Check 2, ranges and forbidden combinations (04 R65, 2 to 5). -/
def Posting.checkFields {α : Type} (p : Posting) (k : Except Code α) : Except Code α :=
  check (1 ≤ p.amount ∧ p.amount ≤ Config.maxAmount) .range <|
  check (p.account ≤ Config.maxAccount) .range <|
  check (¬(p.book = true ∧ p.account = 0)) .badForm <|
  check (¬(p.kind.dir = .none ∧ p.lines ≠ [])) .badForm k

/-- Checks 5 and 6 against the state as it stands (04 R68, R69), as a CONFIRM judges them again (04 R72). -/
def Posting.recheck {α : Type} (p : Posting) (n : Fin 8) (s : State) (k : Except Code α) : Except Code α :=
  s.cash.judgeEffect p.kind.dir p.amount p.lines (s.drawer n) <|
  check (s.jnl.takesCustomer = true) .journalFull k

/-- The next id of the dual-control table (05 R85): the one after the cursor, passing over ids in use. -/
def nextId (inUse : List Nat) : Nat → Nat → Nat
  | 0, c => c
  | fuel + 1, c =>
    let c := if c < 255 then c + 1 else 1
    if inUse.contains c then nextId inUse fuel c else c
def Dct.freshId (d : Dct) : Nat := nextId (d.entries.map Entry.id) (d.entries.length + 1) d.cursor

/-- An entry created behind those held; the cursor then holds its id (05 R85). -/
def Dct.create (d : Dct) (proposer confirmer : Link) (amount remaining : Nat) (pr : Proposal) : Dct :=
  { d with
    entries := d.entries ++
      [{ id := d.freshId, proposer := proposer, confirmer := confirmer, amount := amount, remaining := remaining, proposal := pr }]
    cursor := d.freshId }

/-- A posting above the limit held for the supervisor (04 R69, check 7). -/
def State.holdPosting (s : State) (n : Fin 8) (p : Posting) : State :=
  let id := s.dct.freshId
  let s := { s with dct := s.dct.create (.tl n) .sl p.amount (s.settings.overrideExpiry * 100) (.override n p) }
  ((s.setOutcome n (.pending id)).notify .overrideAsked .sl).movePos n .held

/-- A posting judged by checks 3 to 7 (04 R66 to R69). -/
def Posting.judge (p : Posting) (n : Fin 8) (s : State) : Judged :=
  check (s.cash.breakdownOk p.kind.dir p.amount p.lines = true) .breakdown <|
  check (itemizationOk s.day.itemization p.kind.dir p.amount p.lines = true) .breakdown <|
  p.recheck n s <|
  if p.amount ≤ s.day.postingLimit then okReply (s.makePosting n p) (be 2 s.jnl.next)
  else check (s.dct.entries.length < Config.tableRoom) .tableFull
    (.ok ⟨s.holdPosting n p, .held, be 1 s.dct.freshId⟩)

/-- POST (04 R64 to R70). -/
def post (body : Bytes) (n : Fin 8) (s : State) : Judged :=
  check ((s.pos n).state = .serving) .wrongState <|
  match readPosting body with
  | none => .error .badForm
  | some p => p.checkFields (p.judge n s)

def execPost (l : Link) (tag : Byte) (body : Bytes) (s : State) : Host.Outcome State Fault Refusal :=
  .next (tellerRequest l .post tag body (post body) s)

/-! ### Voids (04 R74 to R77) -/

/-- The posting kind of a record that a VOID can cancel. -/
def RecordKind.posting? : RecordKind → Option PostKind
  | .deposit => some .deposit
  | .withdrawal => some .withdrawal
  | .credit => some .credit
  | .debit => some .debit
  | _ => none

/-- The reversal's cash direction and effect (04 R74). -/
def PostKind.reversalDir : PostKind → CashDir
  | .deposit => .outward
  | .withdrawal => .inward
  | .credit | .debit => .none
def PostKind.reversalEffect : PostKind → Effect
  | .deposit | .credit => .debit
  | .withdrawal | .debit => .credit

/-- The record has a voided-by link. -/
def Record.isVoided (r : Record) : Bool :=
  match r.link with
  | .voidedBy _ => true
  | _ => false

/-- The record is one that a VOID at position `n` can cancel (04 R74, check 2), and its kind. -/
def State.voidable (s : State) (n : Fin 8) (seq : Nat) : Option (Record × PostKind) :=
  match s.jnl.find seq, (s.pos n).txnStart with
  | some r, some start =>
    if r.place = .position n ∧ start ≤ r.seq ∧ r.isVoided = false then
      match r.kind.posting? with
      | some k => some (r, k)
      | none => none
    else none
  | _, _ => none

/-- The REVERSAL of a record (04 R76). -/
def reversalOf (r : Record) (k : PostKind) (n : Fin 8) (teller : Nat) : Record :=
  { Record.plain .reversal (.position n) teller r.amount with
    account := r.account
    book := r.book
    effect := k.reversalEffect
    link := .reversed r.seq
    pending := r.book && r.printed.isSome }

/-- The original gains its voided-by link and, book-pending, loses that mark (04 R76). -/
def Journal.void (j : Journal) (seq by_ : Nat) : Journal :=
  j.mapRecords (fun r => if r.seq = seq then { r with link := .voidedBy by_, pending := false } else r)

/-- A VOID made (04 R75). -/
def State.makeVoid (s : State) (n : Fin 8) (r : Record) (k : PostKind) (lines : List Line) : State :=
  let dir := k.reversalDir
  let s' := s.moveCash n dir r.amount lines
  let s' := { s' with jnl := s'.jnl.void r.seq s.jnl.next }
  (s'.append (reversalOf r k n (s.pos n).tellerNum)).afterMovement n dir r.amount

/-- VOID (04 R74, R75). -/
def voidRecord (body : Bytes) (n : Fin 8) (s : State) : Judged :=
  check ((s.pos n).state = .serving) .wrongState <|
  match s.voidable n (field body 0 2) with
  | none => .error .noSuch
  | some (r, k) =>
    check (r.claimed = none) .inPrint <|
    match readLines (body.drop 2) with
    | none => .error .badForm
    | some lines =>
      check (¬(k.reversalDir = .none ∧ lines ≠ [])) .badForm <|
      check (s.cash.breakdownOk k.reversalDir r.amount lines = true) .breakdown <|
      check (itemizationOk s.day.itemization k.reversalDir r.amount lines = true) .breakdown <|
      s.cash.judgeEffect k.reversalDir r.amount lines (s.drawer n) <|
      check (s.jnl.takesCustomer = true) .journalFull <|
      okReply (s.makeVoid n r k lines) (be 2 s.jnl.next)

def execVoid (l : Link) (tag : Byte) (body : Bytes) (s : State) : Host.Outcome State Fault Refusal :=
  .next (tellerRequest l .void tag body (voidRecord body) s)

/-! ### READ-CASH (04 R80, R81) -/

/-- The twelve slots: face value 3 (0 for absent) and count in `w` bytes. -/
def slotBytes (faces : Vec 12 (Option Nat)) (counts : Vec 12 Nat) (w : Nat) : Bytes :=
  ((List.finRange 12).map (fun i => be 3 ((faces.get i).getD 0) ++ be w (counts.get i))).flatten

def drawerBytes (s : State) (n : Fin 8) : Bytes :=
  slotBytes s.cash.faces (s.drawer n).counts 2 ++ beInt 5 (s.drawer n).unitemized ++ be 5 (s.drawer n).total.toNat
    ++ be 1 (boolNum (s.cash.high.get n)) ++ be 5 s.day.drawerMax ++ be 1 s.day.minorDigits

def vaultBytes (s : State) : Bytes :=
  slotBytes s.cash.faces s.cash.vault.counts 3 ++ beInt 5 s.cash.vault.unitemized ++ be 5 s.cash.vault.total.toNat
    ++ be 1 s.day.minorDigits

/-- The sum of the nine cash record totals (04 R63). -/
def Cash.grandTotal (c : Cash) : Int := c.vault.total + (c.drawers.map CashRecord.total).sum

def counterBytes (s : State) : Bytes :=
  be 5 s.cash.opening ++ be 5 s.cash.cashIn ++ be 5 s.cash.cashOut ++ be 5 s.cash.dayOver ++ be 5 s.cash.dayShort
    ++ be 5 s.cash.grandTotal.toNat ++ be 1 s.day.minorDigits

/-- READ-CASH on a teller link, and on SL. -/
def readCashTeller (n : Fin 8) (s : State) : Judged := okReply s (drawerBytes s n)
def readCashSupervisor (v : Nat) (s : State) : Judged :=
  match readSelector v with
  | none => .error .badForm
  | some (.drawer n) => okReply s (drawerBytes s n)
  | some .vault => okReply s (vaultBytes s)
  | some .counters => okReply s (counterBytes s)

def execReadCashTeller (n : Fin 8) (tag : Byte) (body : Bytes) (s : State) : Host.Outcome State Fault Refusal :=
  .next (request (.tl n) .readCash tag body (readCashTeller n) s)
def execReadCashSupervisor (tag : Byte) (body : Bytes) (s : State) : Host.Outcome State Fault Refusal :=
  .next (request .sl .readCash tag body (readCashSupervisor (field body 0 1)) s)

/-! ### Changes by other blocks (04 R82) -/

/-- The put-away of drawer `n` (03 R45): what the vault would hold. -/
def State.vaultAfterPutAway (s : State) (n : Fin 8) : CashRecord :=
  CashRecord.make s.cash.faces (Vec.tab fun i => s.cash.vault.counts.get i + (s.drawer n).counts.get i)
    (s.cash.vault.unitemized + (s.drawer n).unitemized)

/-- A cash record's figures lie in the vault's ranges (03 R45, 04 R61). -/
def CashRecord.fitsVault (r : CashRecord) : Bool :=
  r.counts.all (fun c => decide (c ≤ Config.maxVaultCount)) &&
  decide (-Config.maxUnitemized ≤ r.unitemized ∧ r.unitemized ≤ Config.maxUnitemized) &&
  decide (0 ≤ r.total ∧ r.total ≤ Config.maxTotal)

/-- The put-away can be made. -/
def State.canPutAway (s : State) (n : Fin 8) : Bool := (s.vaultAfterPutAway n).fitsVault

/-- The put-away made: the whole drawer moves into the vault, and the empty drawer re-arms (03 R45, 04 R79). -/
def State.putAway (s : State) (n : Fin 8) : State :=
  let s' := { s with cash := { s.cash with vault := s.vaultAfterPutAway n } }
  (s'.setDrawer n (CashRecord.make s.cash.faces (Vec.fill 0) 0)).rearm n

/-- A transfer's pieces fit their source and destination (05 R88 check 8, R90 checks 4 and 5). -/
def State.sourceCovers (s : State) (h : Holder) (amount : Nat) (lines : List Line) : Bool :=
  decide (∀ i, (pieces true lines).get i ≤ (s.holding h).counts.get i) && decide ((amount : Int) ≤ (s.holding h).total)
def Holder.maxCount : Holder → Nat
  | .drawer _ => Config.maxDrawerCount
  | .vault => Config.maxVaultCount
def State.destinationTakes (s : State) (h : Holder) (amount : Nat) (lines : List Line) : Bool :=
  decide (∀ i, (s.holding h).counts.get i + (pieces true lines).get i ≤ h.maxCount) &&
  decide ((s.holding h).total + (amount : Int) ≤ Config.maxTotal)

/-- The pieces leave the source and join the destination (05 R91, step 1). -/
def State.movePieces (s : State) (src dst : Holder) (lines : List Line) : State :=
  let a := s.holding src
  let s := s.setHolding src
    (CashRecord.make s.cash.faces (Vec.tab fun i => a.counts.get i - (pieces true lines).get i) a.unitemized)
  let b := s.holding dst
  s.setHolding dst
    (CashRecord.make s.cash.faces (Vec.tab fun i => b.counts.get i + (pieces true lines).get i) b.unitemized)

/-- The day counter an accepted difference feeds stays within its bound, and grows by it (06 R104, R110). -/
def Cash.takesDifference (c : Cash) (d : Int) : Bool :=
  (decide (d ≤ 0) || decide (c.dayOver + d.natAbs ≤ Config.maxCounter)) &&
  (decide (0 ≤ d) || decide (c.dayShort + d.natAbs ≤ Config.maxCounter))
def Cash.addDifference (c : Cash) (d : Int) : Cash :=
  { c with
    dayOver := if 0 < d then c.dayOver + d.natAbs else c.dayOver
    dayShort := if d < 0 then c.dayShort + d.natAbs else c.dayShort }

end Sys2Proof.Machine
end

