-- ==== Sys2Proof/Machine/Printers.lean ====
section
/-! DEFINITION. The passbook print unit (08): jobs, assignment, the printer's sequence of states, feeds, strikes,
faults, job ends, cancelling and servicing. -/

namespace Sys2Proof.Machine

/-! ### Jobs -/

/-- Position `n` has a job queued or running (08 R137). -/
def Pbu.hasJob (u : Pbu) (n : Fin 8) : Bool :=
  u.queue.any (fun j => decide (j.position = n)) || (u.printers.get 0).runsFor n || (u.printers.get 1).runsFor n

/-- The last print result of a job at its end (08 R159). -/
def Job.result (j : Job) (outcome : PrintOutcome) (printer : Option (Fin 2)) (cause : Option FaultCause) : PrintResult :=
  { outcome := outcome, printer := printer, cause := cause, account := j.account, gathered := j.items.length,
    more := j.more, printed := j.printed, page := j.page, line := j.line, balance := j.balance,
    balanceValid := !j.overflow }

/-- A job end, steps 1 to 4 (08 R158): the claims are released, the result is written, PRINT-ENDED is set and the
see-teller time starts or stops. Step 5, the job's place, is the causing rule's. -/
def State.endJob (s : State) (j : Job) (outcome : PrintOutcome) (printer : Option (Fin 2)) (cause : Option FaultCause) :
    State :=
  let s := { s with
    jnl := s.jnl.releaseClaims j.position
    pbu := { s.pbu with
      results := s.pbu.results.set j.position (j.result outcome printer cause)
      seeTeller := s.pbu.seeTeller.set j.position (if outcome = PrintOutcome.done then none else some Config.seeTellerTime) } }
  s.notify .printEnded (.tl j.position)

/-! ### Assignment (08 R139, R140) -/

/-- A printer is free when it is IDLE and its sensor shows no book. -/
def Printer.free (r : Printer) : Bool := r.state == .idle && !r.book

/-- The other printer. -/
def otherPrinter (p : Fin 2) : Fin 2 := if p = 0 then 1 else 0

/-- The printer a queued job is given now: its home printer if free, else the other if it may use it and it is free. -/
def State.printerFor (s : State) (j : Job) : Option (Fin 2) :=
  let home := s.settings.home.get j.position
  if (s.printer home).free then some home
  else if s.settings.sharing && (s.printer (otherPrinter home)).free then some (otherPrinter home)
  else none

/-- A job as its printer takes it: the geometry latched, page and line adjusted (08 R140, 1 and 2). -/
def Job.latch (c : Settings) (p : Fin 2) (j : Job) : Job :=
  { j with
    printer := some p
    geometry := some { linesPerPage := c.linesPerPage, pagesPerBook := c.pagesPerBook, linePitch := c.linePitch,
                       topMargin := c.topMargin }
    line := if c.linesPerPage < j.line then 1 else j.line
    page := if c.linesPerPage < j.line then j.page + 1 else j.page }

/-- A printer takes a job (08 R140): the job ends BOOK-FULL at once, or the printer enters WAIT-BOOK. -/
def State.takeJob (s : State) (p : Fin 2) (j : Job) : State :=
  let j := j.latch s.settings p
  if s.settings.pagesPerBook < j.page then s.endJob j .bookFull (some p) none
  else s.onPrinter p (fun r => { r with state := .waitBook, job := some j, timer := some Config.bookWait })

/-- The queued jobs taken oldest first; a job that finds no printer stays, and later jobs are still considered. -/
def assignJobs : List Job → State → State
  | [], s => s
  | j :: rest, s =>
    match s.printerFor j with
    | some p => assignJobs rest (s.takeJob p j)
    | none => assignJobs rest { s with pbu := { s.pbu with queue := s.pbu.queue ++ [j] } }

/-- Assignment judged (08 R139). -/
def State.assign (s : State) : State := assignJobs s.pbu.queue { s with pbu := { s.pbu with queue := [] } }

/-! ### Printer transitions -/

/-- No feed, strike, stage or time runs: the motor is off and the strike output dropped. -/
def Printer.halt (r : Printer) : Printer :=
  { r with target := none, direction := none, furthest := none, confirmReturn := none, stage := none, timer := none,
           motor := .off, strike := false }

/-- IDLE, or OFFLINE by the service setting, without a job. -/
def Printer.rest (r : Printer) : Printer :=
  { r.halt with state := if r.online then .idle else .offline, job := none, leftBy := none }

/-- The printer becomes IDLE or OFFLINE; a printer that becomes free is an occasion of assignment (08 R139). -/
def State.restPrinter (s : State) (p : Fin 2) : State :=
  let s := s.onPrinter p Printer.rest
  if (s.printer p).free then s.assign else s

/-- WAIT-REMOVAL without a job (08 R154, R160, R161): its time starts and BOOK-LEFT given is No. R154 gives that No at an
eject's end; at a cancel in CONFIRMING and at a CLEAR with a book it is the model's (DEDUCED, log 25). -/
def Printer.awaitRemoval (leftBy : Option (Fin 8)) (r : Printer) : Printer :=
  { r.halt with state := .waitRemoval, job := none, leftBy := leftBy, bookLeft := false, timer := some Config.removalTime }

/-- PAGE-TURN with its wait (08 R152). -/
def Printer.enterPageTurn (r : Printer) : Printer :=
  { r.halt with state := .pageTurn, timer := some Config.bookWait }

/-- A printer enters FAULT (08 R157). -/
def State.faultPrinter (s : State) (p : Fin 2) (cause : FaultCause) : State :=
  let job := (s.printer p).job
  let s := s.onPrinter p (fun r => { r.halt with state := .fault, fault := some cause, job := none, leftBy := none })
  let s := match job with
    | some j => s.endJob j .faulted (some p) (some cause)
    | none => s
  s.notify .printerFault .sl

/-! ### Composing a line (08 R148, R149, 11 R201) -/

/-- What a line shows of its item. -/
structure ItemView where
  date : Option Date
  kind : RecordKind
  effect : Effect
  amount : Nat
deriving DecidableEq, Repr

/-- The job's next item: a journal record shows the business date at the strike, a carry item its original date. -/
def State.nextItem (s : State) (j : Job) : Option ItemView :=
  match j.items[j.next - 1]? with
  | some (.record q) =>
    (s.jnl.find q).map (fun r => { date := s.day.date, kind := r.kind, effect := r.effect, amount := r.amount })
  | some .carry =>
    (s.jnl.heldItem j.position).map (fun c => { date := some c.date, kind := c.kind, effect := c.effect, amount := c.amount })
  | none => none

/-- The candidate balance (08 R149). -/
def Job.candidate (j : Job) (v : ItemView) : Int :=
  match v.effect with
  | .credit => j.balance + v.amount
  | .debit => j.balance - v.amount
  | .none => j.balance

/-- The balance field carries asterisks: the overflow flag is set, or the candidate is out of range (08 R149). -/
def Job.overflows (j : Job) (v : ItemView) : Bool :=
  j.overflow || !decide (-Config.maxTotal ≤ j.candidate v ∧ j.candidate v ≤ Config.maxTotal)

/-- The kind code of a line. -/
def RecordKind.lineCode : RecordKind → Bytes
  | .deposit => codes ['D', 'E', 'P']
  | .withdrawal => codes ['W', 'D', 'L']
  | .credit => codes ['C', 'R', 'D']
  | .debit => codes ['D', 'B', 'T']
  | .reversal => codes ['R', 'E', 'V']
  | _ => codes [' ', ' ', ' ']

/-- The date field DDMMYY. -/
def dateField : Option Date → Bytes
  | none => fixedDigits 6 0
  | some d => fixedDigits 2 d.day ++ fixedDigits 2 d.month ++ fixedDigits 2 d.year

/-- The forty codes of a line. -/
def composeLine (minorDigits : Nat) (j : Job) (v : ItemView) : Bytes :=
  dateField v.date ++ codes [' '] ++ v.kind.lineCode ++ padLeft 14 (renderNat minorDigits v.amount) ++ codes [' ']
    ++ (if j.overflows v then List.replicate 15 0x2A#8 else padLeft 15 (render minorDigits (j.candidate v)))

/-! ### Strikes and feeds -/

/-- STRIKING entered (08 R150): the line of the job's next item goes to the head, and the strike output is driven. -/
def State.enterStriking (s : State) (p : Fin 2) : State :=
  let head := match (s.printer p).job with
    | some j =>
      match s.nextItem j with
      | some v => composeLine s.day.minorDigits j v
      | none => []
    | none => []
  s.onPrinter p (fun r => { r.halt with state := .striking, head := head, strike := true, timer := some Config.strikeTime })

/-- The current page of a job lies within its latched pages (08 R152). -/
def Job.pageWithin (j : Job) : Bool :=
  match j.geometry with
  | some g => decide (j.page ≤ g.pagesPerBook)
  | none => true

/-- The end of an eject (08 R154). -/
def State.ejectEnd (s : State) (p : Fin 2) : State :=
  match (s.printer p).job with
  | none => s.onPrinter p (fun r => r.awaitRemoval r.leftBy)
  | some j =>
    if (s.printer p).stage = some .final then
      s.onPrinter p (fun r => { r.halt with state := .waitRemoval, stage := some .final, bookLeft := false,
                                            timer := some Config.removalTime })
    else if j.pageWithin then s.onPrinter p (fun r => { r.halt with state := .waitRemoval, stage := some .pageEnd })
    else (s.onPrinter p (Printer.awaitRemoval (some j.position))).endJob j .bookFull (some p) none

/-- The end of a feed: the motor stops and the printer goes on (08 R146). -/
def State.feedEnd (s : State) (p : Fin 2) : State :=
  if (s.printer p).state = .ejecting then s.ejectEnd p else s.enterStriking p

/-- A printer as a feed starts (08 R146). An eject whose count lies below 0 runs FORWARD by R146, where R141's table says
that EJECTING's motor runs reverse: DEDUCED (log 34). -/
def Printer.feed (st : PrinterState) (target : Int) (r : Printer) : Printer :=
  { r with
    state := st, target := some target, furthest := some r.count, timer := some Config.feedTime, strike := false
    direction := if r.count < target then some .forward else some .reverse
    motor := if r.count < target then .forward else .reverse }

/-- A feed starts; a count equal to the target ends it at once (08 R146). -/
def State.startFeed (s : State) (p : Fin 2) (st : PrinterState) (target : Int) : State :=
  let s' := s.onPrinter p (Printer.feed st target)
  if (s.printer p).count = target then s'.feedEnd p else s'

/-- The feed target of a job's current line (08 R145, R151). -/
def Job.lineTarget (j : Job) : Int :=
  match j.geometry with
  | some g => ((g.topMargin + (j.line - 1) * g.linePitch : Nat) : Int)
  | none => 0

/-- A job after the strike done of an item (08 R150). -/
def Job.struck (j : Job) (v : ItemView) : Job :=
  let last := match j.geometry with
    | some g => decide (g.linesPerPage ≤ j.line)
    | none => false
  { j with
    printed := j.printed + 1
    next := j.next + 1
    balance := if j.overflows v then j.balance else j.candidate v
    overflow := j.overflows v
    line := if last then 1 else j.line + 1
    page := if last then j.page + 1 else j.page }

/-- The struck item is printed (07 R127). -/
def State.printItem (s : State) (j : Job) : State :=
  { s with jnl :=
    match j.items[j.next - 1]? with
    | some (.record q) => s.jnl.printRecord q j.page j.line
    | some .carry => s.jnl.printCarry j.position
    | none => s.jnl }

/-- The job is on printer `p`. -/
def State.setJob (s : State) (p : Fin 2) (j : Job) : State := s.onPrinter p (fun r => { r with job := some j })

/-- What follows a strike done (08 R151, R152). -/
def State.continueJob (s : State) (p : Fin 2) (j : Job) : State :=
  if j.items.length < j.next then (s.onPrinter p (fun r => { r.halt with stage := some .final })).startFeed p .ejecting 0
  else if j.line = 1 then (s.onPrinter p (fun r => { r.halt with stage := some .pageEnd })).startFeed p .ejecting 0
  else (s.onPrinter p Printer.halt).startFeed p .feeding j.lineTarget

/-- A strike done in STRIKING (08 R150); in any other state it is ignored. -/
def State.strikeDone (s : State) (p : Fin 2) : State :=
  if (s.printer p).state = .striking then
    match (s.printer p).job with
    | none => s
    | some j =>
      match s.nextItem j with
      | none => s
      | some v => ((s.printItem j).setJob p (j.struck v)).continueJob p (j.struck v)
  else s

/-- A strike's time ends without a done (08 R150). -/
def State.strikeTimeEnd (s : State) (p : Fin 2) : State :=
  if (s.printer p).state = .striking then s.faultPrinter p .head else s

/-- A feed runs. -/
def Printer.feeding (r : Printer) : Bool :=
  r.target.isSome && (r.state == .aligning || r.state == .feeding || r.state == .ejecting)

/-- A feed's time runs out (08 R147). -/
def State.jam (s : State) (p : Fin 2) : State := if (s.printer p).feeding then s.faultPrinter p .jam else s

/-- The encoder count after one step: it holds at its bounds (08 R143). -/
def encoderNext (dir : Direction) (c : Int) : Int :=
  match dir with
  | .forward => if c < Config.encoderHigh then c + 1 else c
  | .reverse => if Config.encoderLow < c then c - 1 else c

/-- The furthest count after a step, and whether the count has slipped 3 or more behind it (08 R147). -/
def furthestNext : Option Direction → Option Int → Int → Option Int
  | some .forward, some f, c => some (max f c)
  | some .reverse, some f, c => some (min f c)
  | _, f, _ => f
def slipped : Option Direction → Option Int → Int → Bool
  | some .forward, some f, c => decide (Config.slip ≤ f - c)
  | some .reverse, some f, c => decide (Config.slip ≤ c - f)
  | _, _, _ => false

/-- One encoder step (08 R143, R146, R147): edges count while the printer holds a book, and in FAULT. -/
def State.encoderStep (s : State) (p : Fin 2) (dir : Direction) : State :=
  let r := s.printer p
  if r.book || r.state == .fault then
    let c := encoderNext dir r.count
    if r.feeding then
      let furthest := furthestNext r.direction r.furthest c
      let s := s.onPrinter p (fun r => { r with count := c, furthest := furthest })
      if r.target = some c then s.feedEnd p
      else if slipped r.direction furthest c then s.faultPrinter p .slip
      else s
    else s.onPrinter p (fun r => { r with count := c })
  else s

/-! ### The book sensor (08 R142) -/

/-- An insertion (08 R142, R144, R153). -/
def State.insertion (s : State) (p : Fin 2) : State :=
  let r := s.printer p
  if r.book then s else
    let s := s.onPrinter p (fun r => { r with book := true, input := true })
    let confirming (ret : ConfirmReturn) : State :=
      s.onPrinter p (fun r => { r.halt with state := .confirming, confirmReturn := some ret, timer := some Config.confirmTime })
    match r.state with
    | .waitBook => confirming .waitBook
    | .pageTurn => confirming .pageTurn
    | _ => s

/-- The end of CONFIRMING by a removal: back to the confirm return state, its wait afresh (08 R145). -/
def Printer.unconfirm (r : Printer) : Printer :=
  { r.halt with state := if r.confirmReturn = some .pageTurn then .pageTurn else .waitBook, timer := some Config.bookWait }

/-- The eject of a PAGE-END whose page lies within the book (08 R154). -/
def Printer.turnsPage (r : Printer) : Bool :=
  match r.job with
  | some j => !(r.stage == some .final) && j.pageWithin
  | none => false

/-- What the end of an eject makes of BOOK-LEFT given: No, but where the page is to be turned (08 R154). -/
def Printer.ejected (r : Printer) : Printer := { r with bookLeft := r.turnsPage && r.bookLeft }

/-- A removal in EJECTING or WAIT-REMOVAL (08 R154, R155): what the printer does by its job and stage. -/
def State.bookTaken (s : State) (p : Fin 2) : State :=
  match (s.printer p).job with
  | none => s.restPrinter p
  | some j =>
    if (s.printer p).stage = some .final then (s.endJob j .done (some p) none).restPrinter p
    else if j.pageWithin then s.onPrinter p Printer.enterPageTurn
    else (s.endJob j .bookFull (some p) none).restPrinter p

/-- A removal (08 R142, R145, R154 to R156). -/
def State.removal (s : State) (p : Fin 2) : State :=
  let r := s.printer p
  if r.book then
    let s := s.onPrinter p (fun r => { r with book := false, input := false })
    match r.state with
    | .idle => s.assign
    | .confirming => s.onPrinter p Printer.unconfirm
    | .aligning | .striking | .feeding =>
      match r.job with
      | some j => (s.endJob j .incomplete (some p) none).restPrinter p
      | none => s.restPrinter p
    | .ejecting => (s.onPrinter p Printer.ejected).bookTaken p
    | .waitRemoval => s.bookTaken p
    | .waitBook | .pageTurn | .fault | .offline => s
  else s

/-- A wait for a book ends without an insertion: the job ends and the printer rests (08 R144, R153). -/
def State.waitEnds (s : State) (p : Fin 2) (st : PrinterState) (outcome : PrintOutcome) : State :=
  if (s.printer p).state = st then
    match (s.printer p).job with
    | some j => (s.endJob j outcome (some p) none).restPrinter p
    | none => s.restPrinter p
  else s
def State.noBook (s : State) (p : Fin 2) : State := s.waitEnds p .waitBook .noBook
def State.pageTimeout (s : State) (p : Fin 2) : State := s.waitEnds p .pageTurn .pageTimeout

/-- The book is confirmed (08 R145): the count becomes 0 and the printer aligns to the job's current line. -/
def State.bookConfirmed (s : State) (p : Fin 2) : State :=
  if (s.printer p).state = .confirming then
    match (s.printer p).job with
    | some j => (s.onPrinter p (fun r => { r.halt with count := 0 })).startFeed p .aligning j.lineTarget
    | none => s
  else s

/-- The stay of 30 s in WAIT-REMOVAL ends with the book present (08 R155). -/
def State.bookLeft (s : State) (p : Fin 2) : State :=
  let r := s.printer p
  if r.state = .waitRemoval ∧ r.book ∧ r.timer.isSome then
    let s := s.onPrinter p (fun r => { r with bookLeft := true, timer := none })
    match r.job, r.leftBy with
    | some j, _ => s.notify .bookLeft (.tl j.position)
    | none, some n => s.notify .bookLeft (.tl n)
    | none, none => s
  else s

/-- A position's see-teller time reaches 0 (08 R163). -/
def State.seeTellerEnd (s : State) (n : Fin 8) : State :=
  { s with pbu := { s.pbu with seeTeller := s.pbu.seeTeller.set n none } }

/-! ### Requesting, cancelling, servicing -/

/-- A PRINT-BOOK taken (08 R138): gathering, the job at the back of the queue, assignment. -/
def State.createJob (s : State) (n : Fin 8) (b : PrintBody) : State :=
  let job : Job :=
    { position := n, account := b.account, items := s.jnl.gather b.account,
      more := decide (Config.jobItems < s.jnl.eligibleCount b.account), next := 1, page := b.page, line := b.line,
      balance := b.balance, overflow := false, printed := 0, printer := none, geometry := none }
  State.assign { s with
    jnl := s.jnl.claim b.account n
    pbu := { s.pbu with queue := s.pbu.queue ++ [job] } }

/-- PRINT-BOOK (08 R137, R138). -/
def printBook (b : PrintBody) (n : Fin 8) (s : State) : Judged :=
  check ((s.pos n).state = .ready ∨ (s.pos n).state = .serving) .wrongState <|
  check (s.pbu.hasJob n = false) .printActive <|
  check (1 ≤ b.account ∧ b.account ≤ Config.maxAccount) .range <|
  check (1 ≤ b.page ∧ b.page ≤ s.settings.pagesPerBook) .range <|
  check (1 ≤ b.line ∧ b.line ≤ s.settings.linesPerPage) .range <|
  check (-Config.maxTotal ≤ b.balance ∧ b.balance ≤ Config.maxTotal) .range <|
  check (s.jnl.gather b.account ≠ []) .noItems <|
  .ok ⟨s.createJob n b, .queued,
    be 1 (s.jnl.gather b.account).length ++ be 1 (boolNum (decide (Config.jobItems < s.jnl.eligibleCount b.account)))⟩

/-- What the printer of a job cancelled does (08 R160's table); the job's end has been made. -/
def State.cancelOn (s : State) (p : Fin 2) (n : Fin 8) : State :=
  match (s.printer p).state with
  | .waitBook | .pageTurn => s.restPrinter p
  | .confirming => s.onPrinter p (Printer.awaitRemoval (some n))
  | .aligning | .striking | .feeding =>
    (s.onPrinter p (fun r => { r.halt with job := none, leftBy := some n })).startFeed p .ejecting 0
  | .ejecting => s.onPrinter p (fun r => { r with job := none, leftBy := some n, stage := none })
  | .waitRemoval =>
    s.onPrinter p (fun r => { r with job := none, leftBy := some n, stage := none,
                                     timer := if r.stage = some .final then r.timer else some Config.removalTime })
  | .idle | .fault | .offline => s.onPrinter p (fun r => { r with job := none })

/-- Position `n`'s job ends CANCELLED, queued or running (08 R160). -/
def State.cancelRunning (s : State) (p : Fin 2) (n : Fin 8) : State :=
  match (s.printer p).job with
  | some j => if j.position = n then (s.endJob j .cancelled (some p) none).cancelOn p n else s
  | none => s
def State.cancelQueued (s : State) (n : Fin 8) : State :=
  match s.pbu.queue.find? (fun j => decide (j.position = n)) with
  | some j =>
    { s with pbu := { s.pbu with queue := s.pbu.queue.filter (fun k => decide (k.position ≠ n)) } }.endJob j .cancelled none none
  | none => s
def State.cancelJob (s : State) (n : Fin 8) : State :=
  if (s.printer 0).runsFor n then s.cancelRunning 0 n
  else if (s.printer 1).runsFor n then s.cancelRunning 1 n
  else s.cancelQueued n

/-- CANCEL-PRINT (08 R160). -/
def cancelPrint (n : Fin 8) (s : State) : Judged :=
  check (s.pbu.hasJob n = true) .noSuch <| okReply (s.cancelJob n) []

/-- A printer as PRINTER-SERVICE reports it (08 R161, 11 R199). -/
def Printer.serviceBytes (r : Printer) : Bytes := be 1 r.state.num ++ be 1 (faultNum r.fault)

/-- PRINTER-SERVICE OFFLINE (08 R161). -/
def State.serviceOffline (s : State) (p : Fin 2) : State :=
  if (s.printer p).online then
    let job := (s.printer p).job
    let s := s.onPrinter p (fun r => { r with online := false })
    match job with
    | some j => s.cancelRunning p j.position
    | none => if (s.printer p).state = .idle then s.onPrinter p (fun r => { r with state := .offline }) else s
  else s

/-- PRINTER-SERVICE ONLINE (08 R161). -/
def State.serviceOnline (s : State) (p : Fin 2) : State :=
  let was := (s.printer p).state
  let s := s.onPrinter p (fun r => { r with online := true })
  if was = .offline then
    let s := s.onPrinter p (fun r => { r with state := .idle })
    if (s.printer p).free then s.assign else s
  else s

/-- PRINTER-SERVICE CLEAR in FAULT (08 R161). -/
def State.serviceClear (s : State) (p : Fin 2) : State :=
  let s := s.onPrinter p (fun r => { r with fault := none })
  if (s.printer p).book then s.onPrinter p (Printer.awaitRemoval none) else s.restPrinter p

/-- PRINTER-SERVICE (08 R161). -/
def printerService (printer action : Nat) (s : State) : Judged :=
  match readPrinter printer, readAction action with
  | some p, some .offline => let t := s.serviceOffline p; okReply t (t.printer p).serviceBytes
  | some p, some .online => let t := s.serviceOnline p; okReply t (t.printer p).serviceBytes
  | some p, some .clear =>
    check ((s.printer p).state = .fault) .wrongState <| let t := s.serviceClear p; okReply t (t.printer p).serviceBytes
  | _, _ => .error .badForm

/-! ### The meanings of the rows -/

def execPrintBook (l : Link) (tag : Byte) (body : Bytes) (s : State) : Host.Outcome State Fault Refusal :=
  .next (tellerRequest l .printBook tag body (printBook (readPrint body)) s)
def execCancelPrint (l : Link) (tag : Byte) (body : Bytes) (s : State) : Host.Outcome State Fault Refusal :=
  .next (tellerRequest l .cancelPrint tag body cancelPrint s)

/-- A whole PRINTER-SERVICE frame: the printer byte and the action byte of its row. -/
def execPrinterServiceOffline (l : Link) (tag printer : Byte) (s : State) : Host.Outcome State Fault Refusal :=
  .next (request l .printerService tag [printer, 1] (printerService printer.toNat 1) s)
def execPrinterServiceOnline (l : Link) (tag printer : Byte) (s : State) : Host.Outcome State Fault Refusal :=
  .next (request l .printerService tag [printer, 2] (printerService printer.toNat 2) s)
def execPrinterServiceClear (l : Link) (tag printer : Byte) (s : State) : Host.Outcome State Fault Refusal :=
  .next (request l .printerService tag [printer, 3] (printerService printer.toNat 3) s)

/-- A line or timer event: taken by a part that is alive, as one whole change (02 R30, R32). -/
def event (f : State → State) (s : State) : State := s.whenAlive (fun s => (f s).settle)

/-- While the part takes no event, a book put in or taken out changes the sensor's input level alone (08 R142). -/
def State.bookEvent (s : State) (p : Fin 2) (level : Bool) (f : State → State) : State :=
  if s.alive then event f s else s.onPrinter p (fun r => { r with input := level })

def execInsertion (p : Fin 2) (s : State) : Host.Outcome State Fault Refusal :=
  .next (s.bookEvent p true (fun s => s.insertion p))
def execRemoval (p : Fin 2) (s : State) : Host.Outcome State Fault Refusal :=
  .next (s.bookEvent p false (fun s => s.removal p))
def execNoBook (p : Fin 2) (s : State) : Host.Outcome State Fault Refusal := .next (event (fun s => s.noBook p) s)
def execPageTimeout (p : Fin 2) (s : State) : Host.Outcome State Fault Refusal := .next (event (fun s => s.pageTimeout p) s)
def execBookConfirmed (p : Fin 2) (s : State) : Host.Outcome State Fault Refusal :=
  .next (event (fun s => s.bookConfirmed p) s)
def execEncoderStep (p : Fin 2) (dir : Direction) (s : State) : Host.Outcome State Fault Refusal :=
  .next (event (fun s => s.encoderStep p dir) s)
def execJam (p : Fin 2) (s : State) : Host.Outcome State Fault Refusal := .next (event (fun s => s.jam p) s)
def execStrikeDone (p : Fin 2) (s : State) : Host.Outcome State Fault Refusal := .next (event (fun s => s.strikeDone p) s)
def execStrikeTimeEnd (p : Fin 2) (s : State) : Host.Outcome State Fault Refusal :=
  .next (event (fun s => s.strikeTimeEnd p) s)
def execBookLeft (p : Fin 2) (s : State) : Host.Outcome State Fault Refusal := .next (event (fun s => s.bookLeft p) s)
def execSeeTellerTimeEnd (n : Fin 8) (s : State) : Host.Outcome State Fault Refusal :=
  .next (event (fun s => s.seeTellerEnd n) s)

end Sys2Proof.Machine
end

