-- ==== Sys2Proof/Machine/DualControl.lean ====
section
/-! DEFINITION. The dual-control table (05): PROPOSE, CONFIRM, DECLINE, WITHDRAW, expiry, and the removal of
entries by a sign-off. -/

namespace Sys2Proof.Machine

/-! ### Entries -/

/-- A holder is position `n`'s drawer. -/
def Holder.isDrawer (n : Fin 8) : Holder → Bool
  | .drawer m => m == n
  | .vault => false

/-- An entry names position `n` (05 R84). -/
def Entry.names (n : Fin 8) (e : Entry) : Bool :=
  match e.proposal with
  | .transfer src dst _ => src.isDrawer n || dst.isDrawer n
  | .override m _ => m == n

/-- The entry of an id. -/
def Dct.find (d : Dct) (id : Nat) : Option Entry := d.entries.find? (fun e => e.id == id)

/-- The table without the entry of an id. -/
def Dct.drop (d : Dct) (id : Nat) : Dct := { d with entries := d.entries.filter (fun e => e.id != id) }
def State.dropEntry (s : State) (id : Nat) : State := { s with dct := s.dct.drop id }

/-- A position's state is READY. -/
def State.isReady (s : State) (n : Fin 8) : Bool := (s.pos n).state == .ready

/-- The position of a link or a holder, where it has one, is READY (05 R88, R90). -/
def State.linkReady (s : State) : Link → Bool
  | .tl n => s.isReady n
  | .sl => true
def State.holderReady (s : State) : Holder → Bool
  | .drawer n => s.isReady n
  | .vault => true

/-! ### PROPOSE (05 R87, R88) -/

/-- The confirming party a transfer admits for its proposer, or none (05 R87's table). -/
def confirmingParty (l : Link) (src dst : Holder) : Option Link :=
  match l, src, dst with
  | .tl n, .drawer a, .drawer b => if a = n ∧ b ≠ n then some (.tl b) else none
  | .tl n, .drawer a, .vault => if a = n then some .sl else none
  | .tl n, .vault, .drawer b => if b = n then some .sl else none
  | .sl, .drawer a, .vault => some (.tl a)
  | .sl, .vault, .drawer b => some (.tl b)
  | _, _, _ => none

/-- The breakdown of a proposal (05 R88, check 7). -/
def Cash.proposalOk (c : Cash) (amount : Nat) (lines : List Line) : Bool :=
  !lines.isEmpty && lines.all Line.isIn && c.linesSound lines && decide (worth c.faces (pieces true lines) = amount)

/-- A PROPOSE taken (05 R88): the entry is created and TRANSFER-OFFERED is set on the confirming party's link. -/
def State.createTransfer (s : State) (l confirmer : Link) (b : ProposeBody) : State :=
  let dct := s.dct.create l confirmer b.amount (s.settings.transferExpiry * 100) (.transfer b.source b.destination b.lines)
  State.notify { s with dct := dct } .transferOffered confirmer

/-- PROPOSE. -/
def propose (l : Link) (body : Bytes) (s : State) : Judged :=
  match readPropose body with
  | none => .error .badForm
  | some b =>
    check (b.source ≠ b.destination) .badForm <|
    match confirmingParty l b.source b.destination with
    | none => .error .notAllowed
    | some c =>
      check (s.day.state = .opened ∨ s.day.state = .cutoff) .dayState <|
      check (1 ≤ b.amount ∧ b.amount ≤ Config.maxAmount) .range <|
      check (s.linkReady l = true) .wrongState <|
      check (s.linkReady c = true) .wrongState <|
      check (s.cash.proposalOk b.amount b.lines = true) .breakdown <|
      check (s.sourceCovers b.source b.amount b.lines = true) .shortfall <|
      check (s.dct.entries.length < Config.tableRoom) .tableFull <|
      okReply (s.createTransfer l c b) (be 1 s.dct.freshId)

/-! ### CONFIRM (05 R89 to R92) -/

/-- The teller party of a transfer: the proposer when it is a teller link, otherwise the confirmer (05 R91). -/
def Entry.party (e : Entry) : Link :=
  match e.proposer with
  | .tl n => .tl n
  | .sl => e.confirmer

/-- The TRANSFER record (05 R91, 07 R120). -/
def State.transferRecord (s : State) (e : Entry) (src dst : Holder) : Record :=
  let r := match e.party with
    | .tl n => Record.plain .transfer (.position n) (s.pos n).tellerNum e.amount
    | .sl => Record.plain .transfer .none 0 e.amount
  { r with source := some src, destination := some dst }

/-- What a confirmed transfer does to a drawer besides its cash: the lock is released, then DRAWER-HIGH judged. -/
def State.releaseHolder (s : State) : Holder → State
  | .drawer n => s.release n
  | .vault => s
def State.judgeHolder (s : State) : Holder → State
  | .drawer n => s.judgeHigh n
  | .vault => s

/-- A transfer made (05 R91). -/
def State.makeTransfer (s : State) (e : Entry) (src dst : Holder) (lines : List Line) : State :=
  let t := (s.movePieces src dst lines).appendSystem (s.transferRecord e src dst)
  let t := (((t.releaseHolder src).releaseHolder dst).judgeHolder src).judgeHolder dst
  ((t.dropEntry e.id).notify .transferDone e.proposer).notify .transferDone e.confirmer

/-- The entry of an override leaves the table: its outcome is set and its position goes from HELD to SERVING
(03 R41, 05 R92 to R95). -/
def State.endOverride (s : State) (e : Entry) (n : Fin 8) (o : OverrideOutcome) : State :=
  ((s.dropEntry e.id).setOutcome n o).movePos n .serving

/-- A held posting made at its confirmation (04 R72, 05 R92). -/
def State.makeHeld (s : State) (e : Entry) (n : Fin 8) (p : Posting) : State :=
  (((s.makePosting n p).onProfile n Profile.addOverride).endOverride e n (.done s.jnl.next)).notify .overrideDone (.tl n)

/-- A held posting that fails its re-check (05 R92). -/
def State.failHeld (s : State) (e : Entry) (n : Fin 8) (c : Code) : State :=
  (s.endOverride e n (.failed c)).notify .overrideFailed (.tl n)

/-- CONFIRM of a TRANSFER entry (05 R90, R91). -/
def confirmTransfer (e : Entry) (src dst : Holder) (lines : List Line) (s : State) : Judged :=
  check (s.holderReady src = true ∧ s.holderReady dst = true) .wrongState <|
  check (s.sourceCovers src e.amount lines = true) .shortfall <|
  check (s.destinationTakes dst e.amount lines = true) .range <|
  okReply (s.makeTransfer e src dst lines) (be 1 1 ++ s.written.bytes)

/-- CONFIRM of an OVERRIDE entry (05 R92): taken whether the posting is then made or fails. -/
def confirmOverride (e : Entry) (n : Fin 8) (p : Posting) (s : State) : Judged :=
  match p.recheck n s (.ok ()) with
  | .ok () => okReply (s.makeHeld e n p) (be 1 2 ++ be 1 0 ++ be 2 s.jnl.next)
  | .error c => okReply (s.failHeld e n c) (be 1 2 ++ be 1 1 ++ be 2 c.num)

/-- CONFIRM (05 R89). -/
def confirm (l : Link) (id : Nat) (s : State) : Judged :=
  match s.dct.find id with
  | none => .error .noSuch
  | some e =>
    check (l = e.confirmer) .notAllowed <|
    match e.proposal with
    | .transfer src dst lines => confirmTransfer e src dst lines s
    | .override n p => confirmOverride e n p s

/-! ### DECLINE, WITHDRAW, expiry (05 R93 to R95) -/

/-- An entry declined (05 R93). -/
def State.decline (s : State) (e : Entry) : State :=
  match e.proposal with
  | .transfer _ _ _ => (s.dropEntry e.id).notify .transferEnded e.proposer
  | .override n _ => (s.endOverride e n .declined).notify .overrideFailed (.tl n)

/-- An entry withdrawn (05 R94). -/
def State.withdraw (s : State) (e : Entry) : State :=
  match e.proposal with
  | .transfer _ _ _ => (s.dropEntry e.id).notify .transferEnded e.confirmer
  | .override n _ => s.endOverride e n .withdrawn

/-- An entry expired (05 R95). -/
def State.expire (s : State) (e : Entry) : State :=
  match e.proposal with
  | .transfer _ _ _ => ((s.dropEntry e.id).notify .transferEnded e.proposer).notify .transferEnded e.confirmer
  | .override n _ => (s.endOverride e n .expired).notify .overrideFailed (.tl n)

/-- The entry of an id expires; with no such entry nothing occurs (05 R98). -/
def State.expireId (s : State) (id : Nat) : State :=
  match s.dct.find id with
  | some e => s.expire e
  | none => s

/-- DECLINE. -/
def decline (l : Link) (id : Nat) (s : State) : Judged :=
  match s.dct.find id with
  | none => .error .noSuch
  | some e => check (l = e.confirmer) .notAllowed <| okReply (s.decline e) []

/-- WITHDRAW. -/
def withdraw (l : Link) (id : Nat) (s : State) : Judged :=
  match s.dct.find id with
  | none => .error .noSuch
  | some e => check (l = e.proposer) .notAllowed <| okReply (s.withdraw e) []

/-! ### Removal by sign-off (05 R96) -/

/-- One entry removed by SIGN-OFF, or by FORCE-SIGN-OFF where `forced`, of position `n`. -/
def State.removeFor (n : Fin 8) (forced : Bool) (s : State) (e : Entry) : State :=
  match e.proposal with
  | .transfer _ _ _ =>
    let s := s.dropEntry e.id
    let s := if forced || e.proposer != .tl n then s.notify .transferEnded e.proposer else s
    if forced || e.confirmer != .tl n then s.notify .transferEnded e.confirmer else s
  | .override m _ => (s.dropEntry e.id).setOutcome m .dropped

/-- Every entry naming position `n` removed. -/
def State.removeEntries (s : State) (n : Fin 8) (forced : Bool) : State :=
  (s.dct.entries.filter (Entry.names n)).foldl (State.removeFor n forced) s

/-! ### The entries awaiting a link (05 R97) -/

/-- The entries whose confirming party is `l`, oldest first. -/
def Dct.awaiting (d : Dct) (l : Link) : List Entry := d.entries.filter (fun e => e.confirmer == l)

/-! ### The meanings of the rows -/

def execPropose (l : Link) (tag : Byte) (body : Bytes) (s : State) : Host.Outcome State Fault Refusal :=
  .next (request l .propose tag body (propose l body) s)
def execConfirm (l : Link) (tag : Byte) (body : Bytes) (s : State) : Host.Outcome State Fault Refusal :=
  .next (request l .confirm tag body (confirm l (field body 0 1)) s)
def execDecline (l : Link) (tag : Byte) (body : Bytes) (s : State) : Host.Outcome State Fault Refusal :=
  .next (request l .decline tag body (decline l (field body 0 1)) s)
def execWithdraw (l : Link) (tag : Byte) (body : Bytes) (s : State) : Host.Outcome State Fault Refusal :=
  .next (request l .withdraw tag body (withdraw l (field body 0 1)) s)
def execExpiry (id : Nat) (s : State) : Host.Outcome State Fault Refusal := .next (event (fun s => s.expireId id) s)

end Sys2Proof.Machine
end

