-- ==== Sys2Proof/Machine/Positions.lean ====
section
/-! DEFINITION. The position table (03): signing on and off, customer transactions, away and unlock, forced
sign-off, the drawer sensor and lock, the watch notices, and the readings of a position. -/

namespace Sys2Proof.Machine

/-! ### Signing on (03 R38) -/

/-- A SIGN-ON taken. -/
def State.signOn (s : State) (n : Fin 8) (id : Nat) : State :=
  ((s.onPos n (fun p => { p with teller := some id, forced := false })).movePos n .ready).append
    (Record.plain .signOn (.position n) id 0)

/-- Some position holds this teller ID. -/
def State.tellerInUse (s : State) (id : Nat) : Bool := s.positions.any (fun p => p.teller == some id)

/-- SIGN-ON. -/
def signOn (id : Nat) (n : Fin 8) (s : State) : Judged :=
  check (1 ≤ id ∧ id ≤ Config.maxTeller) .range <|
  check (s.day.state = .opened) .dayState <|
  check ((s.pos n).state = .closed) .wrongState <|
  check (s.tellerInUse id = false) .tellerInUse <|
  check (s.jnl.takesCustomer = true) .journalFull <|
  okReply (s.signOn n id) (be 2 s.jnl.next)

/-! ### Customer transactions (03 R39, R40) -/

/-- An OPEN-TXN taken. -/
def State.openTxn (s : State) (n : Fin 8) : State :=
  (s.onPos n (fun p => { p with txnStart := some s.jnl.next, stopwatch := 0, running := true,
                                serviceLimit := s.settings.serviceLimit, serviceRaised := false })).movePos n .serving

/-- OPEN-TXN. -/
def openTxn (n : Fin 8) (s : State) : Judged :=
  check (s.day.state = .opened) .dayState <|
  check ((s.pos n).state = .ready) .wrongState <|
  check ((s.pos n).sensor = .shut) .drawerOpen <|
  okReply (s.openTxn n) []

/-- A transaction's record at its end: the stopwatch stops with its value kept (03 R40). -/
def Position.endTxn (p : Position) : Position := { p with running := false, serviceRaised := false, txnStart := none }

/-- The transaction of position `n` ends, its duration handed to the profile and its amount cleared (03 R40, R47). -/
def State.endTxn (s : State) (n : Fin 8) : State :=
  ((s.onPos n Position.endTxn).onProfile n (Profile.addDuration (s.pos n).stopwatch)).setAmount n none

/-- CLOSE-TXN. -/
def closeTxn (n : Fin 8) (s : State) : Judged :=
  check ((s.pos n).state = .serving) .wrongState <|
  okReply ((s.endTxn n).movePos n .ready) (be 3 (s.pos n).stopwatch)

/-! ### Away and unlock (03 R42, R43) -/

/-- AWAY. -/
def away (n : Fin 8) (s : State) : Judged :=
  check ((s.pos n).state = .ready) .wrongState <|
  check ((s.pos n).sensor = .shut) .drawerOpen <|
  okReply ((s.onPos n Position.secure).movePos n .away) []

/-- UNLOCK. -/
def unlock (id : Nat) (n : Fin 8) (s : State) : Judged :=
  check (1 ≤ id ∧ id ≤ Config.maxTeller) .range <|
  check ((s.pos n).state = .away) .wrongState <|
  check ((s.pos n).teller = some id) .notAllowed <|
  okReply (s.movePos n .ready) []

/-! ### Signing off (03 R44 to R47) -/

/-- The PUT-AWAY record of drawer `n` with a total (03 R46, 07 R120). -/
def putAwayRecord (n : Fin 8) (teller : Nat) (total : Int) : Record :=
  { Record.plain .putAway (.position n) teller total.toNat with source := some (.drawer n), destination := some .vault }

/-- The records of a sign-off: PUT-AWAY where the drawer was not empty before the put-away, then SIGN-OFF (03 R46).
`before` is the drawer's record before the put-away. -/
def State.signOffRecords (s : State) (n : Fin 8) (before : CashRecord) : State :=
  let teller := (s.pos n).tellerNum
  let s := if before.isEmpty then s else s.appendSystem (putAwayRecord n teller before.total)
  s.appendSystem (Record.plain .signOff (.position n) teller 0)

/-- The lock locks, the position becomes CLOSED and its teller ID absent (03 R46, steps 5 and 6). -/
def State.close (s : State) (n : Fin 8) : State :=
  (s.onPos n (fun p => { p.secure with teller := none })).movePos n .closed

/-- A SIGN-OFF taken (03 R46). -/
def State.signOff (s : State) (n : Fin 8) : State :=
  ((((s.putAway n).removeEntries n false).signOffRecords n (s.drawer n))).close n

/-- SIGN-OFF. -/
def signOff (n : Fin 8) (s : State) : Judged :=
  check ((s.pos n).state = .balanced ∨ (s.pos n).state = .ready ∧ (s.drawer n).isEmpty = true) .wrongState <|
  check (s.pbu.hasJob n = false) .printActive <|
  check ((s.pos n).sensor = .shut) .drawerOpen <|
  check (s.canPutAway n = true) .range <|
  okReply (s.signOff n) []

/-- The states in which a transaction is open. -/
def PosState.inTxn : PosState → Bool
  | .serving | .held => true
  | .closed | .ready | .away | .balancing | .outOfBalance | .forceWait | .balanced => false

/-- Step 1 of a forced sign-off: an open transaction ends. -/
def State.endOpenTxn (s : State) (n : Fin 8) : State := if (s.pos n).state.inTxn then s.endTxn n else s

/-- Step 3: the last declaration becomes NONE, not applied, whatever the position's state (06 R100, R109). -/
def State.endContext (s : State) (n : Fin 8) : State := s.onContext n (fun c => { c with declaration := none })

/-- A FORCE-SIGN-OFF taken (03 R47). -/
def State.forceSignOff (s : State) (n : Fin 8) : State :=
  let t := (((s.endOpenTxn n).removeEntries n true).endContext n).cancelJob n
  ((t.putAway n).signOffRecords n (t.drawer n)).close n

/-- FORCE-SIGN-OFF. -/
def forceSignOff (v : Nat) (s : State) : Judged :=
  match readPosition? v with
  | none => .error .badForm
  | some n =>
    check ((s.pos n).state ≠ .closed) .wrongState <|
    check (s.canPutAway n = true) .range <|
    okReply (s.forceSignOff n) []

/-! ### Reading a position (03 R57, R58) -/

/-- STATUS on a teller link. -/
def statusTeller (n : Fin 8) (s : State) : Judged :=
  okReply s
    ((s.pos n).bytes ++ (s.pbu.results.get n).bytes ++ (s.dct.outcomes.get n).bytes
      ++ counted ((s.dct.awaiting (.tl n)).map Entry.bytes) ++ tagBytes (s.link (.tl n)).lastTag)

/-- A balancing context as READ-POSITION returns it: an absent item reads 0. -/
def Context.bytes (c : Context) : Bytes :=
  be 1 c.attempts ++ be 1 (boolNum c.declaration.isSome)
    ++ ((c.declaration.getD (Vec.fill 0)).toList.map (be 2)).flatten
    ++ be 1 (boolNum c.difference.isSome) ++ beInt 6 (c.difference.getD 0)

/-- READ-POSITION. -/
def readPosition (v : Nat) (s : State) : Judged :=
  match readPosition? v with
  | none => .error .badForm
  | some n =>
    okReply s ((s.pos n).bytes ++ (s.pbu.results.get n).bytes ++ tagBytes (s.link (.tl n)).lastTag ++ (s.context n).bytes)

/-! ### The drawer sensor and lock (03 R49, R51, R52, R54) -/

/-- The sensor input takes a level: one that differs from the debounced state begins a hold of 5 hundredths, and a
return abandons it (03 R49). -/
def Position.sense (level : Sensor) (p : Position) : Position :=
  { p with input := level
           hold := if level = p.sensor then none else if p.hold.isSome then p.hold else some Config.sensorHold }

/-- The record of a forced opening (03 R54). -/
def State.forcedOpening (s : State) (n : Fin 8) : State :=
  let s := (s.onPos n (fun p => { p with forced := true })).notify .drawerForced .sl
  if s.day.state = .opened ∨ s.day.state = .cutoff then
    s.appendSystem (Record.plain .drawerForced (.position n) (s.pos n).tellerNum 0)
  else s

/-- The drawer as it opens: the window ends, the open time starts and the limit is latched (03 R51). -/
def Position.open (limit : Nat) (p : Position) : Position :=
  { p with sensor := .opened, input := .opened, hold := none, window := none, openTime := 0, openLimit := limit,
           longRaised := false }

/-- An opening of drawer `n`; one while LOCKED is forced (03 R51, R54). -/
def State.opening (s : State) (n : Fin 8) : State :=
  if (s.pos n).sensor = .shut then
    let t := s.onPos n (Position.open s.settings.openLimit)
    if (s.pos n).lock = .locked then t.forcedOpening n else t
  else s

/-- The drawer as it shuts (03 R52). -/
def Position.shut (p : Position) : Position :=
  { p with sensor := .shut, input := .shut, hold := none, longRaised := false, lock := .locked, window := none }

/-- A shutting of drawer `n`. -/
def State.shutting (s : State) (n : Fin 8) : State :=
  if (s.pos n).sensor = .opened then s.onPos n Position.shut else s

/-- The end of a release window with the drawer SHUT (03 R52). -/
def State.windowEnd (s : State) (n : Fin 8) : State :=
  if (s.pos n).window.isSome ∧ (s.pos n).sensor = .shut then s.onPos n Position.secure else s

/-! ### Watch notices and idleness (03 R48, R53, R56) -/

/-- The drawer-open time reaches the latched limit (03 R53). -/
def State.drawerLong (s : State) (n : Fin 8) : State :=
  if (s.pos n).sensor = .opened ∧ (s.pos n).longRaised = false then
    ((s.onPos n (fun p => { p with longRaised := true, openTime := max p.openTime (p.openLimit * 100) })).notify
      .drawerLong (.tl n)).notify .drawerLong .sl
  else s

/-- A running stopwatch reaches the latched limit (03 R56). -/
def State.serviceLong (s : State) (n : Fin 8) : State :=
  if (s.pos n).running = true ∧ (s.pos n).serviceRaised = false then
    (s.onPos n (fun p => { p with serviceRaised := true, stopwatch := max p.stopwatch (p.serviceLimit * 100) })).notify
      .serviceLong .sl
  else s

/-- The silence of a position that may be idle reaches the idle blank time (03 R48); the flag follows when the whole
change settles. -/
def State.idleReached (s : State) (n : Fin 8) : State :=
  if (s.pos n).state.mayIdle then
    s.onPos n (fun p => { p with silence := max p.silence (s.settings.idleBlank * 100) })
  else s

/-! ### The meanings of the rows -/

def execSignOn (l : Link) (tag : Byte) (body : Bytes) (s : State) : Host.Outcome State Fault Refusal :=
  .next (tellerRequest l .signOn tag body (signOn (field body 0 2)) s)
def execOpenTxn (l : Link) (tag : Byte) (body : Bytes) (s : State) : Host.Outcome State Fault Refusal :=
  .next (tellerRequest l .openTxn tag body openTxn s)
def execCloseTxn (l : Link) (tag : Byte) (body : Bytes) (s : State) : Host.Outcome State Fault Refusal :=
  .next (tellerRequest l .closeTxn tag body closeTxn s)
def execAway (l : Link) (tag : Byte) (body : Bytes) (s : State) : Host.Outcome State Fault Refusal :=
  .next (tellerRequest l .away tag body away s)
def execUnlock (l : Link) (tag : Byte) (body : Bytes) (s : State) : Host.Outcome State Fault Refusal :=
  .next (tellerRequest l .unlock tag body (unlock (field body 0 2)) s)
def execSignOff (l : Link) (tag : Byte) (body : Bytes) (s : State) : Host.Outcome State Fault Refusal :=
  .next (tellerRequest l .signOff tag body signOff s)
def execForceSignOff (l : Link) (tag : Byte) (body : Bytes) (s : State) : Host.Outcome State Fault Refusal :=
  .next (request l .forceSignOff tag body (forceSignOff (field body 0 1)) s)
def execReadPosition (l : Link) (tag : Byte) (body : Bytes) (s : State) : Host.Outcome State Fault Refusal :=
  .next (request l .readPosition tag body (readPosition (field body 0 1)) s)
def execStatusTeller (n : Fin 8) (tag : Byte) (body : Bytes) (s : State) : Host.Outcome State Fault Refusal :=
  .next (request (.tl n) .status tag body (statusTeller n) s)
def execIdle (n : Fin 8) (s : State) : Host.Outcome State Fault Refusal := .next (event (fun s => s.idleReached n) s)

/-- While the part takes no event, a change of the sensor input moves the input's level alone (03 R49). -/
def execSensorInputChange (n : Fin 8) (level : Sensor) (s : State) : Host.Outcome State Fault Refusal :=
  .next (if s.alive then (s.onPos n (Position.sense level)).settle else s.onPos n (fun p => { p with input := level }))
def execOpening (n : Fin 8) (s : State) : Host.Outcome State Fault Refusal := .next (event (fun s => s.opening n) s)
def execShutting (n : Fin 8) (s : State) : Host.Outcome State Fault Refusal := .next (event (fun s => s.shutting n) s)
def execReleaseWindowEnd (n : Fin 8) (s : State) : Host.Outcome State Fault Refusal :=
  .next (event (fun s => s.windowEnd n) s)
def execDrawerLong (n : Fin 8) (s : State) : Host.Outcome State Fault Refusal := .next (event (fun s => s.drawerLong n) s)
def execServiceLong (n : Fin 8) (s : State) : Host.Outcome State Fault Refusal := .next (event (fun s => s.serviceLong n) s)

end Sys2Proof.Machine
end

