-- ==== Sys2Proof/Machine/Balancing.lean ====
section
/-! DEFINITION. Balancing (06 R100 to R112): BEGIN-BALANCE, DECLARE, FORCE-BALANCE, REOPEN and the vault's count. -/

namespace Sys2Proof.Machine

/-- A BEGIN-BALANCE taken (06 R101). -/
def State.beginBalance (s : State) (n : Fin 8) : State :=
  ((s.onContext n (fun _ => Context.empty)).movePos n .balancing).release n

/-- BEGIN-BALANCE. -/
def beginBalance (n : Fin 8) (s : State) : Judged :=
  check ((s.pos n).state = .ready) .wrongState <|
  check (s.dct.entries.any (Entry.names n) = false) .wrongState <|
  okReply (s.beginBalance n) []

/-! ### Declarations -/

/-- No slot appears on two lines. -/
def countsDistinct : List CountLine → Bool
  | [] => true
  | a :: l => l.all (fun b => b.slot != a.slot) && countsDistinct l

/-- The lines of a declaration are sound: each slot present, none named twice, each count within its bound (06 R102, R110). -/
def Cash.countsSound (c : Cash) (bound : Nat) (lines : List CountLine) : Bool :=
  lines.all (fun l => (c.face? l.slot).isSome && decide (l.count ≤ bound)) && countsDistinct lines

/-- The declared counts: each named slot's count, and 0 for every other slot. -/
def declaredCounts (lines : List CountLine) : Vec 12 Nat :=
  Vec.tab fun i => ((lines.filter (fun l => l.slot == i.val)).map CountLine.count).sum

/-- The record an accepted difference makes, by its sign (06 R104, R111). -/
def differenceRecord (d : Int) (place : Place) (teller : Nat) : Record :=
  Record.plain (if 0 < d then .cashOver else .cashShort) place teller d.natAbs

/-- The OVER or SHORT record appended where the difference is not 0. -/
def State.appendDifference (s : State) (d : Int) (place : Place) (teller : Nat) : State :=
  if d = 0 then s else s.appendSystem (differenceRecord d place teller)

/-- What became of that record, asked for in state `s`. -/
def State.writtenDifference (s : State) (d : Int) : Written := if d = 0 then .notMade else s.written

/-- The counts declared of drawer `n` become its holding, with the difference they were accepted at (06 R104, steps 1 to 7). -/
def State.applyDeclaration (s : State) (n : Fin 8) (counts : Vec 12 Nat) (d : Int) : State :=
  let s := s.setDrawer n (CashRecord.make s.cash.faces counts 0)
  let s := { s with cash := s.cash.addDifference d }
  let s := s.appendDifference d (.position n) (s.pos n).tellerNum
  let s := (s.onProfile n (Profile.addDifference d)).rearm n
  (s.onContext n (fun c => { c with declaration := some counts, difference := some d })).movePos n .balanced

/-- A declaration outside tolerance (06 R105). -/
def State.miss (s : State) (n : Fin 8) (counts : Vec 12 Nat) (d : Int) : State :=
  let attempts := (s.context n).attempts + 1
  let st : PosState := if attempts < 3 then .outOfBalance else .forceWait
  let s' := s.onContext n (fun c => { c with attempts := attempts, declaration := some counts, difference := some d })
  if (s.pos n).state = st then s' else s'.movePos n st

/-- The body of a DECLARE's reply after the outcome (11 R199). -/
def declareRest (total d : Int) (attempts : Nat) (w : Written) : Bytes :=
  be 5 total.toNat ++ beInt 6 d ++ be 1 attempts ++ w.bytes

/-- A DECLARE that passes R102, with its declared counts and total (06 R103 to R105). -/
def judgeDeclaration (counts : Vec 12 Nat) (n : Fin 8) (s : State) : Judged :=
  let total := worth s.cash.faces counts
  let d := total - (s.drawer n).total
  if d.natAbs ≤ s.day.tolerance then
    check (s.cash.takesDifference d = true) .range <|
      okReply (s.applyDeclaration n counts d) (be 1 0 ++ declareRest total d (s.context n).attempts (s.writtenDifference d))
  else
    okReply (s.miss n counts d)
      (be 1 (if (s.context n).attempts + 1 < 3 then 1 else 2) ++ declareRest total d ((s.context n).attempts + 1) .notMade)

/-- DECLARE (06 R102). -/
def declare (body : Bytes) (n : Fin 8) (s : State) : Judged :=
  check ((s.pos n).state = .balancing ∨ (s.pos n).state = .outOfBalance) .wrongState <|
  check (s.cash.countsSound Config.maxDrawerCount (readCounts 2 body) = true) .breakdown <|
  check (worth s.cash.faces (declaredCounts (readCounts 2 body)) ≤ Config.maxTotal) .range <|
  judgeDeclaration (declaredCounts (readCounts 2 body)) n s

/-! ### The supervisor's decision (06 R106) and REOPEN (06 R107) -/

/-- FORCE-BALANCE: the last declaration is applied as if it were within tolerance. -/
def forceBalance (v : Nat) (s : State) : Judged :=
  match readPosition? v with
  | none => .error .badForm
  | some n =>
    check ((s.pos n).state = .forceWait) .wrongState <|
    match (s.context n).declaration with
    | none => .error .wrongState
    | some counts =>
      let d := worth s.cash.faces counts - (s.drawer n).total
      check (s.cash.takesDifference d = true) .range <|
        okReply (s.applyDeclaration n counts d) (beInt 6 d ++ (s.writtenDifference d).bytes)

/-- REOPEN. -/
def reopen (n : Fin 8) (s : State) : Judged :=
  check ((s.pos n).state = .balanced) .wrongState <| okReply (s.movePos n .ready) []

/-! ### Counting the vault (06 R110, R111) -/

/-- The VAULT-COUNT record. -/
def vaultCountRecord (total : Int) : Record := Record.plain .vaultCount .vault 0 total.toNat

/-- A VAULT-DECLARE taken, up to its VAULT-COUNT record; the OVER or SHORT record is asked for next. -/
def State.countVault (s : State) (counts : Vec 12 Nat) (d : Int) : State :=
  let vault := CashRecord.make s.cash.faces counts 0
  State.appendSystem { s with cash := { s.cash with vault := vault }.addDifference d } (vaultCountRecord vault.total)

/-- VAULT-DECLARE. -/
def vaultDeclare (body : Bytes) (s : State) : Judged :=
  check (s.day.state = .opened ∨ s.day.state = .cutoff) .dayState <|
  check (s.cash.countsSound Config.maxVaultCount (readCounts 3 body) = true) .breakdown <|
  let counts := declaredCounts (readCounts 3 body)
  let total := worth s.cash.faces counts
  check (total ≤ Config.maxTotal) .range <|
  let d := total - s.cash.vault.total
  check (s.cash.takesDifference d = true) .range <|
  let t := s.countVault counts d
  okReply (t.appendDifference d .vault 0) (be 5 total.toNat ++ beInt 6 d ++ s.written.bytes ++ (t.writtenDifference d).bytes)

/-! ### The meanings of the rows -/

def execBeginBalance (l : Link) (tag : Byte) (body : Bytes) (s : State) : Host.Outcome State Fault Refusal :=
  .next (tellerRequest l .beginBalance tag body beginBalance s)
def execDeclare (l : Link) (tag : Byte) (body : Bytes) (s : State) : Host.Outcome State Fault Refusal :=
  .next (tellerRequest l .declare tag body (declare body) s)
def execForceBalance (l : Link) (tag : Byte) (body : Bytes) (s : State) : Host.Outcome State Fault Refusal :=
  .next (request l .forceBalance tag body (forceBalance (field body 0 1)) s)
def execReopen (l : Link) (tag : Byte) (body : Bytes) (s : State) : Host.Outcome State Fault Refusal :=
  .next (tellerRequest l .reopen tag body reopen s)
def execVaultDeclare (l : Link) (tag : Byte) (body : Bytes) (s : State) : Host.Outcome State Fault Refusal :=
  .next (request l .vaultDeclare tag body (vaultDeclare body) s)

end Sys2Proof.Machine
end

