-- ==== Sys2Proof/Machine/Uplink.lean ====
section
/-! DEFINITION. The uplink controller (10): the transmit list, ping rounds, the link state, the blocks of a
transmission, retry decisions, the SUMMARY, and the bits of a frame on the line. -/

namespace Sys2Proof.Machine

/-! ### The transmit list (10 R181) -/

/-- The purpose of a frame: a PING, a DAY-OPEN-REPLY, the block of buffer A, the block of buffer B. -/
def UpFrame.purpose : UpFrame → Nat
  | .ping _ _ => 0
  | .dayOpenReply _ _ _ => 1
  | .block b _ _ => 2 + b.val
  | .summary b _ _ => 2 + b.val

/-- The next frame begins to be sent when none is being sent. -/
def Ulc.pump (u : Ulc) : Ulc :=
  match u.sending, u.waiting with
  | none, f :: rest => { u with sending := some f, waiting := rest }
  | _, _ => u

/-- A frame for a purpose waits in the list. -/
def Ulc.waits (u : Ulc) (purpose : Nat) : Bool := u.waiting.any (fun g => g.purpose == purpose)

/-- A frame produced: it replaces the waiting frame of its purpose in its place, or joins the back of the list. -/
def Ulc.produce (u : Ulc) (f : UpFrame) : Ulc :=
  let waiting :=
    if u.waits f.purpose then u.waiting.map (fun g => if g.purpose = f.purpose then f else g) else u.waiting ++ [f]
  Ulc.pump { u with waiting := waiting }
def State.produce (s : State) (f : UpFrame) : State := { s with ulc := s.ulc.produce f }

/-- A buffer emptied: its frame is removed from the list if it is waiting there. -/
def Ulc.free (u : Ulc) (b : Fin 2) : Ulc :=
  { u with buffers := u.buffers.set b none, waiting := u.waiting.filter (fun g => g.purpose != 2 + b.val) }

/-- Both buffers emptied and the verdict wait ended (10 R183, R185, R195). -/
def Ulc.clear (u : Ulc) : Ulc := { (u.free 0).free 1 with verdict := none }

/-! ### The SUMMARY (10 R192, R193) -/

/-- The control totals of a journal. -/
def Record.isCredit (r : Record) : Bool :=
  match r.kind with
  | .deposit | .credit | .cashOver => true
  | .reversal => r.effect == .credit
  | _ => false
def Record.isDebit (r : Record) : Bool :=
  match r.kind with
  | .withdrawal | .debit | .cashShort => true
  | .reversal => r.effect == .debit
  | _ => false
def Journal.totals (j : Journal) : Totals :=
  { records := j.records.length
    credit := ((j.records.filter Record.isCredit).map Record.amount).sum
    debit := ((j.records.filter Record.isDebit).map Record.amount).sum
    hash := (j.records.map (fun r => r.account.getD 0)).sum % Config.hashModulus }

/-- The SUMMARY's figures, each as it stands now. -/
def State.summary (s : State) : Summary :=
  { date := s.day.date, totals := s.jnl.totals, opening := s.cash.opening, cashIn := s.cash.cashIn,
    cashOut := s.cash.cashOut, dayOver := s.cash.dayOver, dayShort := s.cash.dayShort, vault := s.cash.vault,
    unjournaled := s.jnl.unjournaled, carryDrop := s.jnl.carryDrop, profiles := s.bal.profiles }

/-! ### Blocks (10 R180, R186) -/

/-- The numbers of the records a buffer holds. -/
def Block.seqs (b : Block) : List Nat :=
  match b.contents with
  | .records q => q
  | .summary _ => []
def heldSeqs : Option Block → List Nat
  | some b => b.seqs
  | none => []

/-- The other buffer. -/
def otherBuffer (b : Fin 2) : Fin 2 := if b = 0 then 1 else 0

/-- The block number after `k`: 1 follows 65,535. -/
def nextNumber (k : Nat) : Nat := if k < Config.maxBlock then k + 1 else 1

/-- The frame of the block in buffer `b`. -/
def State.blockFrame (s : State) (b : Fin 2) (k : Block) : UpFrame :=
  match k.contents with
  | .records q => .block b k.number (s.jnl.records.filter (fun r => q.contains r.seq))
  | .summary m => .summary b k.number m

/-- A new block put into buffer `b` under the next block number, its frame produced. -/
def State.load (s : State) (b : Fin 2) (contents : Contents) : State :=
  let k : Block := { number := s.ulc.nextBlock, contents := contents, held := false, retries := 0, answer := none }
  State.produce
    { s with ulc := { s.ulc with buffers := s.ulc.buffers.set b (some k), nextBlock := nextNumber s.ulc.nextBlock } }
    (s.blockFrame b k)

/-- The records a FREE buffer would draw: the lowest-numbered that are neither sent nor held in the other buffer. -/
def State.drawn (s : State) (b : Fin 2) : List Nat :=
  ((s.jnl.records.filter (fun r => !r.sent && !(heldSeqs (s.ulc.buffers.get (otherBuffer b))).contains r.seq)).take
    Config.blockRecords).map Record.seq

/-- A FREE buffer filled with records (10 R186, step 1). -/
def State.fillBuffer (s : State) (b : Fin 2) : State :=
  if (s.ulc.buffers.get b).isNone ∧ s.drawn b ≠ [] then s.load b (.records (s.drawn b)) else s

/-- The SUMMARY built into buffer A once every record is sent (10 R186, step 2). -/
def State.fillSummary (s : State) : State :=
  if (s.ulc.buffers.get 0).isNone ∧ (s.ulc.buffers.get 1).isNone ∧ s.jnl.allSent ∧ s.ulc.verdict.isNone then
    s.load 0 (.summary s.summary)
  else s

/-- Filling, only while the day is SENDING and the link is UP (10 R186). -/
def State.fill (s : State) : State :=
  if s.day.state = .sending ∧ s.ulc.up then ((s.fillBuffer 0).fillBuffer 1).fillSummary else s

/-- A transmission starts (10 R185). -/
def State.startTransmission (s : State) : State :=
  State.fill { s with ulc := { s.ulc.clear with nextBlock := 1 } }

/-! ### The link state (10 R183) -/

/-- Going UP sets LINK-CHANGED on SL and, while the day is SENDING, is an occasion for filling. -/
def State.linkUp (s : State) : State :=
  if s.ulc.up then s
  else (State.notify { s with ulc := { s.ulc with up := true } } .linkChanged .sl).fill

/-- Going DOWN sets LINK-CHANGED on SL, empties both buffers and ends the verdict wait. -/
def State.linkDown (s : State) : State :=
  if s.ulc.up then State.notify { s with ulc := { s.ulc.clear with up := false } } .linkChanged .sl else s

/-! ### Ping rounds (10 R182) -/

/-- A PING carries the day state and the business date as they stand. -/
def State.ping (s : State) : State := s.produce (.ping s.day.state s.day.date)

/-- A ping round begins: it latches the ping retries and produces its first PING. -/
def State.beginRound (s : State) : State :=
  State.ping { s with ulc := { s.ulc with round := some { sent := 1, allowed := 1 + s.settings.pingRetries, wait := none } } }

/-- A round is due: none runs, and a ping period has passed since the ping reference. -/
def State.roundDue (s : State) : Bool := s.ulc.round.isNone && decide (s.settings.pingPeriod * 100 ≤ s.ulc.sinceRef)
def State.judgeRound (s : State) : State := if s.roundDue then s.beginRound else s

/-- A ping period has passed since the ping reference. -/
def State.pingRound (s : State) : State :=
  if s.ulc.round.isNone then
    State.beginRound { s with ulc := { s.ulc with sinceRef := max s.ulc.sinceRef (s.settings.pingPeriod * 100) } }
  else s

/-- The wait after a PING ends: another PING, or the round fails. -/
def State.pingWaitEnd (s : State) : State :=
  match s.ulc.round with
  | some r =>
    if r.wait.isNone then s
    else if r.sent < r.allowed then
      State.ping { s with ulc := { s.ulc with round := some { r with sent := r.sent + 1, wait := none } } }
    else State.linkDown { s with ulc := { s.ulc with round := none, sinceRef := 0 } }
  | none => s

/-! ### Retry decisions (10 R187, R189, R190, R194) -/

/-- A retry decision for the block `k` of buffer `b`. -/
def State.retry (s : State) (b : Fin 2) (k : Block) : State :=
  if s.settings.blockRetryLimit = Config.retryUnlimited ∨ k.retries < s.settings.blockRetryLimit then
    let k := { k with retries := holdAt Config.retryHold (k.retries + 1), held := false, answer := none }
    State.produce { s with ulc := { s.ulc with buffers := s.ulc.buffers.set b (some k) } } (s.blockFrame b k)
  else s.linkDown

/-- An outstanding block's answer time reaches 0. -/
def State.unanswered (s : State) (b : Fin 2) : State :=
  match s.ulc.buffers.get b with
  | some k => if k.held = false ∧ k.answer.isSome then s.retry b k else s
  | none => s

/-- The SUMMARY that head office has acknowledged, and its buffer. -/
def Ulc.heldBlock (u : Ulc) : Option (Fin 2 × Block) :=
  match u.buffers.get 0, u.buffers.get 1 with
  | some a, some b => if a.held then some (0, a) else if b.held then some (1, b) else none
  | some a, none => if a.held then some (0, a) else none
  | none, some b => if b.held then some (1, b) else none
  | none, none => none

/-- The verdict wait runs out: a retry decision for the SUMMARY. -/
def State.verdictWaitEnd (s : State) : State :=
  if s.ulc.verdict.isSome then
    let t := { s with ulc := { s.ulc with verdict := none } }
    match t.ulc.heldBlock with
    | some (b, k) => t.retry b k
    | none => t
  else s

/-! ### Frames sent (10 R181, R182, R187) -/

/-- A sent frame starts its timer: the wait of the round whose PING it is, or the answer time of the block it carries,
where no newer frame of the purpose waits. -/
def Ulc.startTimer (u : Ulc) (f : UpFrame) : Ulc :=
  let answer (b : Fin 2) (number : Nat) : Ulc :=
    match u.buffers.get b with
    | some k =>
      if k.number = number ∧ k.held = false ∧ u.waits (2 + b.val) = false then
        { u with buffers := u.buffers.set b (some { k with answer := some Config.answerTime }) }
      else u
    | none => u
  match f with
  | .ping _ _ =>
    match u.round with
    | some r => if u.waits 0 then u else { u with round := some { r with wait := some Config.pingWait } }
    | none => u
  | .dayOpenReply _ _ _ => u
  | .block b number _ => answer b number
  | .summary b number _ => answer b number

/-- The closing flag of the frame being sent has left the line: its timer starts, and the next frame follows. -/
def State.frameSent (s : State) : State :=
  match s.ulc.sending with
  | some f => { s with ulc := (Ulc.startTimer { s.ulc with sending := none } f).pump }
  | none => s

/-! ### The bits on the line (10 R178) -/

/-- The flag. -/
def flagBits : List Bool := [false, true, true, true, true, true, true, false]

/-- The bits of an octet, most significant first. DESIGN CHOICE (log 22): the spec names the order of the bits in the
check and not on the line. -/
def octetBits (b : Byte) : List Bool := (List.finRange 8).map (fun i => b.getMsbD i.val)

/-- A 0 inserted after every run of five consecutive 1 bits; `run` counts the 1 bits just passed. -/
def stuff : Nat → List Bool → List Bool
  | _, [] => []
  | _, false :: l => false :: stuff 0 l
  | run, true :: l => if run = 4 then true :: false :: stuff 0 l else true :: stuff (run + 1) l

/-- The inserted bits removed; none where six consecutive 1 bits stand inside the frame, which a flag or an abort has. -/
def unstuff : Nat → List Bool → Option (List Bool)
  | _, [] => some []
  | run, false :: l => if run = 5 then unstuff 0 l else (unstuff 0 l).map (false :: ·)
  | run, true :: l => if run = 5 then none else (unstuff (run + 1) l).map (true :: ·)

/-- The octet that eight bits spell, most significant first. -/
def bitsOctet (l : List Bool) : Byte := BitVec.ofNat 8 (l.foldl (fun a b => 2 * a + boolNum b) 0)

/-- Bits gathered into octets; none where their number is not a whole number of octets. -/
def octetsOf : List Bool → Option Bytes
  | [] => some []
  | a :: b :: c :: d :: e :: f :: g :: h :: l => (octetsOf l).map (bitsOctet [a, b, c, d, e, f, g, h] :: ·)
  | _ => none

/-- The bits between the flags of a frame whose octets before the check are given. -/
def frameBits (octets : Bytes) : List Bool := stuff 0 ((octets ++ checkBytes octets).map octetBits).flatten

/-- What the uplink's transmit line carries (10 R178): nothing, flags one after another, or a frame. -/
inductive UpLine where
  | nothing
  | flags
  | frame (bits : List Bool)
deriving DecidableEq, Repr

/-- A frame on the line, its flags included. -/
def UpFrame.line (f : UpFrame) : List Bool := flagBits ++ frameBits f.octets ++ flagBits

/-- The line now: the frame being sent, or flags continuously between frames; nothing while the reset line is asserted or
main power is absent (10 R178, 02 R30, R32). -/
def State.upLine (s : State) : UpLine :=
  if s.alive then
    match s.ulc.sending with
    | some f => .frame f.line
    | none => .flags
  else .nothing

/-- The octets before the check of a received frame, where the receiver does not discard it (10 R178): between three
and 470 octets with their check, and the check equal to the computed one. -/
def receiveFrame (bits : List Bool) : Option Bytes :=
  match unstuff 0 bits with
  | none => none
  | some l =>
    match octetsOf l with
    | none => none
    | some o =>
      let body := o.take (o.length - 2)
      if 3 ≤ o.length ∧ o.length ≤ 470 ∧ o.drop (o.length - 2) = checkBytes body then some body else none

/-! ### The meanings of the rows -/

def execAnswerTimeEnd (b : Fin 2) (s : State) : Host.Outcome State Fault Refusal := .next (s.whenAlive (fun s => s.unanswered b))
def execVerdictWaitEnd (s : State) : Host.Outcome State Fault Refusal := .next (s.whenAlive State.verdictWaitEnd)
def execUplinkFrameSent (s : State) : Host.Outcome State Fault Refusal := .next (s.whenAlive State.frameSent)
def execPingRound (s : State) : Host.Outcome State Fault Refusal := .next (s.whenAlive State.pingRound)
def execPingWaitEnd (s : State) : Host.Outcome State Fault Refusal := .next (s.whenAlive State.pingWaitEnd)

end Sys2Proof.Machine
end

