-- ==== Sys2Proof/Machine/Day.lean ====
section
/-! DEFINITION. The day controller (02): opening, cutting off, reopening, sending and the verdict, the configuration,
RESTART, and the supervisor's STATUS. -/

namespace Sys2Proof.Machine

/-- The day moves to a state, with DAY-CHANGED on all nine links (02 R16). -/
def State.moveDay (s : State) (d : DayState) : State := State.notifyDayChanged { s with day := { s.day with state := d } }

/-! ### DAY-OPEN (02 R17, R18) -/

/-- The denomination table a DAY-OPEN gives: a face value of 0 marks the slot absent (11 R202). -/
def openTable (f : DayOpenFields) : Vec 12 (Option Nat) := f.faces.map (fun v => if v = 0 then none else some v)

/-- Check 2: every field in its range. -/
def openInRange (f : DayOpenFields) : Bool :=
  decide (1 ≤ f.day ∧ f.day ≤ 31 ∧ 1 ≤ f.month ∧ f.month ≤ 12 ∧ f.year ≤ 99 ∧ f.seconds ≤ 86399) &&
  decide (f.minorDigits = 0 ∨ f.minorDigits = 2 ∨ f.minorDigits = 3) &&
  f.faces.all (fun v => decide (v ≤ Config.maxFace)) &&
  decide (f.postingLimit ≤ Config.maxAmount ∧ f.itemization ≤ Config.maxAmount) &&
  decide (1 ≤ f.drawerMax ∧ (f.drawerMax : Int) ≤ Config.maxTotal ∧ f.tolerance ≤ Config.maxTolerance)

/-- Check 3: the values strictly increase. -/
def increasing : List Nat → Bool
  | a :: b :: l => decide (a < b) && increasing (b :: l)
  | _ => true
def openOrdered (f : DayOpenFields) : Bool := increasing ((openTable f).toList.filterMap id)

/-- Check 4: each vault slot that holds pieces keeps its face value. -/
def Cash.vaultKeeps (c : Cash) (table : Vec 12 (Option Nat)) : Bool :=
  decide (∀ i, c.vault.counts.get i ≠ 0 → (table.get i).isSome ∧ table.get i = c.faces.get i)

/-- The outcome of a DAY-OPEN (02 R17). -/
def State.judgeDayOpen (s : State) (f : DayOpenFields) : OpenOutcome :=
  if s.day.state ≠ .closed then .dayState
  else if openInRange f = false then .range
  else if openOrdered f = false then .denomination
  else if s.cash.vaultKeeps (openTable f) = false then .denomination
  else .accepted

/-- A DAY-OPEN taken (02 R18). -/
def State.openDay (s : State) (f : DayOpenFields) : State :=
  State.moveDay
    { s with
      day := { s.day with
        date := some { day := f.day, month := f.month, year := f.year }, seconds := f.seconds, clockSet := true,
        minorDigits := f.minorDigits, postingLimit := f.postingLimit, itemization := f.itemization,
        drawerMax := f.drawerMax, tolerance := f.tolerance, rejection := .none, warmCount := 0 }
      cash := { s.cash with
        faces := openTable f, opening := s.cash.vault.total.toNat, cashIn := 0, cashOut := 0, dayOver := 0, dayShort := 0 }
      bal := { s.bal with profiles := Vec.fill Profile.empty }
      jnl := { s.jnl with next := 1, unjournaled := 0, spent := false } }
    .opened

/-- A DAY-OPEN judged, taken where it passes, and answered by DAY-OPEN-REPLY (02 R18, 10 R184). -/
def State.dayOpen (s : State) (f : DayOpenFields) : State :=
  let outcome := s.judgeDayOpen f
  let t := if outcome = .accepted then s.openDay f else s
  t.produce (.dayOpenReply outcome t.day.state t.day.date)

/-! ### Cutting off, reopening, sending (02 R19 to R21, R23) -/

/-- CUTOFF. -/
def cutoff (s : State) : Judged :=
  check (s.day.state = .opened) .dayState <| okReply (s.moveDay .cutoff) []

/-- Every sent mark cleared and the rejection reason NONE (02 R20, R23). -/
def State.clearRejection (s : State) : State :=
  { s with jnl := s.jnl.clearSent, day := { s.day with rejection := .none } }

/-- REOPEN-DAY. -/
def reopenDay (s : State) : Judged :=
  check (s.day.state = .cutoff ∨ s.day.state = .rejected) .dayState <|
  okReply ((if s.day.state = .rejected then s.clearRejection else s).moveDay .opened) []

/-- SEND. -/
def send (s : State) : Judged :=
  check (s.day.state = .cutoff) .dayState <|
  check (s.positions.all (fun p => p.state == .closed) = true) .wrongState <|
  check (s.dct.entries = []) .wrongState <|
  okReply (s.moveDay .sending).startTransmission []

/-- RESEND. -/
def resend (s : State) : Judged :=
  check (s.day.state = .rejected) .dayState <|
  okReply (s.clearRejection.moveDay .sending).startTransmission []

/-! ### The verdict (02 R22, 10 R195) -/

/-- The buffers and the verdict wait at a verdict taken. -/
def State.endTransmission (s : State) : State := { s with ulc := s.ulc.clear }

/-- The day accepted: pending records are carried over, the journal empties, the date becomes NONE, the day CLOSED. -/
def State.acceptDay (s : State) : State :=
  State.moveDay
    { s.endTransmission with
      jnl := s.jnl.acceptDay (s.day.date.getD { day := 0, month := 0, year := 0 })
      day := { s.day with date := none } }
    .closed

/-- The day rejected with a reason. -/
def State.rejectDay (s : State) (r : Rejection) : State :=
  State.moveDay { s.endTransmission with day := { s.day with rejection := r } } .rejected

/-- A verdict is taken while the verdict wait runs, on the SUMMARY that is HELD. -/
def State.heldSummary (s : State) : Option Summary :=
  match s.ulc.verdict, s.ulc.heldBlock with
  | some _, some (_, k) =>
    match k.contents with
    | .summary m => some m
    | .records _ => none
  | _, _ => none

/-- DAY-ACCEPTED: the four control totals are compared with those the SUMMARY carried. -/
def State.dayAccepted (s : State) (t : Totals) : State :=
  match s.heldSummary with
  | some m => if t = m.totals then s.acceptDay else s.rejectDay .mismatch
  | none => s

/-- DAY-REJECTED; a reason code of 0 is discarded (10 R179). -/
def State.dayRejected (s : State) (reason : Nat) : State :=
  match s.heldSummary with
  | some _ => if reason = 0 then s else s.rejectDay (.code reason)
  | none => s

/-! ### The configuration (02 R27 to R29) -/

/-- Two lines name the same item; a home printer is named with its position (02 R28). -/
def ConfigLine.sameItem (a b : ConfigLine) : Bool := a.item == b.item && (a.item != 15 || a.position == b.position)

/-- A line names an item that exists, and a named choice has one of its values. -/
def ConfigLine.sound (c : ConfigLine) : Bool :=
  decide (1 ≤ c.item ∧ c.item ≤ 15) && (c.item != 15 || decide (c.position ≤ 7)) &&
  (!(c.item == 15 || c.item == 7) || decide (c.value ≤ 1))

def configDistinct : List ConfigLine → Bool
  | [] => true
  | a :: l => l.all (fun b => !a.sameItem b) && configDistinct l

/-- A value brought into a range. -/
def clamp (low high v : Nat) : Nat := if v < low then low else if high < v then high else v

/-- The value stored for an item (02 R28). -/
def ConfigLine.stored (c : ConfigLine) : Nat :=
  match c.item with
  | 1 => clamp 10 900 c.value
  | 2 => clamp 0 15 c.value
  | 3 => clamp 5 300 c.value
  | 4 => clamp 30 3600 c.value
  | 5 => clamp 30 600 c.value
  | 6 => clamp 30 600 c.value
  | 8 => clamp 12 32 c.value
  | 9 => clamp 1 16 c.value
  | 10 => clamp 8 32 c.value
  | 11 => clamp 0 255 c.value
  | 12 => clamp 4 1020 c.value / 4 * 4
  | 13 => clamp 0 7 c.value
  | 14 => clamp 0 15 c.value
  | _ => c.value

/-- An item stored (02 R27, R28). DESIGN CHOICE (log 35): of printer sharing's two values, which 11 R198 names without
their meanings, 1 is ON and 0 is OFF. -/
def Settings.store (t : Settings) (c : ConfigLine) : Settings :=
  let v := c.stored
  match c.item with
  | 1 => { t with idleBlank := v }
  | 2 => { t with brightness := v }
  | 3 => { t with openLimit := v }
  | 4 => { t with serviceLimit := v }
  | 5 => { t with transferExpiry := v }
  | 6 => { t with overrideExpiry := v }
  | 7 => { t with sharing := v == 1 }
  | 8 => { t with linesPerPage := v }
  | 9 => { t with pagesPerBook := v }
  | 10 => { t with linePitch := v }
  | 11 => { t with topMargin := v }
  | 12 => { t with pingPeriod := v }
  | 13 => { t with pingRetries := v }
  | 14 => { t with blockRetryLimit := v }
  | 15 =>
    match readPosition? c.position with
    | some n => { t with home := t.home.set n (if v = 1 then 1 else 0) }
    | none => t
  | _ => t

/-- A line of the reply: item, position and stored value. DESIGN CHOICE (log 14): the position byte is 0 for items 1
to 14, and the reply lists its items in the order of the request's lines. -/
def ConfigLine.bytes (c : ConfigLine) : Bytes :=
  be 1 c.item ++ be 1 (if c.item = 15 then c.position else 0) ++ be 2 c.stored

/-- A CONFIG taken: the values are stored, assignment is judged (08 R139), and a ping period already passed begins a
round at once (02 R29). The brightness target and the idle blank time act as the whole change settles. -/
def State.configure (s : State) (lines : List ConfigLine) : State :=
  (State.assign { s with settings := lines.foldl Settings.store s.settings }).judgeRound

/-- CONFIG (02 R28). The reply's list keeps the order of the request's lines: DESIGN CHOICE (log 14). -/
def config (body : Bytes) (s : State) : Judged :=
  check ((readConfig body).all ConfigLine.sound = true) .badForm <|
  check (configDistinct (readConfig body) = true) .badForm <|
  okReply (s.configure (readConfig body))
    (counted (((readConfig body).filter (fun c => c.stored != c.value)).map ConfigLine.bytes))

/-! ### RESTART and the supervisor's STATUS (02 R34, R35) -/

/-- RESTART: a warm reset is left pending. -/
def restart (s : State) : Judged := okReply { s with supply := { s.supply with restartPending := true } } []

/-- STATUS on SL. -/
def statusSupervisor (s : State) : Judged :=
  okReply s
    (be 1 s.day.state.num ++ dateBytes s.day.date ++ s.day.rejection.bytes ++ be 3 s.day.seconds
      ++ be 1 (boolNum s.day.clockSet) ++ be 1 s.day.cause.num ++ be 1 s.day.warmCount ++ be 1 (boolNum s.ulc.up)
      ++ (s.printer 0).serviceBytes ++ (s.printer 1).serviceBytes ++ be 2 s.jnl.records.length ++ be 2 s.jnl.customers
      ++ be 2 s.jnl.unjournaled ++ be 1 s.day.minorDigits ++ be 5 s.day.postingLimit ++ be 5 s.day.itemization
      ++ be 5 s.day.drawerMax ++ be 3 s.day.tolerance ++ counted ((s.dct.awaiting .sl).map Entry.pair)
      ++ tagBytes (s.link .sl).lastTag)

/-! ### The meanings of the rows -/

def execStatusSupervisor (tag : Byte) (body : Bytes) (s : State) : Host.Outcome State Fault Refusal :=
  .next (request .sl .status tag body statusSupervisor s)
def execCutoff (l : Link) (tag : Byte) (body : Bytes) (s : State) : Host.Outcome State Fault Refusal :=
  .next (request l .cutoff tag body cutoff s)
def execReopenDay (l : Link) (tag : Byte) (body : Bytes) (s : State) : Host.Outcome State Fault Refusal :=
  .next (request l .reopenDay tag body reopenDay s)
def execSend (l : Link) (tag : Byte) (body : Bytes) (s : State) : Host.Outcome State Fault Refusal :=
  .next (request l .send tag body send s)
def execResend (l : Link) (tag : Byte) (body : Bytes) (s : State) : Host.Outcome State Fault Refusal :=
  .next (request l .resend tag body resend s)
def execConfig (l : Link) (tag : Byte) (body : Bytes) (s : State) : Host.Outcome State Fault Refusal :=
  .next (request l .config tag body (config body) s)
def execRestart (l : Link) (tag : Byte) (body : Bytes) (s : State) : Host.Outcome State Fault Refusal :=
  .next (request l .restart tag body restart s)

end Sys2Proof.Machine
end

