-- ==== Sys2Proof/Machine/Messages.lean ====
section
/-! DEFINITION. Head office's messages (10 R179, R184, R188, R189, R195): their layouts (11 R202), the arrival of a
valid message, and its action by kind. -/

namespace Sys2Proof.Machine

/-- A message of head office. -/
inductive Message where
  | pingReply
  | dayOpen (fields : DayOpenFields)
  | blockAck (number : Nat)
  | blockNak (number : Nat)
  | dayAccepted (totals : Totals)
  | dayRejected (reason : Nat)
deriving DecidableEq, Repr

/-- The fields of a DAY-OPEN from its octets after the kind (11 R202). -/
def readDayOpen (b : Bytes) : DayOpenFields :=
  { day := field b 0 1, month := field b 1 1, year := field b 2 1, seconds := field b 3 3, minorDigits := field b 6 1,
    faces := Vec.tab fun i => field b (7 + 3 * i.val) 3, postingLimit := field b 43 5, itemization := field b 48 5,
    drawerMax := field b 53 5, tolerance := field b 58 3 }

/-- The valid message that the octets before the check spell: a head-office kind with exactly its length (10 R179,
11 R202); none where the frame is discarded. -/
def readMessage : Bytes → Option Message
  | [] => none
  | k :: b =>
    match k.toNat, b.length with
    | 65, 0 => some .pingReply
    | 66, 61 => some (.dayOpen (readDayOpen b))
    | 67, 2 => some (.blockAck (field b 0 2))
    | 68, 2 => some (.blockNak (field b 0 2))
    | 69, 19 =>
      some (.dayAccepted { records := field b 0 2, credit := field b 2 6, debit := field b 8 6, hash := field b 14 5 })
    | 70, 1 => some (.dayRejected (field b 0 1))
    | _, _ => none

/-- The octets before the check of head office's message, its fields in their widths (11 R202). -/
def Message.octets : Message → Bytes
  | .pingReply => be 1 65
  | .dayOpen f =>
    be 1 66 ++ be 1 f.day ++ be 1 f.month ++ be 1 f.year ++ be 3 f.seconds ++ be 1 f.minorDigits
      ++ (f.faces.toList.map (be 3)).flatten ++ be 5 f.postingLimit ++ be 5 f.itemization ++ be 5 f.drawerMax ++ be 3 f.tolerance
  | .blockAck k => be 1 67 ++ be 2 k
  | .blockNak k => be 1 68 ++ be 2 k
  | .dayAccepted t => be 1 69 ++ be 2 t.records ++ be 6 t.credit ++ be 6 t.debit ++ be 5 t.hash
  | .dayRejected r => be 1 70 ++ be 1 r

/-- What every valid message does (10 R179): it sets the ping reference, ends any ping round as answered, and brings the
link UP. -/
def State.heard (s : State) : State := State.linkUp { s with ulc := { s.ulc with sinceRef := 0, round := none } }

/-- The buffer that holds an outstanding block of a number. -/
def Ulc.outstanding (u : Ulc) (number : Nat) : Option (Fin 2 × Block) :=
  let holds (b : Fin 2) : Option (Fin 2 × Block) :=
    match u.buffers.get b with
    | some k => if k.number = number ∧ k.held = false then some (b, k) else none
    | none => none
  match holds 0 with
  | some x => some x
  | none => holds 1

/-- BLOCK-ACK (10 R188): a block of records is marked sent and its buffer freed, and filling is judged; the SUMMARY is
HELD and the verdict wait starts. A number that is not outstanding is ignored. -/
def State.blockAck (s : State) (number : Nat) : State :=
  match s.ulc.outstanding number with
  | none => s
  | some (b, k) =>
    match k.contents with
    | .records q => State.fill { s with jnl := s.jnl.markSent q, ulc := s.ulc.free b }
    | .summary _ =>
      { s with ulc := { s.ulc with
          buffers := s.ulc.buffers.set b (some { k with held := true, answer := none })
          verdict := some Config.verdictWait } }

/-- BLOCK-NAK (10 R189): a retry decision for an outstanding block. -/
def State.blockNak (s : State) (number : Nat) : State :=
  match s.ulc.outstanding number with
  | none => s
  | some (b, k) => s.retry b k

/-- A message acted on by its kind. -/
def State.act (s : State) : Message → State
  | .pingReply => s
  | .dayOpen f => s.dayOpen f
  | .blockAck k => s.blockAck k
  | .blockNak k => s.blockNak k
  | .dayAccepted t => s.dayAccepted t
  | .dayRejected r => s.dayRejected r

/-- A valid message arrives: one whole change. -/
def State.message (m : Message) (s : State) : State := s.heard.act m

/-- The bits between two flags arrive (10 R178, R179): a frame that is not a valid message is discarded with no effect.
DESIGN CHOICE (log 22): bits that do spell a valid message are acted on as that message. -/
def State.receiveBits (bits : List Bool) (s : State) : State :=
  match receiveFrame bits with
  | none => s
  | some o =>
    match readMessage o with
    | none => s
    | some m => s.message m

/-! ### The meanings of the rows -/

def execPingReply (s : State) : Host.Outcome State Fault Refusal := .next (event (State.message .pingReply) s)
def execDayOpen (f : DayOpenFields) (s : State) : Host.Outcome State Fault Refusal :=
  .next (event (State.message (.dayOpen f)) s)
def execBlockAck (number : Nat) (s : State) : Host.Outcome State Fault Refusal :=
  .next (event (State.message (.blockAck number)) s)
def execBlockNak (number : Nat) (s : State) : Host.Outcome State Fault Refusal :=
  .next (event (State.message (.blockNak number)) s)
def execDayAccepted (t : Totals) (s : State) : Host.Outcome State Fault Refusal :=
  .next (event (State.message (.dayAccepted t)) s)
def execDayRejected (reason : Nat) (s : State) : Host.Outcome State Fault Refusal :=
  .next (event (State.message (.dayRejected reason)) s)
def execUplinkFrameDiscarded (bits : List Bool) (s : State) : Host.Outcome State Fault Refusal :=
  .next (event (State.receiveBits bits) s)

end Sys2Proof.Machine
end

