-- ==== Sys2Proof/Machine/Windows.lean ====
section
/-! DEFINITION. SHOW and the end of a text's hold (09 R170, R171). -/

namespace Sys2Proof.Machine

/-- The display set (09 R166, 11 R198). -/
def inDisplaySet (b : Byte) : Bool :=
  b == 0x20#8 || b == 0x2A#8 || b == 0x2C#8 || b == 0x2D#8 || b == 0x2E#8 || decide (0x30 ≤ b.toNat ∧ b.toNat ≤ 0x39) ||
    decide (0x41 ≤ b.toNat ∧ b.toNat ≤ 0x5A)

/-- A text with each character outside the display set replaced by blank. -/
def displayable (t : Bytes) : Bytes := t.map (fun b => if inDisplaySet b then b else 0x20#8)

/-- The text layer of display `n` set, or cleared by a text of no characters (09 R170). -/
def State.setText (s : State) (n : Fin 8) (hold : Nat) (t : Bytes) : State :=
  s.onWindow n (fun w => { w with text := if t = [] then none else some { text := displayable t, hold := hold * 100 } })

/-- SHOW. -/
def showText (body : Bytes) (n : Fin 8) (s : State) : Judged :=
  check (1 ≤ field body 0 1 ∧ field body 0 1 ≤ 60) .range <|
  okReply (s.setText n (field body 0 1) (body.drop 1)) (be 1 ((body.drop 1).filter (fun b => !inDisplaySet b)).length)

/-- A text layer's hold ends (09 R171). -/
def State.textEnd (s : State) (n : Fin 8) : State := s.onWindow n (fun w => { w with text := none })

def execShowText (l : Link) (tag : Byte) (body : Bytes) (s : State) : Host.Outcome State Fault Refusal :=
  .next (tellerRequest l .showText tag body (showText body) s)
def execTextHoldEnd (n : Fin 8) (s : State) : Host.Outcome State Fault Refusal := .next (event (fun s => s.textEnd n) s)

end Sys2Proof.Machine
end

