-- ==== Sys2Proof/Machine/Resets.lean ====
section
/-! DEFINITION. The supply, the reset line and the three kinds of reset (02 R30 to R34, and each chapter's rules at
reset). -/

namespace Sys2Proof.Machine

/-! ### What a POWER-UP or WARM reset does, block by block -/

/-- A link (01 R10, R14). -/
def LinkRec.reset (r : LinkRec) : LinkRec :=
  { r with speed := r.strap, receiver := .skipping, frame := [], quiet := some Config.quietTime, inWork := false,
           transmit := [], notices := restartedOnly }

/-- A position (03 R49, R59); `limit` is the configured drawer open limit. -/
def Position.reset (limit : Nat) (p : Position) : Position :=
  { p with
    state := if p.state = .closed then .closed else .away
    running := if p.state.inTxn then false else p.running
    txnStart := if p.state.inTxn then none else p.txnStart
    serviceRaised := if p.state.inTxn then false else p.serviceRaised
    lock := .locked
    window := none
    sensor := p.input
    hold := none
    longRaised := false
    openTime := if p.input = .opened then 0 else p.openTime
    openLimit := if p.input = .opened then limit else p.openLimit
    silence := 0
    idle := false }

/-- The dual-control table (05 R99); `held n` says that position `n` was HELD when the reset came. -/
def Dct.reset (held : Fin 8 → Bool) : Dct :=
  { entries := [], cursor := 0, outcomes := Vec.tab fun n => if held n then .dropped else .none }

/-- A printer before its reset's eject (08 R164): no job, no left-by, the sensor as its input stands. DESIGN CHOICE (log
25): BOOK-LEFT given, which the spec does not give after a POWER-UP or WARM reset, is No. -/
def Printer.reset (r : Printer) : Printer :=
  let r := { r.halt with job := none, leftBy := none, bookLeft := false, book := r.input }
  if r.state = .fault then r else { r with state := if r.online then .idle else .offline }

/-- The print unit (08 R164). -/
def Pbu.reset (u : Pbu) : Pbu :=
  { u with queue := [], seeTeller := Vec.fill none, printers := u.printers.map Printer.reset }

/-- The eject of a book found at the reset: EJECTING without a job, feeding to 0 (08 R164). -/
def State.resetEject (s : State) (p : Fin 2) : State :=
  if (s.printer p).book ∧ (s.printer p).state ≠ .fault then s.startFeed p .ejecting 0 else s

/-- A window before it is composed (09 R165, R177). -/
def Window.reset (w : Window) : Window := { w with text := none, amount := none, current := 0 }

/-- The uplink controller before its ping round (10 R180, R197). -/
def Ulc.reset (u : Ulc) : Ulc :=
  { up := false, sinceRef := 0, round := none, buffers := Vec.fill none, nextBlock := u.nextBlock, verdict := none,
    waiting := [], sending := none }

/-- Each lamp's output takes the value of its pattern for the phase of the last tick (09 R177). -/
def State.lightLamps (s : State) : State :=
  { s with windows := s.windows.map (fun w => { w with lamp := w.pattern.output s.day.phase }) }

/-- The RESET record, in OPEN and CUTOFF (02 R33, 07 R134). -/
def State.resetRecord (s : State) : State :=
  if s.day.state = .opened ∨ s.day.state = .cutoff then s.appendSystem (Record.plain .reset .none 0 0) else s

/-- The blocks as a POWER-UP or WARM reset leaves them, before the reset's own record, eject, ping round and displays. -/
def State.resetBlocks (s : State) : State :=
  { s with
    supply := { s.supply with restartPending := false }
    links := s.links.map LinkRec.reset
    positions := s.positions.map (Position.reset s.settings.openLimit)
    dct := Dct.reset (fun n => (s.pos n).state == .held)
    jnl := s.jnl.releaseAll
    pbu := s.pbu.reset
    windows := s.windows.map Window.reset
    ulc := s.ulc.reset }

/-- A POWER-UP or WARM reset, the cause and the warm count written by its kind. -/
def State.resetKept (s : State) : State :=
  let s := ((s.resetBlocks.resetRecord.resetEject 0).resetEject 1).beginRound
  s.settleIdle.settleWindows.lightLamps

/-- The cause of a reset written (02 R33). -/
def State.setCause (s : State) (c : ResetCause) (count : Nat) : State :=
  { s with day := { s.day with cause := c, warmCount := count } }

/-- A WARM reset (02 R33): one more warm reset, holding at 255. -/
def State.warmReset (s : State) (c : ResetCause) : State :=
  (s.setCause c (holdAt 255 (s.day.warmCount + 1))).resetKept

/-- A POWER-UP reset: the retained store is kept (02 R31). -/
def State.powerUp (s : State) : State := (s.setCause .powerUp s.day.warmCount).resetKept

/-- A COLD reset, the input pins as they stand (02 R31). -/
def State.coldStart (s : State) : State :=
  State.cold s.pending s.supply.resetLine (s.links.map LinkRec.strap) (s.positions.map Position.input)
    (s.pbu.printers.map Printer.input)

/-! ### The supply and the reset line -/

/-- The outputs of the printers off, and the frame being sent cut off (02 R32, 08 R164, 10 R178). -/
def State.stopOutputs (s : State) : State :=
  { s with
    pbu := { s.pbu with printers := s.pbu.printers.map (fun r => { r with motor := .off, strike := false }) }
    ulc := { s.ulc with sending := none } }

/-- The part held by its reset line: outputs off, locks LOCKED, displays dark, lamps off (02 R32, 09 R177). -/
def State.holdReset (s : State) : State :=
  State.darken { s.stopOutputs with positions := s.positions.map Position.secure }

/-- The reset line is asserted (02 R32); without main power it is not read. A pending RESTART's reset is dropped (02 R34). -/
def State.assertReset (s : State) : State :=
  if s.supply.mainPower then
    State.holdReset { s with supply := { s.supply with resetLine := true, restartPending := false } }
  else { s with supply := { s.supply with resetLine := true } }

/-- The reset line is released: a WARM reset with cause WARM-LINE, while main power is present (02 R32). -/
def State.releaseReset (s : State) : State :=
  let s := { s with supply := { s.supply with resetLine := false } }
  if s.supply.mainPower then s.warmReset .warmLine else s

/-- The replies of a transmit list up to the accepted request's own have left the line, in their order (01 R5). -/
def LinkRec.ownSent (r : LinkRec) : LinkRec :=
  { r with transmit := (r.transmit.dropWhile (fun a => !a.own)).tail, inWork := false }

/-- The last byte of a pending RESTART's reply leaves SL's line, any BUSY reply ahead of it sent first, and the reset begins
(02 R34). -/
def State.warmRestart (s : State) : State :=
  if s.supply.restartPending then (s.onLink .sl LinkRec.ownSent).warmReset .warmRestart else s

/-- Main power fails (02 R30, R34): replies in a transmit list are lost and
no request stays in work, a pending RESTART's reset is dropped, and the
outputs are unpowered. -/
def State.powerFail (s : State) : State :=
  State.darken
    { s.stopOutputs with
      supply := { s.supply with mainPower := false, restartPending := false }
      links := s.links.map (fun r => { r with inWork := false, transmit := [] }) }

/-- The backup voltage falls below the threshold: only while main power is absent does it clear the latch (02 R31). -/
def State.backupLow (s : State) : State :=
  if s.supply.mainPower then s else { s with day := { s.day with intact := false } }

/-- Main power returns: POWER-UP with the latch INTACT, COLD with it CLEAR; a reset line still asserted then counts
(02 R31, R32). -/
def State.powerReturn (s : State) : State :=
  let s := { s with supply := { s.supply with mainPower := true } }
  let s := if s.day.intact then s.powerUp else s.coldStart
  if s.supply.resetLine then s.holdReset else s

/-! ### The meanings of the rows -/

def execWarmRestart (s : State) : Host.Outcome State Fault Refusal := .next (s.whenAlive State.warmRestart)
def execResetLineAsserted (s : State) : Host.Outcome State Fault Refusal := .next s.assertReset
def execWarmLine (s : State) : Host.Outcome State Fault Refusal := .next s.releaseReset
def execMainPowerFail (s : State) : Host.Outcome State Fault Refusal :=
  .next (if s.supply.mainPower then s.powerFail else s)
def execBackupLow (s : State) : Host.Outcome State Fault Refusal := .next s.backupLow
def execMainPowerReturn (s : State) : Host.Outcome State Fault Refusal := .next s.powerReturn

end Sys2Proof.Machine
end

