-- ==== Sys2Proof/Machine/Timebase.lean ====
section
/-! DEFINITION. The timebase (02 R24 to R26) and one advance of its hundredths count: every running duration counts,
and what falls due is taken. -/

namespace Sys2Proof.Machine

/-! ### Ticks (02 R24, R25, 09 R173, R175) -/

/-- The hundredths counts at which the eight ticks of a second fall. -/
def tickCounts : List Nat := [0, 12, 25, 37, 50, 62, 75, 87]

/-- The phase of the last tick at or before a count: how many ticks of the second have passed, less one. -/
def phaseOf (count : Nat) : Nat := (tickCounts.filter (fun t => decide (t ≤ count))).length - 1

/-- Seconds of day after one more second: midnight follows 86,399. -/
def nextSecond (n : Nat) : Nat := if n < 86399 then n + 1 else 0

/-- One level toward a target. -/
def stepToward (target current : Nat) : Nat :=
  if current < target then current + 1 else if target < current then current - 1 else current

/-- A window at an 8 Hz tick: its brightness steps and its lamp takes the output of the new phase. -/
def Window.tick (phase : Nat) (w : Window) : Window :=
  { w with current := stepToward w.target w.current, lamp := w.pattern.output phase }

/-- An 8 Hz tick. A part held by its reset line, or without main power, steps no ramp and no lamp (09 R177). -/
def State.eightHz (s : State) (phase : Nat) : State :=
  State.whenAlive { s with day := { s.day with phase := phase } } (fun s => { s with windows := s.windows.map (Window.tick phase) })

/-- A 1 Hz tick of the business clock. -/
def State.oneHz (s : State) : State := { s with day := { s.day with seconds := nextSecond s.day.seconds } }

/-- The next tick's place: the tick the count already stands at, if the phase has yet to follow it, else the next one. -/
def State.eightHzTick (s : State) : State :=
  if phaseOf s.day.hundredths ≠ s.day.phase then s.eightHz (phaseOf s.day.hundredths)
  else
    let phase := (s.day.phase + 1) % 8
    State.eightHz { s with day := { s.day with hundredths := tickCounts[phase]?.getD 0 } } phase

/-! ### One advance of the hundredths count -/

/-- The count advances; at 0 the business clock ticks, and at each tick's count the 8 Hz tick falls. -/
def State.advanceClock (s : State) : State :=
  let h := if s.day.hundredths < 99 then s.day.hundredths + 1 else 0
  let s := { s with day := { s.day with hundredths := h } }
  let s := if h = 0 then s.oneHz else s
  if tickCounts.contains h then s.eightHz (phaseOf h) else s

/-- A running duration counts down; a count that holds counts up. -/
def countDown : Option Nat → Option Nat
  | some k => some (k - 1)
  | none => none
def countUp (bound n : Nat) : Nat := if n < bound then n + 1 else n

def LinkRec.count (r : LinkRec) : LinkRec := { r with quiet := countDown r.quiet }
def Position.count (p : Position) : Position :=
  { p with
    window := countDown p.window
    hold := countDown p.hold
    openTime := if p.sensor = .opened then countUp Config.maxStopwatch p.openTime else p.openTime
    stopwatch := if p.running then countUp Config.maxStopwatch p.stopwatch else p.stopwatch
    silence := countUp Config.maxSilence p.silence }
def Dct.count (d : Dct) : Dct := { d with entries := d.entries.map (fun e => { e with remaining := e.remaining - 1 }) }
def Pbu.count (u : Pbu) : Pbu :=
  { u with printers := u.printers.map (fun r => { r with timer := countDown r.timer }), seeTeller := u.seeTeller.map countDown }
def Window.count (w : Window) : Window := { w with text := w.text.map (fun t => { t with hold := t.hold - 1 }) }
def Ulc.count (u : Ulc) : Ulc :=
  { u with
    sinceRef := u.sinceRef + 1
    round := u.round.map (fun r => { r with wait := countDown r.wait })
    buffers := u.buffers.map (fun b => b.map (fun k => { k with answer := countDown k.answer }))
    verdict := countDown u.verdict }

/-- Every running duration counts one hundredth (02 R26). -/
def State.countAll (s : State) : State :=
  { s with links := s.links.map LinkRec.count, positions := s.positions.map Position.count, dct := s.dct.count,
           pbu := s.pbu.count, windows := s.windows.map Window.count, ulc := s.ulc.count }

/-! ### What falls due -/

/-- A station line has been silent for 20 ms (01 R3): a frame being received is abandoned, and the receiver goes to
SKIPPING, whose own silence starts afresh (log 9); a receiver in SKIPPING goes to HUNT. A gap is the same silence inside a
frame. -/
def LinkRec.abandon (r : LinkRec) : LinkRec :=
  { r with receiver := .skipping, frame := [], quiet := some Config.quietTime }
def LinkRec.gap (r : LinkRec) : LinkRec := if r.receiver = .receiving then r.abandon else r
def LinkRec.silent (r : LinkRec) : LinkRec :=
  match r.receiver with
  | .receiving => r.abandon
  | .skipping => { r with receiver := .hunt, frame := [], quiet := none }
  | .hunt => r
def LinkRec.dueQuiet (r : LinkRec) : LinkRec := if r.quiet = some 0 then r.silent else r

/-- What falls due at position `n`, in the model's order (log 2). -/
def State.duePosition (s : State) (n : Fin 8) : State :=
  let s := if (s.pos n).hold = some 0 then (if (s.pos n).input = .opened then s.opening n else s.shutting n) else s
  let s := if (s.pos n).window = some 0 then s.windowEnd n else s
  let s := if (s.pos n).openLimit * 100 ≤ (s.pos n).openTime then s.drawerLong n else s
  let s := if (s.pos n).serviceLimit * 100 ≤ (s.pos n).stopwatch then s.serviceLong n else s
  let s := if s.pbu.seeTeller.get n = some 0 then s.seeTellerEnd n else s
  match (s.window n).text with
  | some t => if t.hold = 0 then s.textEnd n else s
  | none => s

/-- What falls due at printer `p`: its timer ends as its state says. -/
def State.duePrinter (s : State) (p : Fin 2) : State :=
  if (s.printer p).timer = some 0 then
    match (s.printer p).state with
    | .waitBook => s.noBook p
    | .pageTurn => s.pageTimeout p
    | .confirming => s.bookConfirmed p
    | .striking => s.strikeTimeEnd p
    | .aligning | .feeding | .ejecting => s.jam p
    | .waitRemoval => s.bookLeft p
    | .idle | .fault | .offline => s
  else s

/-- The entries whose time remaining has reached 0 expire, oldest first. -/
def State.dueEntries (s : State) : State :=
  ((s.dct.entries.filter (fun e => e.remaining == 0)).map Entry.id).foldl State.expireId s

/-- The answer time of buffer `b`'s block, the verdict wait and the ping wait that have reached 0, and a ping round due. -/
def State.dueAnswer (s : State) (b : Fin 2) : State :=
  match s.ulc.buffers.get b with
  | some k => if k.answer = some 0 then s.unanswered b else s
  | none => s
def State.dueVerdict (s : State) : State := if s.ulc.verdict = some 0 then s.verdictWaitEnd else s
def State.duePing (s : State) : State :=
  match s.ulc.round with
  | some r => if r.wait = some 0 then s.pingWaitEnd else s
  | none => s.judgeRound

/-- Everything due at one hundredth, in the model's order. DESIGN CHOICE (log 2): the spec leaves the order open. -/
def State.dueAll (s : State) : State :=
  let s := { s with links := s.links.map LinkRec.dueQuiet }
  let s := (List.finRange 8).foldl State.duePosition s
  let s := s.dueEntries
  let s := (s.duePrinter 0).duePrinter 1
  ((s.dueAnswer 0).dueAnswer 1).dueVerdict.duePing

/-- One advance of the timebase (log 1). A part held by its reset line, or without main power, counts time and nothing
else (02 R24, R32). -/
def State.tick (s : State) : State :=
  s.advanceClock.whenAlive (fun s => s.countAll.dueAll.settle)

/-! ### The meanings of the rows -/

/-- ONE_HZ_TICK: the hundredths count wraps to 0 and the seconds of day advance (02 R24, R25). -/
def execOneHzTick (s : State) : Host.Outcome State Fault Refusal :=
  .next (State.oneHz { s with day := { s.day with hundredths := 0 } })
def execEightHzTick (s : State) : Host.Outcome State Fault Refusal := .next s.eightHzTick

end Sys2Proof.Machine
end

