-- ==== Sys2Proof/Machine/Station.lean ====
section
/-! DEFINITION. The receivers of the station links (01 R2 to R6): bytes assembled into frames, faults and gaps, a whole
frame handed to the meaning of its kind, and the end of a reply's transmission. -/

namespace Sys2Proof.Machine

/-! ### A whole frame (01 R4, R6, 11 R198) -/

/-- The request kinds by value, 1 to 34. -/
def kinds : List Kind :=
  [.takeNotices, .status, .cutoff, .reopenDay, .send, .resend, .config, .restart, .signOn, .openTxn, .closeTxn, .away,
   .unlock, .signOff, .forceSignOff, .readPosition, .post, .void, .readCash, .propose, .confirm, .decline, .withdraw,
   .beginBalance, .declare, .reopen, .forceBalance, .vaultDeclare, .readProfile, .readJournal, .printBook, .cancelPrint,
   .printerService, .showText]

/-- The kind a byte names, if the catalogue has it. -/
def readKind (b : Byte) : Option Kind := kinds.find? (fun k => k.byte == b)

/-- The owning block's judgement of a request, by its kind. -/
def handler (l : Link) (body : Bytes) : Kind → State → Judged
  | .takeNotices => takeNotices l
  | .status =>
    match l with
    | .tl n => statusTeller n
    | .sl => statusSupervisor
  | .cutoff => cutoff
  | .reopenDay => reopenDay
  | .send => send
  | .resend => resend
  | .config => config body
  | .restart => restart
  | .signOn => tellerHandler l (signOn (field body 0 2))
  | .openTxn => tellerHandler l openTxn
  | .closeTxn => tellerHandler l closeTxn
  | .away => tellerHandler l away
  | .unlock => tellerHandler l (unlock (field body 0 2))
  | .signOff => tellerHandler l signOff
  | .forceSignOff => forceSignOff (field body 0 1)
  | .readPosition => readPosition (field body 0 1)
  | .post => tellerHandler l (post body)
  | .void => tellerHandler l (voidRecord body)
  | .readCash =>
    match l with
    | .tl n => readCashTeller n
    | .sl => readCashSupervisor (field body 0 1)
  | .propose => propose l body
  | .confirm => confirm l (field body 0 1)
  | .decline => decline l (field body 0 1)
  | .withdraw => withdraw l (field body 0 1)
  | .beginBalance => tellerHandler l beginBalance
  | .declare => tellerHandler l (declare body)
  | .reopen => tellerHandler l reopen
  | .forceBalance => forceBalance (field body 0 1)
  | .vaultDeclare => vaultDeclare body
  | .readProfile => readProfile (field body 0 1)
  | .readJournal => readJournal (field body 0 2)
  | .printBook => tellerHandler l (printBook (readPrint body))
  | .cancelPrint => tellerHandler l cancelPrint
  | .printerService => printerService (field body 0 1) (field body 1 1)
  | .showText => tellerHandler l (showText body)

/-- A frame that passed its check is a request (01 R4 to R6). -/
def requestFrame (l : Link) (kind tag : Byte) (body : Bytes) (s : State) : State :=
  match readKind kind with
  | some k => request l k tag body (handler l body k) s
  | none => unknownRequest l kind tag s

/-! ### Bytes (01 R3) -/

/-- The frame is complete: length, kind and tag bytes, the body the length names, and both check bytes. -/
def frameComplete (f : Bytes) : Bool :=
  match f with
  | [] => false
  | len :: _ => f.length == len.toNat + 5

/-- The check bytes of a complete frame equal the computed ones. -/
def frameSound (f : Bytes) : Bool := f.drop (f.length - 2) == checkBytes (f.take (f.length - 2))

/-- A complete frame: handed on as a request, or discarded (01 R4). -/
def completeFrame (l : Link) (f : Bytes) (s : State) : State :=
  if frameSound f then requestFrame l (f.getD 1 0) (f.getD 2 0) ((f.drop 3).take (f.length - 5)) s
  else s.onLink l LinkRec.abandon

/-- A byte received that does not complete a frame, in each receiver state (01 R3). -/
def LinkRec.byte (b : Byte) (r : LinkRec) : LinkRec :=
  match r.receiver with
  | .hunt => if b = startByte then { r with receiver := .receiving, frame := [], quiet := some Config.quietTime } else r.abandon
  | .receiving =>
    if r.frame = [] ∧ 250 < b.toNat then r.abandon
    else { r with frame := r.frame ++ [b], quiet := some Config.quietTime }
  | .skipping => { r with quiet := some Config.quietTime }

/-- A byte received on a link. -/
def receiveByte (l : Link) (b : Byte) (s : State) : State :=
  let r := (s.link l).byte b
  let s' := s.onLink l (fun _ => r)
  if (s.link l).receiver = .receiving ∧ r.receiver = .receiving ∧ frameComplete r.frame then completeFrame l r.frame s'
  else s'

/-- The end of the transmission of the first reply of a link's transmit list: the accepted request's own clears the
in-work flag (01 R5). -/
def LinkRec.replySent (r : LinkRec) : LinkRec :=
  match r.transmit with
  | [] => r
  | a :: rest => { r with transmit := rest, inWork := if a.own then false else r.inWork }

/-- The first reply of a link's transmit list is the accepted request's own. -/
def LinkRec.ownFirst (r : LinkRec) : Bool :=
  match r.transmit with
  | [] => false
  | a :: _ => a.own

/-- A reply has left a link's line. The last byte of a RESTART's own reply, the one SL has in work while the reset is
pending, begins that reset in the same moment, before any other command is taken (02 R34). -/
def State.replySent (s : State) (l : Link) : State :=
  if l = .sl ∧ s.supply.restartPending = true ∧ (s.link .sl).ownFirst = true then s.warmRestart
  else s.onLink l LinkRec.replySent

/-! ### The meanings of the rows -/

def execStationByteReceived (l : Link) (b : Byte) (s : State) : Host.Outcome State Fault Refusal :=
  .next (s.whenAlive (receiveByte l b))

/-- A byte above 250: in RECEIVING, at the place of the length byte, it abandons the frame (01 R3); at any other place
it is received as any byte. -/
def execLengthByteAbove250 (l : Link) (b : Byte) (s : State) : Host.Outcome State Fault Refusal :=
  .next (s.whenAlive (fun s => receiveByte l b s))
def execInterByteGap (l : Link) (s : State) : Host.Outcome State Fault Refusal :=
  .next (s.whenAlive (fun s => s.onLink l LinkRec.gap))
def execLineSilent (l : Link) (s : State) : Host.Outcome State Fault Refusal :=
  .next (s.whenAlive (fun s => s.onLink l LinkRec.silent))

/-- A line fault, in any receiver state: what was being received is discarded and the receiver is in SKIPPING (01 R3). -/
def execLineFault (l : Link) (s : State) : Host.Outcome State Fault Refusal :=
  .next (s.whenAlive (fun s => s.onLink l LinkRec.abandon))

/-- A complete frame that fails its check is discarded (01 R4). -/
def execFrameCheckFailed (l : Link) (s : State) : Host.Outcome State Fault Refusal :=
  .next (s.whenAlive (fun s => s.onLink l (fun r => LinkRec.abandon r)))
def execUnknownKind (l : Link) (kind tag : Byte) (_body : Bytes) (s : State) : Host.Outcome State Fault Refusal :=
  .next (unknownRequest l kind tag s)
def execReplySent (l : Link) (s : State) : Host.Outcome State Fault Refusal :=
  .next (s.whenAlive (fun s => s.replySent l))

end Sys2Proof.Machine
end

