-- ==== Sys2Proof/Machine/Dispatch.lean ====
section
/-! DEFINITION. One arm per command: the call of its meaning, whose definition of its own cites its rule. -/

namespace Sys2Proof.Machine

def exec (i : Instr) (s : State) : Host.Outcome State Fault Refusal :=
  match i with
  | .lineFault link => Sys2Proof.Machine.execLineFault link s
  | .lengthByteAbove250 link byte => Sys2Proof.Machine.execLengthByteAbove250 link byte s
  | .interByteGap link => Sys2Proof.Machine.execInterByteGap link s
  | .lineSilent link => Sys2Proof.Machine.execLineSilent link s
  | .frameCheckFailed link => Sys2Proof.Machine.execFrameCheckFailed link s
  | .unknownKind link kind tag body => Sys2Proof.Machine.execUnknownKind link kind tag body s
  | .replySent link => Sys2Proof.Machine.execReplySent link s
  | .takeNotices link tag body => Sys2Proof.Machine.execTakeNotices link tag body s
  | .statusTeller n tag body => Sys2Proof.Machine.execStatusTeller n tag body s
  | .statusSupervisor tag body => Sys2Proof.Machine.execStatusSupervisor tag body s
  | .cutoff link tag body => Sys2Proof.Machine.execCutoff link tag body s
  | .reopenDay link tag body => Sys2Proof.Machine.execReopenDay link tag body s
  | .send link tag body => Sys2Proof.Machine.execSend link tag body s
  | .resend link tag body => Sys2Proof.Machine.execResend link tag body s
  | .config link tag body => Sys2Proof.Machine.execConfig link tag body s
  | .restart link tag body => Sys2Proof.Machine.execRestart link tag body s
  | .warmRestart => Sys2Proof.Machine.execWarmRestart s
  | .resetLineAsserted => Sys2Proof.Machine.execResetLineAsserted s
  | .warmLine => Sys2Proof.Machine.execWarmLine s
  | .mainPowerFail => Sys2Proof.Machine.execMainPowerFail s
  | .backupLow => Sys2Proof.Machine.execBackupLow s
  | .mainPowerReturn => Sys2Proof.Machine.execMainPowerReturn s
  | .oneHzTick => Sys2Proof.Machine.execOneHzTick s
  | .eightHzTick => Sys2Proof.Machine.execEightHzTick s
  | .signOn link tag body => Sys2Proof.Machine.execSignOn link tag body s
  | .openTxn link tag body => Sys2Proof.Machine.execOpenTxn link tag body s
  | .closeTxn link tag body => Sys2Proof.Machine.execCloseTxn link tag body s
  | .away link tag body => Sys2Proof.Machine.execAway link tag body s
  | .unlock link tag body => Sys2Proof.Machine.execUnlock link tag body s
  | .signOff link tag body => Sys2Proof.Machine.execSignOff link tag body s
  | .forceSignOff link tag body => Sys2Proof.Machine.execForceSignOff link tag body s
  | .readPosition link tag body => Sys2Proof.Machine.execReadPosition link tag body s
  | .idle n => Sys2Proof.Machine.execIdle n s
  | .sensorInputChange n level => Sys2Proof.Machine.execSensorInputChange n level s
  | .opening n => Sys2Proof.Machine.execOpening n s
  | .shutting n => Sys2Proof.Machine.execShutting n s
  | .releaseWindowEnd n => Sys2Proof.Machine.execReleaseWindowEnd n s
  | .drawerLong n => Sys2Proof.Machine.execDrawerLong n s
  | .serviceLong n => Sys2Proof.Machine.execServiceLong n s
  | .post link tag body => Sys2Proof.Machine.execPost link tag body s
  | .void link tag body => Sys2Proof.Machine.execVoid link tag body s
  | .readCashTeller n tag body => Sys2Proof.Machine.execReadCashTeller n tag body s
  | .readCashSupervisor tag body => Sys2Proof.Machine.execReadCashSupervisor tag body s
  | .propose link tag body => Sys2Proof.Machine.execPropose link tag body s
  | .confirm link tag body => Sys2Proof.Machine.execConfirm link tag body s
  | .decline link tag body => Sys2Proof.Machine.execDecline link tag body s
  | .withdraw link tag body => Sys2Proof.Machine.execWithdraw link tag body s
  | .expiry id => Sys2Proof.Machine.execExpiry id s
  | .beginBalance link tag body => Sys2Proof.Machine.execBeginBalance link tag body s
  | .declare link tag body => Sys2Proof.Machine.execDeclare link tag body s
  | .forceBalance link tag body => Sys2Proof.Machine.execForceBalance link tag body s
  | .reopen link tag body => Sys2Proof.Machine.execReopen link tag body s
  | .vaultDeclare link tag body => Sys2Proof.Machine.execVaultDeclare link tag body s
  | .readProfile link tag body => Sys2Proof.Machine.execReadProfile link tag body s
  | .readJournal link tag body => Sys2Proof.Machine.execReadJournal link tag body s
  | .printBook link tag body => Sys2Proof.Machine.execPrintBook link tag body s
  | .cancelPrint link tag body => Sys2Proof.Machine.execCancelPrint link tag body s
  | .printerServiceOffline link tag printer => Sys2Proof.Machine.execPrinterServiceOffline link tag printer s
  | .printerServiceOnline link tag printer => Sys2Proof.Machine.execPrinterServiceOnline link tag printer s
  | .printerServiceClear link tag printer => Sys2Proof.Machine.execPrinterServiceClear link tag printer s
  | .insertion p => Sys2Proof.Machine.execInsertion p s
  | .removal p => Sys2Proof.Machine.execRemoval p s
  | .noBook p => Sys2Proof.Machine.execNoBook p s
  | .pageTimeout p => Sys2Proof.Machine.execPageTimeout p s
  | .bookConfirmed p => Sys2Proof.Machine.execBookConfirmed p s
  | .encoderStep p dir => Sys2Proof.Machine.execEncoderStep p dir s
  | .jam p => Sys2Proof.Machine.execJam p s
  | .strikeDone p => Sys2Proof.Machine.execStrikeDone p s
  | .strikeTimeEnd p => Sys2Proof.Machine.execStrikeTimeEnd p s
  | .bookLeft p => Sys2Proof.Machine.execBookLeft p s
  | .seeTellerTimeEnd n => Sys2Proof.Machine.execSeeTellerTimeEnd n s
  | .showText link tag body => Sys2Proof.Machine.execShowText link tag body s
  | .textHoldEnd n => Sys2Proof.Machine.execTextHoldEnd n s
  | .uplinkFrameDiscarded bits => Sys2Proof.Machine.execUplinkFrameDiscarded bits s
  | .pingReply => Sys2Proof.Machine.execPingReply s
  | .dayOpen fields => Sys2Proof.Machine.execDayOpen fields s
  | .blockAck number => Sys2Proof.Machine.execBlockAck number s
  | .blockNak number => Sys2Proof.Machine.execBlockNak number s
  | .answerTimeEnd buffer => Sys2Proof.Machine.execAnswerTimeEnd buffer s
  | .dayAccepted totals => Sys2Proof.Machine.execDayAccepted totals s
  | .dayRejected reason => Sys2Proof.Machine.execDayRejected reason s
  | .verdictWaitEnd => Sys2Proof.Machine.execVerdictWaitEnd s
  | .uplinkFrameSent => Sys2Proof.Machine.execUplinkFrameSent s
  | .pingRound => Sys2Proof.Machine.execPingRound s
  | .pingWaitEnd => Sys2Proof.Machine.execPingWaitEnd s
  | .stationByteReceived link byte => Sys2Proof.Machine.execStationByteReceived link byte s

end Sys2Proof.Machine
end

