-- ==== Sys2Proof/Safety.lean ====
section
/-! DEFINITION. What a sound state is: the laws the spec states of the whole part, block by block. Claims about runs use
these terms. -/

namespace Sys2Proof.Machine

/-! ### Ranges -/

/-- The day's clock and the configuration lie in their ranges (02 R15, R27). -/
def State.ClockLaw (s : State) : Prop :=
  s.day.hundredths ≤ 99 ∧ s.day.seconds ≤ 86399 ∧ s.day.phase ≤ 7 ∧ s.day.warmCount ≤ 255
def Settings.InRange (c : Settings) : Prop :=
  (10 ≤ c.idleBlank ∧ c.idleBlank ≤ 900) ∧ c.brightness ≤ 15 ∧ (5 ≤ c.openLimit ∧ c.openLimit ≤ 300) ∧
  (30 ≤ c.serviceLimit ∧ c.serviceLimit ≤ 3600) ∧ (30 ≤ c.transferExpiry ∧ c.transferExpiry ≤ 600) ∧
  (30 ≤ c.overrideExpiry ∧ c.overrideExpiry ≤ 600) ∧ (12 ≤ c.linesPerPage ∧ c.linesPerPage ≤ 32) ∧
  (1 ≤ c.pagesPerBook ∧ c.pagesPerBook ≤ 16) ∧ (8 ≤ c.linePitch ∧ c.linePitch ≤ 32) ∧ c.topMargin ≤ 255 ∧
  (4 ≤ c.pingPeriod ∧ c.pingPeriod ≤ 1020 ∧ c.pingPeriod % 4 = 0) ∧ c.pingRetries ≤ 7 ∧ c.blockRetryLimit ≤ 15

/-- The day parameters lie in their ranges (02 R15). -/
def Day.ParametersInRange (d : Day) : Prop :=
  (d.minorDigits = 0 ∨ d.minorDigits = 2 ∨ d.minorDigits = 3) ∧ d.postingLimit ≤ Config.maxAmount ∧
  d.itemization ≤ Config.maxAmount ∧ (1 ≤ d.drawerMax ∧ (d.drawerMax : Int) ≤ Config.maxTotal) ∧
  d.tolerance ≤ Config.maxTolerance

/-! ### The day and the positions (02 R21, 03 R36, R37) -/

/-- Outside OPEN and CUTOFF every position is CLOSED and the dual-control table is empty (02 R21); a position holds a
teller ID in every state other than CLOSED (03 R36), and no ID is held twice (03 R38). -/
def State.DayLaw (s : State) : Prop :=
  (s.day.state ≠ .opened → s.day.state ≠ .cutoff → (∀ n, (s.pos n).state = .closed) ∧ s.dct.entries = []) ∧
  (∀ n, (s.pos n).teller = none ↔ (s.pos n).state = .closed) ∧
  (∀ n m, (s.pos n).teller = (s.pos m).teller → (s.pos n).teller ≠ none → n = m)

/-- A transaction is open exactly in SERVING and HELD: then its start is present and the stopwatch runs, and only then
does an amount stand at the window (03 R39, R55, 09 R169). -/
def State.TxnLaw (s : State) : Prop :=
  ∀ n, ((s.pos n).txnStart ≠ none ↔ (s.pos n).state.inTxn = true) ∧ ((s.pos n).running = true ↔ (s.pos n).state.inTxn = true) ∧
    ((s.window n).amount ≠ none → (s.pos n).state.inTxn = true)

/-- A release window holds at most its time, and a transaction starts at a number that the journal has reached (03 R39,
R50). -/
def State.WatchLaw (s : State) : Prop :=
  ∀ n, (∀ w, (s.pos n).window = some w → w ≤ Config.releaseWindow) ∧
    ∀ q, (s.pos n).txnStart = some q → 1 ≤ q ∧ q ≤ s.jnl.next

/-- A release window runs only on a RELEASED lock with the drawer SHUT (03 R50 to R52). -/
def State.LockLaw (s : State) : Prop :=
  ∀ n, (s.pos n).window ≠ none → (s.pos n).lock = .released ∧ (s.pos n).sensor = .shut

/-- Every count of a position, and every brightness, lies in its range (03 R36, 09 R165). -/
def Position.InRange (p : Position) : Prop :=
  (∀ id, p.teller = some id → 1 ≤ id ∧ id ≤ Config.maxTeller) ∧ p.openTime ≤ Config.maxStopwatch ∧
  (5 ≤ p.openLimit ∧ p.openLimit ≤ 300) ∧ p.stopwatch ≤ Config.maxStopwatch ∧
  (30 ≤ p.serviceLimit ∧ p.serviceLimit ≤ 3600) ∧ p.silence ≤ Config.maxSilence
def State.RangeLaw (s : State) : Prop :=
  ∀ n, (s.pos n).InRange ∧ (s.window n).current ≤ 15 ∧ (s.window n).target ≤ 15

/-! ### Station links (01 R5) -/

/-- The transmit list of a link: the accepted request's reply stands in it exactly while the link is in work, with at
most one BUSY reply beside it. -/
def LinkRec.Law (r : LinkRec) : Prop :=
  (r.transmit.filter Reply.own).length = (if r.inWork then 1 else 0) ∧
  (r.transmit.filter (fun a => !a.own)).length ≤ 1
def State.LinkLaw (s : State) : Prop := ∀ l, (s.link l).Law

/-- While a RESTART's reset is pending the part takes events and SL has a request in work, whose reply begins it (02 R34). -/
def State.RestartLaw (s : State) : Prop := s.supply.restartPending = true → s.alive = true ∧ (s.link .sl).inWork = true

/-- A link carries no notice of a kind that is not its own (01 R11, R13). -/
def State.NoticeLaw (s : State) : Prop :=
  ∀ l (k : Notice), k.carriedBy l = false → (s.link l).notices.get k.idx = false

/-! ### Cash (04 R60 to R63) -/

/-- The denomination table: face values in range, strictly increasing over the present slots (04 R60). -/
def State.FacesLaw (s : State) : Prop :=
  increasing (s.cash.faces.toList.filterMap id) = true ∧
  ∀ i v, s.cash.faces.get i = some v → 1 ≤ v ∧ v ≤ Config.maxFace

/-- A cash record: the stored total equals the value of its counts plus the unitemized balance, an absent slot holds no
piece, and every figure is in its range (04 R60, R61). -/
def CashRecord.Law (faces : Vec 12 (Option Nat)) (bound : Nat) (r : CashRecord) : Prop :=
  r.total = worth faces r.counts + r.unitemized ∧ (∀ i, faces.get i = none → r.counts.get i = 0) ∧
  (∀ i, r.counts.get i ≤ bound) ∧ (-Config.maxUnitemized ≤ r.unitemized ∧ r.unitemized ≤ Config.maxUnitemized) ∧
  (0 ≤ r.total ∧ r.total ≤ Config.maxTotal)
def State.RecordsLaw (s : State) : Prop :=
  (∀ n, (s.drawer n).Law s.cash.faces Config.maxDrawerCount) ∧ s.cash.vault.Law s.cash.faces Config.maxVaultCount

/-- A CLOSED position holds an empty drawer, and its drawer is ARMED (03 R45, 04 R79). -/
def State.EmptyLaw (s : State) : Prop :=
  ∀ n, (s.pos n).state = .closed → (s.drawer n).isEmpty = true ∧ s.cash.high.get n = false

/-- Conservation of cash (04 R63). -/
def Cash.Conserved (c : Cash) : Prop :=
  c.grandTotal = (c.opening : Int) + c.cashIn - c.cashOut + c.dayOver - c.dayShort

/-- The branch day counters lie in their range (04 R62). -/
def Cash.CountersInRange (c : Cash) : Prop :=
  c.opening ≤ Config.maxCounter ∧ c.cashIn ≤ Config.maxCounter ∧ c.cashOut ≤ Config.maxCounter ∧
  c.dayOver ≤ Config.maxCounter ∧ c.dayShort ≤ Config.maxCounter

/-- The cash law: denominations, records, empty closed drawers, counters and conservation. -/
def State.CashLaw (s : State) : Prop :=
  s.FacesLaw ∧ s.RecordsLaw ∧ s.EmptyLaw ∧ s.cash.CountersInRange ∧ s.cash.Conserved

/-! ### The dual-control table (05 R84 to R86) -/

/-- An entry's proposal is one that its request's checks admit: a transfer's pieces are worth its amount, and a held
posting's breakdown nets its amount (05 R88 check 7, 04 R66). -/
def Entry.Law (c : Cash) (e : Entry) : Prop :=
  1 ≤ e.amount ∧ e.amount ≤ Config.maxAmount ∧
  match e.proposal with
  | .transfer src dst lines =>
    src ≠ dst ∧ c.proposalOk e.amount lines = true ∧ confirmingParty e.proposer src dst = some e.confirmer
  | .override n p =>
    e.amount = p.amount ∧ c.breakdownOk p.kind.dir p.amount p.lines = true ∧ (p.book = true → p.account ≠ 0) ∧
    e.proposer = .tl n ∧ e.confirmer = .sl

/-- The overrides the table holds for position `n`. -/
def Entry.isOverrideOf (n : Fin 8) (e : Entry) : Bool :=
  match e.proposal with
  | .override m _ => m == n
  | .transfer _ _ _ => false
def Dct.overrides (d : Dct) (n : Fin 8) : Nat := (d.entries.filter (Entry.isOverrideOf n)).length

/-- The table: at most six entries, ids 1 to 255 and no two the same, and a position is HELD exactly when the table holds
one override of it (05 R84, R86). -/
def State.TableLaw (s : State) : Prop :=
  s.dct.entries.length ≤ Config.tableRoom ∧ (s.dct.entries.map Entry.id).Nodup ∧
  (∀ e ∈ s.dct.entries, 1 ≤ e.id ∧ e.id ≤ 255 ∧ e.Law s.cash) ∧ s.dct.cursor ≤ 255 ∧
  ∀ n, s.dct.overrides n = (if (s.pos n).state = .held then 1 else 0)

/-! ### Balancing (06 R100, R105) -/

/-- A balancing context against its position's state: the misses counted say the state, and in FORCE-WAIT the last
declaration stands, one that DECLARE's checks admit. -/
def State.ContextLaw (s : State) : Prop :=
  ∀ n, (s.context n).attempts ≤ 3 ∧
    match (s.pos n).state with
    | .balancing => (s.context n).attempts = 0
    | .outOfBalance => (s.context n).attempts = 1 ∨ (s.context n).attempts = 2
    | .forceWait =>
      (s.context n).attempts = 3 ∧ ∃ counts, (s.context n).declaration = some counts ∧
        (∀ i, counts.get i ≤ Config.maxDrawerCount) ∧ (∀ i, s.cash.faces.get i = none → counts.get i = 0) ∧
        worth s.cash.faces counts ≤ Config.maxTotal
    | _ => True

/-! ### Day profiles (06 R113 to R115) -/

/-- A day profile: its items in their ranges, the service times between least and greatest, and every sum within the day
counter that it shares in. -/
def Profile.Law (c : Cash) (f : Profile) : Prop :=
  f.transactions ≤ Config.hold16 ∧ f.serviceMin ≤ f.serviceMax ∧ f.serviceMax ≤ Config.maxStopwatch ∧
  f.serviceSum ≤ f.serviceMax * f.transactions ∧ f.postings ≤ Config.hold16 ∧ f.overrides ≤ Config.hold16 ∧
  f.cashIn ≤ c.cashIn ∧ f.cashOut ≤ c.cashOut ∧ f.largest ≤ Config.maxAmount ∧ f.overSum ≤ c.dayOver ∧
  f.shortSum ≤ c.dayShort
def State.ProfileLaw (s : State) : Prop := ∀ n, (s.profile n).Law s.cash

/-! ### The journal (07 R118 to R125) -/

/-- A record's marks: a record whose book flag is set is a posting or a reversal with its account, a book-pending record
has its flag set and is unprinted, and a posting's amount is one that POST takes (07 R120, R125, 04 R65). -/
def Record.Law (r : Record) : Prop :=
  (r.book = true → r.account ≠ none ∧ (r.kind.posting? ≠ none ∨ r.kind = .reversal)) ∧
  (r.pending = true → r.book = true ∧ r.printed = none) ∧ (r.kind.posting? ≠ none → r.amount ≤ Config.maxAmount)

/-- The journal: numbers run from 1 without a gap, the next number is one more than the records held, the class limits
hold, the journal is empty in CLOSED, no record is marked sent before the day is sent, and the carry list has room. -/
def State.JournalLaw (s : State) : Prop :=
  s.jnl.records.map Record.seq = List.range' 1 s.jnl.records.length ∧ s.jnl.next = s.jnl.records.length + 1 ∧
  s.jnl.records.length ≤ Config.journalRoom ∧ s.jnl.customers ≤ Config.customerRoom ∧
  (s.day.state = .closed → s.jnl.records = []) ∧
  ((s.day.state = .opened ∨ s.day.state = .cutoff) → ∀ r ∈ s.jnl.records, r.sent = false) ∧
  (∀ r ∈ s.jnl.records, r.Law) ∧ s.jnl.unjournaled ≤ Config.hold16 ∧ s.jnl.carry.length ≤ Config.carryRoom

/-! ### The printers (08 R135, R141) -/

/-- What a printer's state says of its book, job, fault and outputs (08 R141's table). -/
def Printer.Law (r : Printer) : Prop :=
  (r.state ∈ [.idle, .fault, .offline] → r.job = none) ∧
  (r.state ∈ [.waitBook, .confirming, .aligning, .striking, .feeding, .pageTurn] → r.job ≠ none) ∧
  (r.state ∈ [.waitBook, .pageTurn] → r.book = false) ∧
  (r.state ∈ [.confirming, .aligning, .striking, .feeding, .ejecting, .waitRemoval] → r.book = true) ∧
  (r.fault ≠ none ↔ r.state = .fault) ∧ (r.state = .idle → r.online = true) ∧ (r.state = .offline → r.online = false) ∧
  (r.motor ≠ .off → r.state ∈ [.aligning, .feeding, .ejecting]) ∧ (r.strike = true → r.state = .striking) ∧
  Config.encoderLow ≤ r.count ∧ r.count ≤ Config.encoderHigh

/-- The positions that have a job, queued or running, one entry for each job. -/
def Printer.jobPosition (r : Printer) : Option (Fin 8) := r.job.map Job.position
def Pbu.jobPositions (u : Pbu) : List (Fin 8) :=
  u.queue.map Job.position ++ u.printers.toList.filterMap Printer.jobPosition

/-- The print unit: each printer is as its state says, and no position has two jobs (08 R135, R141). -/
def State.PrinterLaw (s : State) : Prop := (∀ p, (s.printer p).Law) ∧ s.pbu.jobPositions.Nodup

/-! ### The uplink (10 R180, R181, R186) -/

/-- A block in a buffer: 1 to 16 records, OUTSTANDING, or the SUMMARY; its answer time runs only while OUTSTANDING. -/
def Block.Law (k : Block) : Prop :=
  (1 ≤ k.number ∧ k.number ≤ Config.maxBlock) ∧ k.retries ≤ Config.retryHold ∧ (k.held = true → k.answer = none) ∧
  match k.contents with
  | .records q => 1 ≤ q.length ∧ q.length ≤ Config.blockRecords ∧ k.held = false
  | .summary _ => True

/-- The uplink: buffers hold blocks, and the verdict wait runs, only while the day is SENDING and the link UP; no record is
in two blocks; the transmit list holds at most one waiting frame for each purpose. -/
def State.UplinkLaw (s : State) : Prop :=
  (¬(s.day.state = .sending ∧ s.ulc.up = true) →
    s.ulc.buffers.get 0 = none ∧ s.ulc.buffers.get 1 = none ∧ s.ulc.verdict = none) ∧
  (∀ b k, s.ulc.buffers.get b = some k → k.Law) ∧
  (∀ q ∈ heldSeqs (s.ulc.buffers.get 0), q ∉ heldSeqs (s.ulc.buffers.get 1)) ∧
  (s.ulc.verdict ≠ none → s.ulc.heldBlock ≠ none) ∧ (s.ulc.waiting.map UpFrame.purpose).Nodup ∧
  (1 ≤ s.ulc.nextBlock ∧ s.ulc.nextBlock ≤ Config.maxBlock)

/-! ### Displays and lamps (09 R165 to R176) -/

/-- While the part takes events, every idle flag, display and lamp is what the rest of the state composes (03 R48,
09 R167, R172, R176). -/
def State.ComposedLaw (s : State) : Prop := s.alive = true → s.settle = s

/-- While the part takes events, every lamp's output is its pattern's at the phase of the last tick (09 R175). -/
def State.LampLaw (s : State) : Prop := s.alive = true → ∀ m, (s.window m).lamp = (s.window m).pattern.output s.day.phase

/-! ### A sound state -/

/-- Every law at once. -/
structure State.Sound (s : State) : Prop where
  clock : s.ClockLaw
  settings : s.settings.InRange
  parameters : s.day.ParametersInRange
  day : s.DayLaw
  txn : s.TxnLaw
  lock : s.LockLaw
  watch : s.WatchLaw
  range : s.RangeLaw
  link : s.LinkLaw
  restart : s.RestartLaw
  notice : s.NoticeLaw
  cash : s.CashLaw
  table : s.TableLaw
  context : s.ContextLaw
  profile : s.ProfileLaw
  journal : s.JournalLaw
  printer : s.PrinterLaw
  uplink : s.UplinkLaw
  composed : s.ComposedLaw
  lamp : s.LampLaw

/-! ### What a command changes: the terms of claims -/

/-- The parts of the state besides the queue, the links, the positions and the windows. -/
inductive Part where
  | supply | day | settings | cash | dct | bal | jnl | pbu | ulc
deriving DecidableEq, Repr

/-- A part stands in `t` as in `s`. -/
def State.SamePart (s t : State) : Part → Prop
  | .supply => t.supply = s.supply
  | .day => t.day = s.day
  | .settings => t.settings = s.settings
  | .cash => t.cash = s.cash
  | .dct => t.dct = s.dct
  | .bal => t.bal = s.bal
  | .jnl => t.jnl = s.jnl
  | .pbu => t.pbu = s.pbu
  | .ulc => t.ulc = s.ulc

/-- A position's record but for its idle flag, which follows the rest (03 R48). -/
def Position.core (p : Position) : Position := { p with idle := false }

/-- The text, the amount and the brightness of window `m` stand in `t` as in `s`; the rest of a window is composed. -/
def State.SameLayers (s t : State) (m : Fin 8) : Prop :=
  (t.window m).text = (s.window m).text ∧ (t.window m).amount = (s.window m).amount ∧
  (t.window m).current = (s.window m).current

/-- The idle flags, displays and lamps of `t` are composed of the rest of it, and a lamp's output is new only where its
pattern is (09 R175). -/
def State.Shows (s t : State) : Prop :=
  t.settle = t ∧ ∀ m, (t.window m).lamp =
    if (t.window m).pattern = (s.window m).pattern then (s.window m).lamp else (t.window m).pattern.output t.day.phase

/-- What a command may change, besides the idle flags, displays and lamps that follow: parts, positions, the layers of
windows, and the notices it sets. -/
structure Change where
  parts : List Part := []
  positions : List (Fin 8) := []
  windows : List (Fin 8) := []
  notices : List (Notice × Link) := []

/-- From `s` to `t` the queue stands, and every part and window that `c` does not name. -/
def State.Keeps (s t : State) (c : Change) : Prop :=
  t.pending = s.pending ∧ (∀ p, p ∉ c.parts → s.SamePart t p) ∧ (∀ m, m ∉ c.windows → s.SameLayers t m)

/-- From `s` to `t` exactly the notices that `c` names have been set (01 R11). -/
def State.Notes (s t : State) (c : Change) : Prop :=
  ∀ l (k : Notice), (t.link l).notices.get k.idx = ((s.link l).notices.get k.idx || c.notices.contains (k, l))

/-- From `s` to `t` link `l` has changed in its notices alone. -/
def State.SameLink (s t : State) (l : Link) : Prop := t.link l = { s.link l with notices := (t.link l).notices }

/-- `t` follows `s` by an event that changes what `c` names and nothing else. -/
def State.Event (s t : State) (c : Change) : Prop :=
  s.Keeps t c ∧ s.Notes t c ∧ (∀ l, s.SameLink t l) ∧ (∀ m, m ∉ c.positions → (t.pos m).core = (s.pos m).core) ∧ s.Shows t

/-- A link takes a request for action: the part is alive and the link has none in work (01 R5, 02 R32). -/
def State.Accepts (s : State) (l : Link) : Prop := s.alive = true ∧ (s.link l).inWork = false

/-- Position `m` after a request from `l` that does not concern it otherwise: its own link's request ends its silence
(03 R48). -/
def State.heardPos (s : State) (l : Link) (m : Fin 8) : Position :=
  if l = .tl m then { (s.pos m).core with silence := 0 } else (s.pos m).core

/-- Link `l` after its accepted request was answered: the receiver in HUNT, the request in work, the tag where it is
recorded, the reply behind those waiting, its indication that of the notice set (01 R4, R5, R8, R10). -/
def State.Replied (s t : State) (l : Link) (kind tag : Byte) (recorded : Bool) (code : Code) (rest : Bytes) : Prop :=
  t.link l =
    { s.link l with
      receiver := .hunt, frame := [], quiet := none, inWork := true
      lastTag := if recorded then some tag else (s.link l).lastTag
      notices := (t.link l).notices
      transmit := (s.link l).transmit ++
        [{ kind := kind, tag := tag, code := code, waiting := (t.link l).notices.any id, rest := rest, own := true }] }

/-- `t` follows `s` by a request on `l`, answered with a code and the rest of its body, that changes what `c` names and
nothing else. -/
def State.Answered (s t : State) (l : Link) (kind tag : Byte) (recorded : Bool) (code : Code) (rest : Bytes) (c : Change) :
    Prop :=
  s.Keeps t c ∧ s.Notes t c ∧ s.Replied t l kind tag recorded code rest ∧ (∀ k, k ≠ l → s.SameLink t k) ∧
  (∀ m, m ∉ c.positions → (t.pos m).core = s.heardPos l m) ∧ s.Shows t

/-- `t` follows `s` by a refused request: it changes nothing but its link and its own silence (01 R7). -/
def State.Refused (s t : State) (l : Link) (kind tag : Byte) (code : Code) : Prop :=
  s.Answered t l kind tag false code [] {}

/-- A command answered by a refusal. -/
def State.Refuses (s : State) (c : Instr) (l : Link) (kind tag : Byte) (code : Code) : Prop :=
  ∃ t, exec c s = .next t ∧ s.Refused t l kind tag code

/-! ### Records, notices and judgements in claims -/

/-- The journal with one more record, by the rules of number, time and JOURNAL-HIGH (07 R121, R124). -/
def Journal.withRecord (j : Journal) (time : Nat) (r : Record) : Journal :=
  { j with
    records := j.records ++ [{ r with seq := j.next, time := time }]
    next := j.next + 1
    spent := j.spent || decide (j.records.length + 1 = 3584) }

/-- The journal after a system-class record was asked for: one more record, or one more lost (07 R123). -/
def Journal.withSystem (j : Journal) (time : Nat) (r : Record) : Journal :=
  if j.records.length < 4096 then j.withRecord time r else { j with unjournaled := min 65535 (j.unjournaled + 1) }

/-- What a reply says of a system-class record asked for with journal `j` (11 R199): status 0 and its number, or 2 and 0. -/
def Journal.answered (j : Journal) : Bytes :=
  if j.records.length < 4096 then be 1 0 ++ be 2 j.next else be 1 2 ++ be 2 0

/-- JOURNAL-HIGH where the state became SPENT (07 R124). -/
def State.highJournal (s t : State) : List (Notice × Link) :=
  if s.jnl.spent = false ∧ t.jnl.spent = true then [(.journalHigh, .sl)] else []

/-- DRAWER-HIGH where some drawer became HIGH (04 R78). -/
def State.highDrawer (s t : State) : List (Notice × Link) :=
  if ∃ n, s.cash.high.get n = false ∧ t.cash.high.get n = true then [(.drawerHigh, .sl)] else []

/-- A notice on all nine links. -/
def everywhere (k : Notice) : List (Notice × Link) :=
  (List.finRange 8).map (fun n => (k, .tl n)) ++ [(k, .sl)]

/-- A position's lock after a release by the table of 03 R50. -/
def Position.Released (p q : Position) : Prop :=
  q.lock = .released ∧
  q.window = (if p.sensor = .shut then some 1000 else if p.lock = .released then p.window else none)

/-- The DRAWER-HIGH state of a drawer after its total changed (04 R78, R79); a put-away or a count only re-arms. -/
def highAfter (was raises : Bool) (maximum : Nat) (total : Int) : Bool :=
  if was then decide (((9 * maximum / 10 : Nat) : Int) < total) else raises && decide ((maximum : Int) < total)

/-- The commands that the world gives whether or not the part takes events: the supply, the reset line, the timebase and
the levels of the input pins. -/
def outsideCommand : Instr → Bool
  | .resetLineAsserted | .warmLine | .mainPowerFail | .backupLow | .mainPowerReturn | .oneHzTick | .eightHzTick => true
  | .sensorInputChange _ _ | .insertion _ | .removal _ => true
  | _ => false

/-! ### Time in claims -/

/-- A time that runs down, and a count that runs up to its bound, after one hundredth. -/
def lessOne (t : Option Nat) : Option Nat := t.map (fun k => k - 1)
def oneMore (bound n : Nat) : Nat := if n < bound then n + 1 else n

/-- A part that takes events after one hundredth (02 R24 to R26), none of its timers' ends yet taken: the clock and its
ticks, every running time, and the silence of each station line, which acts on its receiver alone (01 R3, log 9). -/
def State.passed (s : State) : State :=
  let h := if s.day.hundredths < 99 then s.day.hundredths + 1 else 0
  let tick : Option Nat := match h with
    | 0 => some 0 | 12 => some 1 | 25 => some 2 | 37 => some 3 | 50 => some 4 | 62 => some 5 | 75 => some 6 | 87 => some 7
    | _ => none
  { s with
    day := { s.day with
      hundredths := h, phase := tick.getD s.day.phase
      seconds := if h = 0 then (if s.day.seconds < 86399 then s.day.seconds + 1 else 0) else s.day.seconds }
    links := s.links.map (fun r =>
      match lessOne r.quiet, r.receiver with
      | some 0, .receiving => { r with receiver := .skipping, frame := [], quiet := some 2 }
      | some 0, .skipping => { r with receiver := .hunt, frame := [], quiet := none }
      | q, _ => { r with quiet := q })
    positions := s.positions.map (fun p => { p with
      window := lessOne p.window, hold := lessOne p.hold, silence := oneMore 90000 p.silence
      openTime := if p.sensor = .opened then oneMore 999999 p.openTime else p.openTime
      stopwatch := if p.running then oneMore 999999 p.stopwatch else p.stopwatch })
    dct := { s.dct with entries := s.dct.entries.map (fun e => { e with remaining := e.remaining - 1 }) }
    pbu := { s.pbu with
      printers := s.pbu.printers.map (fun r => { r with timer := lessOne r.timer })
      seeTeller := s.pbu.seeTeller.map lessOne }
    windows := s.windows.map (fun w => { w with
      text := w.text.map (fun x => { x with hold := x.hold - 1 })
      current := if tick = none then w.current else if w.current < w.target then w.current + 1
        else if w.target < w.current then w.current - 1 else w.current
      lamp := match tick with
        | some phase => w.pattern.output phase
        | none => w.lamp })
    ulc := { s.ulc with
      sinceRef := s.ulc.sinceRef + 1
      round := s.ulc.round.map (fun r => { r with wait := lessOne r.wait })
      buffers := s.ulc.buffers.map (fun b => b.map (fun k => { k with answer := lessOne k.answer }))
      verdict := lessOne s.ulc.verdict } }

/-- A command whose moment has come, where it has. -/
def dueIf (p : Prop) [Decidable p] (c : Instr) : List Instr := if p then [c] else []

/-- The commands whose moments have come: the ends of the timers that have reached 0 and the limits that have been reached. -/
def State.dueNow (s : State) : List Instr :=
  let ofPosition (n : Fin 8) : List Instr :=
    let p := s.pos n
    List.flatten
      [dueIf (p.hold = some 0) (if p.input = .opened then .opening n else .shutting n),
       dueIf (p.window = some 0) (.releaseWindowEnd n),
       dueIf (p.sensor = .opened ∧ p.longRaised = false ∧ p.openLimit * 100 ≤ p.openTime) (.drawerLong n),
       dueIf (p.running = true ∧ p.serviceRaised = false ∧ p.serviceLimit * 100 ≤ p.stopwatch) (.serviceLong n),
       dueIf (s.pbu.seeTeller.get n = some 0) (.seeTellerTimeEnd n),
       dueIf ((s.window n).text.map TextLayer.hold = some 0) (.textHoldEnd n)]
  let ofPrinter (p : Fin 2) : List Instr :=
    if (s.printer p).timer = some 0 then
      match (s.printer p).state with
      | .waitBook => [.noBook p]
      | .pageTurn => [.pageTimeout p]
      | .confirming => [.bookConfirmed p]
      | .striking => [.strikeTimeEnd p]
      | .aligning | .feeding | .ejecting => [.jam p]
      | .waitRemoval => [.bookLeft p]
      | .idle | .fault | .offline => []
    else []
  let ofBuffer (b : Fin 2) : List Instr := dueIf ((s.ulc.buffers.get b).bind Block.answer = some 0) (.answerTimeEnd b)
  List.flatten
    [(List.finRange 8).flatMap ofPosition,
     (s.dct.entries.filter (fun e => e.remaining == 0)).map (fun e => .expiry e.id),
     (List.finRange 2).flatMap ofPrinter, (List.finRange 2).flatMap ofBuffer,
     dueIf (s.ulc.verdict = some 0) .verdictWaitEnd,
     dueIf (s.ulc.round.bind Round.wait = some 0) .pingWaitEnd,
     dueIf (s.ulc.round = none ∧ s.settings.pingPeriod * 100 ≤ s.ulc.sinceRef) .pingRound]

/-! ### Requests and replies in claims -/

/-- The body lengths of 11 R198's table, by kind value: `sl` says that the link is SL. -/
def LengthAdmitted (kind : Nat) (sl : Bool) (len : Nat) : Prop :=
  (kind ∈ [1, 2, 3, 4, 5, 6, 8, 10, 11, 12, 14, 24, 26, 32] ∧ len = 0) ∨
  (kind ∈ [15, 16, 21, 22, 23, 27, 29] ∧ len = 1) ∨ (kind ∈ [9, 13, 30, 33] ∧ len = 2) ∨ (kind = 31 ∧ len = 12) ∨
  (kind = 19 ∧ len = if sl then 1 else 0) ∨ (kind = 7 ∧ ∃ k, 1 ≤ k ∧ k ≤ 22 ∧ len = 4 * k) ∨
  (kind = 17 ∧ ∃ k, k ≤ 12 ∧ len = 12 + 4 * k) ∨ (kind = 18 ∧ ∃ k, k ≤ 12 ∧ len = 2 + 4 * k) ∨
  (kind = 20 ∧ ∃ k, k ≤ 12 ∧ len = 7 + 4 * k) ∨ (kind = 25 ∧ ∃ k, k ≤ 12 ∧ len = 3 * k) ∨
  (kind = 28 ∧ ∃ k, k ≤ 12 ∧ len = 4 * k) ∨ (kind = 34 ∧ 1 ≤ len ∧ len ≤ 17)

/-! ### Cash movements in claims -/

/-- Breakdown lines that 04 R66 admits for a movement of `amount`, into the drawer or out of it. -/
def Cash.LinesMove (c : Cash) (into : Bool) (amount : Nat) (lines : List Line) : Prop :=
  (∀ l ∈ lines, (∃ h : l.slot < 12, c.faces.get ⟨l.slot, h⟩ ≠ none) ∧ 1 ≤ l.count ∧ l.count ≤ 999) ∧
  lines.Pairwise (fun a b => a.slot ≠ b.slot ∨ a.isIn ≠ b.isIn) ∧
  worth c.faces (pieces into lines) - worth c.faces (pieces (!into) lines) = amount

/-- The first of 04 R68's checks that a cash movement fails, in their order: the pieces, the slot counts, the unitemized
withdrawal, the unitemized balance, the total and the day counter. -/
def Cash.effectFails (c : Cash) (d : CashRecord) (into : Bool) (amount : Nat) (lines : List Line) : Option Code :=
  let ins := pieces true lines
  let outs := pieces false lines
  let signed : Int := if into then amount else -(amount : Int)
  let unitemized := if lines = [] then d.unitemized + signed else d.unitemized
  if ∃ i, d.counts.get i + ins.get i < outs.get i then some .shortfall
  else if ∃ i, 65535 < d.counts.get i + ins.get i - outs.get i then some .range
  else if into = false ∧ lines = [] ∧ d.total < (amount : Int) then some .shortfall
  else if unitemized < -9999999999 ∨ 9999999999 < unitemized then some .range
  else if d.total + signed < 0 ∨ 99999999999 < d.total + signed then some .range
  else if 999999999999 < (if into then c.cashIn else c.cashOut) + amount then some .range
  else none

/-! ### Layouts in claims -/

/-- One byte of a two-valued item (11 R199). -/
def flagByte (p : Prop) [Decidable p] : Bytes := if p then [1] else [0]

/-- The first 26 bytes of a journal record (11 R200), and its five mark bytes. -/
def Record.shown (r : Record) : Bytes :=
  let holder : Option Holder → Bytes
    | some (.drawer n) => be 1 n.val
    | some .vault => [8]
    | none => [255]
  be 2 r.seq ++ be 3 r.time ++
  (match r.place with | .position n => be 1 n.val | .vault => [8] | .none => [255]) ++ be 2 r.teller ++
  (match r.kind with
    | .deposit => [1] | .withdrawal => [2] | .credit => [3] | .debit => [4] | .reversal => [5] | .signOn => [6]
    | .signOff => [7] | .putAway => [8] | .transfer => [9] | .cashOver => [10] | .cashShort => [11] | .vaultCount => [12]
    | .drawerForced => [13] | .reset => [14]) ++
  be 5 r.amount ++ be 5 (r.account.getD 0) ++ holder r.source ++ holder r.destination ++ flagByte (r.book = true) ++
  (match r.effect with | .none => [0] | .credit => [1] | .debit => [2]) ++
  (match r.link with | .absent => [0, 0, 0] | .reversed q => 1 :: be 2 q | .voidedBy q => 2 :: be 2 q)
def Record.marksShown (r : Record) : Bytes :=
  flagByte (r.pending = true) ++ flagByte (r.sent = true) ++
  (match r.claimed with | some n => be 1 n.val | none => [255]) ++
  (match r.printed with | some (page, line) => be 1 page ++ be 1 line | none => [0, 0])

/-- A day profile in 46 bytes (11 R199, R202), the least, greatest and average 0 where no transaction was counted. -/
def Profile.shown (f : Profile) : Bytes :=
  let none? (v : Nat) : Nat := if f.transactions = 0 then 0 else v
  be 2 f.transactions ++ be 5 f.serviceSum ++ be 3 (none? f.serviceMin) ++ be 3 (none? f.serviceMax) ++
  be 3 (none? ((2 * f.serviceSum + f.transactions) / (2 * f.transactions))) ++ flagByte (f.transactions = 0) ++
  be 2 f.postings ++ be 5 f.cashIn ++ be 5 f.cashOut ++ be 5 f.largest ++ be 2 f.overrides ++ be 5 f.overSum ++ be 5 f.shortSum

/-! ### Print jobs in claims -/

/-- Job `j` has ended from `s` to `t` (08 R158, steps 1 to 3): its claims are released, its position's result is written
and the see-teller time starts, or stops at a DONE. -/
def State.JobEnds (s t : State) (j : Job) (outcome : PrintOutcome) (printer : Option (Fin 2)) (cause : Option FaultCause) :
    Prop :=
  t.jnl = { s.jnl with
    records := s.jnl.records.map (fun r => if r.claimed = some j.position then { r with claimed := none } else r)
    carry := s.jnl.carry.map (fun c => if c.heldBy = some j.position then { c with heldBy := none } else c) } ∧
  t.pbu.results = s.pbu.results.set j.position
    ⟨outcome, printer, cause, j.account, j.items.length, j.more, j.printed, j.page, j.line, j.balance, !j.overflow⟩ ∧
  t.pbu.seeTeller = s.pbu.seeTeller.set j.position (if outcome = .done then none else some 1000)

/-- A job's end: the job, its outcome, the printer it ran on and a fault's cause. -/
structure JobEnd where
  job : Job
  outcome : PrintOutcome
  printer : Option (Fin 2)
  cause : Option FaultCause

/-- `s` with that job ended (08 R158, steps 1 to 4). -/
def State.jobEnded (s : State) (e : JobEnd) : State :=
  let j := e.job
  { s with
    jnl := { s.jnl with
      records := s.jnl.records.map (fun r => if r.claimed = some j.position then { r with claimed := none } else r)
      carry := s.jnl.carry.map (fun c => if c.heldBy = some j.position then { c with heldBy := none } else c) }
    links := s.links.modify (Link.tl j.position).idx (fun r => { r with notices := r.notices.set Notice.printEnded.idx true })
    pbu := { s.pbu with
      results := s.pbu.results.set j.position
        ⟨e.outcome, e.printer, e.cause, j.account, j.items.length, j.more, j.printed, j.page, j.line, j.balance, !j.overflow⟩
      seeTeller := s.pbu.seeTeller.set j.position (if e.outcome = .done then none else some 1000) } }

/-- From `s` to `t` the job of `ended`, where there is one, has ended, printer `p` is as `q`, and where it is then free the
waiting jobs have been judged in that state (08 R139): a job that may use it has it, or has ended BOOK-FULL. -/
def State.Leaves (s t : State) (ended : Option JobEnd) (p : Fin 2) (q : Printer) : Prop :=
  let ended : State := match ended with
    | some e => s.jobEnded e
    | none => s
  let left : State := { ended with pbu := { ended.pbu with printers := s.pbu.printers.set p q } }
  let judged : State := if q.state = .idle ∧ q.book = false then left.assign else left
  t.pbu = judged.pbu ∧ t.jnl = judged.jnl ∧
  ∀ l (k : Notice), (t.link l).notices.get k.idx = (judged.link l).notices.get k.idx

/-- No waiting job may take printer `p`, nor another printer that is free (08 R139). -/
def State.QueueStays (s : State) (p : Fin 2) : Prop :=
  ∀ j ∈ s.pbu.queue, ∀ q, (q = p ∨ (s.printer q).state = .idle ∧ (s.printer q).book = false) →
    s.settings.home.get j.position ≠ q ∧ s.settings.sharing = false

/-- A printer at rest without a job, its outputs off (08 R141). -/
def Printer.rested (r : Printer) : Printer :=
  { r.halt with state := if r.online then .idle else .offline, job := none, leftBy := none }

/-- A printer whose feed has started toward a count other than its own (08 R146). -/
def Printer.fed (st : PrinterState) (target : Int) (r : Printer) : Printer :=
  { r with
    state := st, target := some target, furthest := some r.count, timer := some 300, strike := false
    direction := some (if r.count < target then .forward else .reverse)
    motor := if r.count < target then .forward else .reverse }

/-- A printer that holds a book without a job, for its owner to take (08 R154). -/
def Printer.keepsBook (leftBy : Option (Fin 8)) (r : Printer) : Printer :=
  { r.halt with state := .waitRemoval, job := none, leftBy := leftBy, bookLeft := false, timer := some 3000 }

/-- 08 R160's table: the printer of a cancelled job of position `n`. -/
def Printer.afterCancel (n : Fin 8) (r : Printer) : Printer :=
  match r.state with
  | .waitBook | .pageTurn => r.rested
  | .confirming => r.keepsBook (some n)
  | .aligning | .striking | .feeding =>
    if r.count = 0 then r.keepsBook (some n) else { r.halt with job := none, leftBy := some n }.fed .ejecting 0
  | .ejecting => { r with job := none, leftBy := some n, stage := none }
  | .waitRemoval =>
    { r with job := none, leftBy := some n, stage := none, timer := if r.stage = some .final then r.timer else some 3000 }
  | .idle | .fault | .offline => { r with job := none }

/-- The candidate balance of a line (08 R149), and whether its field carries asterisks. -/
def Job.afterLine (j : Job) (v : ItemView) : Int :=
  match v.effect with
  | .credit => j.balance + v.amount
  | .debit => j.balance - v.amount
  | .none => j.balance
def Job.outOfField (j : Job) (v : ItemView) : Bool :=
  j.overflow || decide (j.afterLine v < -99999999999) || decide (99999999999 < j.afterLine v)

/-- The forty codes of a line (11 R201): date, blank, kind code, amount right-justified in 14, blank, balance in 15. -/
def lineShown (minorDigits : Nat) (j : Job) (v : ItemView) : Bytes :=
  (match v.date with
    | some d => fixedDigits 2 d.day ++ fixedDigits 2 d.month ++ fixedDigits 2 d.year
    | none => List.replicate 6 0x30#8) ++ [0x20#8] ++
  (match v.kind with
    | .deposit => [0x44#8, 0x45, 0x50] | .withdrawal => [0x57, 0x44, 0x4C] | .credit => [0x43, 0x52, 0x44]
    | .debit => [0x44, 0x42, 0x54] | .reversal => [0x52, 0x45, 0x56] | _ => [0x20, 0x20, 0x20]) ++
  padLeft 14 (renderNat minorDigits v.amount) ++ [0x20#8] ++
  (if j.outOfField v then List.replicate 15 0x2A#8 else padLeft 15 (render minorDigits (j.afterLine v)))

/-- A printer that strikes a line (08 R150). -/
def Printer.strikes (line : Bytes) (r : Printer) : Printer :=
  { r.halt with state := .striking, head := line, strike := true, timer := some 40 }

/-! ### Resets in claims -/

/-- `t` is what a POWER-UP or WARM reset leaves of `s` (01 R14, 02 R33, 03 R59, 05 R99, 07 R134, 08 R164, 09 R177,
10 R197), its cause and warm count given. -/
def State.ResetTo (s t : State) (cause : ResetCause) (count : Nat) : Prop :=
  t.pending = s.pending ∧ t.supply = { s.supply with restartPending := false } ∧
  t.day = { s.day with cause := cause, warmCount := count } ∧ t.settings = s.settings ∧ t.cash = s.cash ∧ t.bal = s.bal ∧
  (∀ l, t.link l = { s.link l with
    speed := (s.link l).strap, receiver := .skipping, frame := [], quiet := some 2, inWork := false, transmit := []
    notices := (t.link l).notices }) ∧
  (∀ l (k : Notice), (t.link l).notices.get k.idx = (k == .restarted || (s.highJournal t).contains (k, l))) ∧
  t.dct = { entries := [], cursor := 0, outcomes := Vec.tab fun n => if (s.pos n).state = .held then .dropped else .none } ∧
  (∀ n, (t.pos n).core =
    let p := (s.pos n).core
    let inTxn : Bool := p.state == .serving || p.state == .held
    { p with
      state := if p.state = .closed then .closed else .away
      txnStart := if inTxn then none else p.txnStart
      running := p.running && !inTxn
      serviceRaised := p.serviceRaised && !inTxn
      lock := .locked, window := none, sensor := p.input, hold := none, longRaised := false, silence := 0
      openTime := if p.input = .opened then 0 else p.openTime
      openLimit := if p.input = .opened then s.settings.openLimit else p.openLimit }) ∧
  t.jnl =
    (let j : Journal := { s.jnl with
      records := s.jnl.records.map (fun r => { r with claimed := none })
      carry := s.jnl.carry.map (fun c => { c with heldBy := none }) }
    if s.day.state = .opened ∨ s.day.state = .cutoff then
      j.withSystem s.day.seconds (Record.plain .reset .none 0 0) else j) ∧
  t.pbu.queue = [] ∧ t.pbu.results = s.pbu.results ∧ t.pbu.seeTeller = Vec.fill none ∧
  (∀ p, t.printer p =
    let r := { (s.printer p).halt with job := none, leftBy := none, bookLeft := false, book := (s.printer p).input }
    if r.state = .fault then r
    else if r.book = false then { r with state := if r.online then .idle else .offline }
    else if r.count = 0 then r.keepsBook none
    else r.fed .ejecting 0) ∧
  (∀ m, (t.window m).text = none ∧ (t.window m).amount = none ∧ (t.window m).current = 0 ∧
    (t.window m).lamp = (t.window m).pattern.output s.day.phase) ∧
  t.settle = t ∧
  t.ulc = { up := false, sinceRef := 0, round := some ⟨1, 1 + s.settings.pingRetries, none⟩, buffers := Vec.fill none
            nextBlock := s.ulc.nextBlock, verdict := none, waiting := [], sending := some (.ping s.day.state s.day.date) }

/-- The outputs of a part that its reset line holds, or that has no main power: motors and strikes off, the frame being sent
cut off, displays dark and lamps off (02 R32, 09 R177). -/
def State.outputsOff (s : State) : State :=
  { s with
    pbu := { s.pbu with printers := s.pbu.printers.map (fun r => { r with motor := .off, strike := false }) }
    ulc := { s.ulc with sending := none }
    windows := s.windows.map (fun w => { w with current := 0, lamp := false }) }

/-! ### Blocks in claims -/

/-- What a retry decision makes of the block `k` in buffer `b` and of the rest `u` of the uplink (10 R189 to R191): resent
under its number, or, its retries exhausted, the link goes DOWN with LINK-CHANGED; `frame` is what the block sends. -/
def State.RetryDecided (s t : State) (u : Ulc) (b : Fin 2) (k : Block) (frame : UpFrame) : Prop :=
  if s.settings.blockRetryLimit = 15 ∨ k.retries < s.settings.blockRetryLimit then
    (∀ l, t.link l = s.link l) ∧
    t.ulc = Ulc.produce
      { u with buffers := u.buffers.set b (some { k with retries := min 255 (k.retries + 1), held := false, answer := none }) }
      frame
  else
    s.Notes t { notices := [(.linkChanged, .sl)] } ∧ (∀ l, s.SameLink t l) ∧
    t.ulc = { u with
      up := false, buffers := Vec.fill none, verdict := none, waiting := u.waiting.filter (fun g => g.purpose < 2) }

/-- The frame of a block (10 R179): its records as the journal holds them, or the SUMMARY. -/
def State.frameOf (s : State) (b : Fin 2) (k : Block) : UpFrame :=
  match k.contents with
  | .records q => .block b k.number (s.jnl.records.filter (fun r => q.contains r.seq))
  | .summary m => .summary b k.number m

/-- The SUMMARY's figures as the state of `s` gives them (10 R192, R193). -/
def State.SummaryIs (s : State) (m : Summary) : Prop :=
  let sum (p : Record → Bool) : Nat := ((s.jnl.records.filter p).map Record.amount).sum
  m.date = s.day.date ∧ m.totals.records = s.jnl.records.length ∧
  m.totals.credit = sum (fun r => r.kind == .deposit || r.kind == .credit || r.kind == .cashOver ||
    r.kind == .reversal && r.effect == .credit) ∧
  m.totals.debit = sum (fun r => r.kind == .withdrawal || r.kind == .debit || r.kind == .cashShort ||
    r.kind == .reversal && r.effect == .debit) ∧
  m.totals.hash = (s.jnl.records.map (fun r => r.account.getD 0)).sum % 1000000000000 ∧
  m.opening = s.cash.opening ∧ m.cashIn = s.cash.cashIn ∧ m.cashOut = s.cash.cashOut ∧ m.dayOver = s.cash.dayOver ∧
  m.dayShort = s.cash.dayShort ∧ m.vault = s.cash.vault ∧ m.unjournaled = s.jnl.unjournaled ∧
  m.carryDrop = s.jnl.carry.length + (s.jnl.records.filter (fun r => r.pending)).length - 512 ∧ m.profiles = s.bal.profiles

/-- The block number after `k`, and a block of records, or the SUMMARY's, as it enters its buffer (10 R180, R186). -/
def numberAfter (k : Nat) : Nat := if k < 65535 then k + 1 else 1
def recordBlock (number : Nat) (rs : List Record) : Option Block := some ⟨number, .records (rs.map Record.seq), false, 0, none⟩
def summaryBlock (number : Nat) (m : Summary) : Option Block := some ⟨number, .summary m, false, 0, none⟩

/-- The uplink of `t` is what filling makes of `u`, both of whose buffers are FREE, by the journal of `t` (10 R186, R192):
the lowest sixteen unsent records and the next sixteen, or, every record sent, the SUMMARY, each block's frame joining the
transmit list. -/
def State.Filled (t : State) (u : Ulc) : Prop :=
  let unsent := t.jnl.records.filter (fun r => !r.sent)
  let a := unsent.take 16
  let b := (unsent.drop 16).take 16
  let k := u.nextBlock
  let k' := numberAfter k
  if unsent = [] then ∃ m, t.SummaryIs m ∧
    t.ulc = Ulc.produce { u with buffers := u.buffers.set 0 (summaryBlock k m), nextBlock := k' } (.summary 0 k m)
  else if b = [] then
    t.ulc = Ulc.produce { u with buffers := u.buffers.set 0 (recordBlock k a), nextBlock := k' } (.block 0 k a)
  else t.ulc = Ulc.produce
    (Ulc.produce
      { u with buffers := (u.buffers.set 0 (recordBlock k a)).set 1 (recordBlock k' b), nextBlock := numberAfter k' }
      (.block 0 k a))
    (.block 1 k' b)

/-- Commands run one after another. -/
def runAll : List Instr → State → Host.Outcome State Fault Refusal
  | [], s => .next s
  | c :: rest, s =>
    match exec c s with
    | .next t => runAll rest t
    | .fault r => .fault r
    | .refused r => .refused r

end Sys2Proof.Machine
end

