-- ==== Sys2Proof/WellFormed.lean ====
section
/-! DEFINITION. Which terms of `Instr` are commands that can be given: every field within the width that carries it
(11 R198, R202), and each receiver event the event it is named for. A meaning is given to every term all the same. -/

namespace Sys2Proof

open Sys2Proof.Machine

/-- A request's body fits its frame (01 R3). -/
def bodyFits (body : Bytes) : Bool := decide (body.length ≤ 250)

/-- The fields of a DAY-OPEN fit their octets (11 R202). -/
def openFits (f : DayOpenFields) : Bool :=
  decide (f.day < 256 ∧ f.month < 256 ∧ f.year < 256 ∧ f.seconds < 256 ^ 3 ∧ f.minorDigits < 256) &&
  f.faces.all (fun v => decide (v < 256 ^ 3)) &&
  decide (f.postingLimit < 256 ^ 5 ∧ f.itemization < 256 ^ 5 ∧ f.drawerMax < 256 ^ 5 ∧ f.tolerance < 256 ^ 3)

/-- The totals of a DAY-ACCEPTED fit their octets (11 R202). -/
def totalsFit (t : Totals) : Bool :=
  decide (t.records < 256 ^ 2 ∧ t.credit < 256 ^ 6 ∧ t.debit < 256 ^ 6 ∧ t.hash < 256 ^ 5)

/-- The bits between two flags spell no valid message (10 R178, R179). -/
def discarded (bits : List Bool) : Bool :=
  match receiveFrame bits with
  | none => true
  | some o => (readMessage o).isNone

/-- The command is well formed. -/
def Instr.wellFormed : Instr → Bool
  | .lineFault _ | .interByteGap _ | .lineSilent _ | .frameCheckFailed _ | .replySent _ => true
  | .lengthByteAbove250 _ b => decide (250 < b.toNat)
  | .unknownKind _ kind _ body => (readKind kind).isNone && bodyFits body
  | .takeNotices _ _ body | .statusTeller _ _ body | .statusSupervisor _ body | .cutoff _ _ body | .reopenDay _ _ body
  | .send _ _ body | .resend _ _ body | .config _ _ body | .restart _ _ body | .signOn _ _ body | .openTxn _ _ body
  | .closeTxn _ _ body | .away _ _ body | .unlock _ _ body | .signOff _ _ body | .forceSignOff _ _ body
  | .readPosition _ _ body | .post _ _ body | .void _ _ body | .readCashTeller _ _ body | .readCashSupervisor _ body
  | .propose _ _ body | .confirm _ _ body | .decline _ _ body | .withdraw _ _ body | .beginBalance _ _ body
  | .declare _ _ body | .forceBalance _ _ body | .reopen _ _ body | .vaultDeclare _ _ body | .readProfile _ _ body
  | .readJournal _ _ body | .printBook _ _ body | .cancelPrint _ _ body | .showText _ _ body => bodyFits body
  | .printerServiceOffline _ _ _ | .printerServiceOnline _ _ _ | .printerServiceClear _ _ _ => true
  | .warmRestart | .resetLineAsserted | .warmLine | .mainPowerFail | .backupLow | .mainPowerReturn => true
  | .oneHzTick | .eightHzTick => true
  | .idle _ | .sensorInputChange _ _ | .opening _ | .shutting _ | .releaseWindowEnd _ | .drawerLong _ | .serviceLong _ => true
  | .expiry id => decide (1 ≤ id ∧ id ≤ 255)
  | .insertion _ | .removal _ | .noBook _ | .pageTimeout _ | .bookConfirmed _ | .encoderStep _ _ | .jam _ | .strikeDone _
  | .strikeTimeEnd _ | .bookLeft _ | .seeTellerTimeEnd _ | .textHoldEnd _ => true
  | .uplinkFrameDiscarded bits => discarded bits
  | .dayOpen f => openFits f
  | .blockAck number | .blockNak number => decide (number < 256 ^ 2)
  | .dayAccepted t => totalsFit t
  | .dayRejected reason => decide (reason < 256)
  | .pingReply | .answerTimeEnd _ | .verdictWaitEnd | .uplinkFrameSent | .pingRound | .pingWaitEnd => true
  | .stationByteReceived _ _ => true

end Sys2Proof
end

