-- ==== Sys2Proof/Certificates/Slice0/Obligations.lean ====
section
/-! DEFINITION. The statements for the provers. Terms such as `Answered`, `Event` and `Refuses` are those of Safety.lean. -/

open Sys2Proof Sys2Proof.Machine

/-! ### One step -/

/-- Every command at the front of the queue is run on the state with the queue's rest. -/
def Obligations.StepRunsTheFrontCommand : Prop :=
  ∀ (c : Instr) (rest : List Instr) (s : State), s.pending = c :: rest → step s = exec c { s with pending := rest }

/-- 02 R24 to R26, R32, 03 R48, R49, R55, 05 R95 on an empty queue: the hundredths count, the seconds of day and the phase
advance; a part that takes no event changes nothing else. In one that takes them every running time counts one hundredth;
where no timer then ends nothing else happens, and where one does, its own command is what happens; one advance takes one
hundredth from every entry's time and removes exactly the entries it leaves without any, and it counts the silences and the
running stopwatches to their bounds. That one step on an empty queue is one hundredth is the model's choice (log 1). -/
def Obligations.IdleStepCountsOneHundredth : Prop :=
  ∀ s : State, s.pending = [] → ∃ t, step s = .next t ∧ t.pending = [] ∧
    t.day.hundredths = (if s.day.hundredths < 99 then s.day.hundredths + 1 else 0) ∧
    t.day.seconds =
      (if s.day.hundredths < 99 then s.day.seconds else if s.day.seconds < 86399 then s.day.seconds + 1 else 0) ∧
    (s.day.hundredths ≤ 99 → t.day.phase =
      match t.day.hundredths with
      | 0 => 0 | 12 => 1 | 25 => 2 | 37 => 3 | 50 => 4 | 62 => 5 | 75 => 6 | 87 => 7
      | _ => s.day.phase) ∧
    (s.alive = false → t = { s with day := t.day } ∧
      t.day = { s.day with hundredths := t.day.hundredths, seconds := t.day.seconds, phase := t.day.phase }) ∧
    (s.alive = true → s.settings.InRange →
      (s.passed.dueNow = [] → t = s.passed.settle) ∧
      ∀ c u, s.passed.dueNow = [c] → exec c s.passed = .next u → t = u.settle) ∧
    (s.alive = true → (s.dct.entries.map Entry.id).Nodup →
      t.dct.entries = (s.dct.entries.filter (fun e => decide (1 < e.remaining))).map
        (fun e => { e with remaining := e.remaining - 1 }) ∧
      (∀ n, (t.pos n).silence = if (s.pos n).silence < 90000 then (s.pos n).silence + 1 else (s.pos n).silence) ∧
      (∀ n, (t.pos n).running = (s.pos n).running) ∧
      (∀ n, (s.pos n).running = false → (t.pos n).stopwatch = (s.pos n).stopwatch) ∧
      ∀ n, (s.pos n).running = true → (s.pos n).serviceLimit * 100 ≤ 999999 →
        (t.pos n).stopwatch = if (s.pos n).stopwatch < 999999 then (s.pos n).stopwatch + 1 else (s.pos n).stopwatch)

/-- 02 R32, 03 R49, 08 R142: while main power is absent or the reset line is asserted, a command other than those the
world gives on the supply, the reset line, the timebase and the sensor pins changes nothing, and a sensor's change moves
its input's level alone. That a pin's level alone moves is the model's choice (log 11). -/
def Obligations.HeldPartTakesNothing : Prop :=
  ∀ s : State, s.alive = false →
    (∀ c : Instr, outsideCommand c = false → exec c s = .next s) ∧
    (∀ n level, exec (.sensorInputChange n level) s =
      .next { s with positions := s.positions.set n { (s.pos n) with input := level } }) ∧
    ∀ p, exec (.insertion p) s =
        .next { s with pbu := { s.pbu with printers := s.pbu.printers.set p { (s.printer p) with input := true } } } ∧
      exec (.removal p) s =
        .next { s with pbu := { s.pbu with printers := s.pbu.printers.set p { (s.printer p) with input := false } } }

/-! ### Station links -/

/-- 01 R3's table for a byte that completes no frame, in each receiver state; the quiet time of two hundredths that each
byte restarts is the model's measure of 20 ms (log 9). -/
def Obligations.ReceiverTakesBytes : Prop :=
  ∀ (l : Link) (b : Byte) (s : State), s.alive = true →
    let becomes (c : Instr) (r : LinkRec) : Prop := exec c s = .next { s with links := s.links.set l.idx r }
    let r := s.link l
    (r.receiver = .hunt → b = 0xA5 →
      becomes (.stationByteReceived l b) { r with receiver := .receiving, frame := [], quiet := some 2 }) ∧
    (r.receiver = .hunt → b ≠ 0xA5 →
      becomes (.stationByteReceived l b) { r with receiver := .skipping, frame := [], quiet := some 2 }) ∧
    (r.receiver = .receiving → r.frame = [] → 250 < b.toNat →
      becomes (.stationByteReceived l b) { r with receiver := .skipping, frame := [], quiet := some 2 } ∧
      becomes (.lengthByteAbove250 l b) { r with receiver := .skipping, frame := [], quiet := some 2 }) ∧
    (r.receiver = .receiving → ¬(r.frame = [] ∧ 250 < b.toNat) →
      (∀ len rest, r.frame ++ [b] = len :: rest → rest.length ≠ len.toNat + 4) →
      becomes (.stationByteReceived l b) { r with frame := r.frame ++ [b], quiet := some 2 }) ∧
    (r.receiver = .skipping → becomes (.stationByteReceived l b) { r with quiet := some 2 })

/-- 01 R2 to R5: a line fault, a failed check, a gap inside a frame and a silence of the line, in each receiver state; and
the end of a reply's transmission, which clears the in-work flag where the reply is the accepted request's own (that of a
RESTART then begins its reset, 02 R34). 01 R8, 11 R198: the bytes that a reply puts on the line. That an event given in a
state the table does not have it in is granted, and the two hundredths of quiet, are the model's (logs 4, 9). -/
def Obligations.LinkTakesLineEvents : Prop :=
  (∀ (l : Link) (s : State), s.alive = true →
    let becomes (c : Instr) (r : LinkRec) : Prop := exec c s = .next { s with links := s.links.set l.idx r }
    let r := s.link l
    let skipping : LinkRec := { r with receiver := .skipping, frame := [], quiet := some 2 }
    becomes (.lineFault l) skipping ∧ becomes (.frameCheckFailed l) skipping ∧
    becomes (.interByteGap l) (if r.receiver = .receiving then skipping else r) ∧
    becomes (.lineSilent l) (match r.receiver with
      | .receiving => skipping
      | .skipping => { r with receiver := .hunt, frame := [], quiet := none }
      | .hunt => r) ∧
    (r.transmit = [] → exec (.replySent l) s = .next s) ∧
    ∀ a rest, r.transmit = a :: rest → ¬(l = .sl ∧ s.supply.restartPending = true ∧ a.own = true) →
      becomes (.replySent l) { r with transmit := rest, inWork := r.inWork && !a.own }) ∧
  ∀ a : Reply,
    let code : Byte := match a.code with
      | .ok => 0 | .queued => 1 | .held => 2 | .busy => 3 | .badForm => 4 | .notAllowed => 5 | .wrongState => 6
      | .dayState => 7 | .range => 8 | .breakdown => 9 | .shortfall => 10 | .tableFull => 11 | .journalFull => 12
      | .noSuch => 13 | .inPrint => 14 | .tellerInUse => 15 | .drawerOpen => 16 | .noItems => 17 | .printActive => 18
    let covered : Bytes :=
      BitVec.ofNat 8 (2 + a.rest.length) :: a.kind :: a.tag :: code :: (if a.waiting then 1 else 0) :: a.rest
    a.bytes = 0xA5 :: (covered ++ checkBytes covered)

/-- 01 R3, R4: the bytes of a whole frame, received one by one in HUNT, do what the request they spell does, and nothing
before the last; with check bytes that are not those of its bytes, the frame does nothing but send the receiver to
SKIPPING. -/
def Obligations.FrameBytesAreTheRequest : Prop :=
  ∀ (l : Link) (kind tag high low : Byte) (body : Bytes) (s : State), s.alive = true → (s.link l).receiver = .hunt →
    body.length ≤ 250 →
    let covered : Bytes := BitVec.ofNat 8 body.length :: kind :: tag :: body
    let received : Host.Outcome State Fault Refusal :=
      runAll ((0xA5 :: (covered ++ [high, low])).map (Instr.stationByteReceived l)) s
    ([high, low] = checkBytes covered → received = .next (requestFrame l kind tag body s)) ∧
    ([high, low] ≠ checkBytes covered → received = exec (.frameCheckFailed l) s)

/-- 11 R198's kind values: each request row is the request that its frame's kind byte names, on every link. -/
def Obligations.RequestRowsAreTheirFrames : Prop :=
  ∀ (l : Link) (n : Fin 8) (tag : Byte) (body : Bytes) (s : State),
    let is (c : Instr) (k : Byte) (link : Link) (b : Bytes) : Prop := exec c s = .next (requestFrame link k tag b s)
    is (.takeNotices l tag body) 1 l body ∧ is (.statusTeller n tag body) 2 (.tl n) body ∧
    is (.statusSupervisor tag body) 2 .sl body ∧ is (.cutoff l tag body) 3 l body ∧ is (.reopenDay l tag body) 4 l body ∧
    is (.send l tag body) 5 l body ∧ is (.resend l tag body) 6 l body ∧ is (.config l tag body) 7 l body ∧
    is (.restart l tag body) 8 l body ∧ is (.signOn l tag body) 9 l body ∧ is (.openTxn l tag body) 10 l body ∧
    is (.closeTxn l tag body) 11 l body ∧ is (.away l tag body) 12 l body ∧ is (.unlock l tag body) 13 l body ∧
    is (.signOff l tag body) 14 l body ∧ is (.forceSignOff l tag body) 15 l body ∧
    is (.readPosition l tag body) 16 l body ∧ is (.post l tag body) 17 l body ∧ is (.void l tag body) 18 l body ∧
    is (.readCashTeller n tag body) 19 (.tl n) body ∧ is (.readCashSupervisor tag body) 19 .sl body ∧
    is (.propose l tag body) 20 l body ∧ is (.confirm l tag body) 21 l body ∧ is (.decline l tag body) 22 l body ∧
    is (.withdraw l tag body) 23 l body ∧ is (.beginBalance l tag body) 24 l body ∧ is (.declare l tag body) 25 l body ∧
    is (.reopen l tag body) 26 l body ∧ is (.forceBalance l tag body) 27 l body ∧
    is (.vaultDeclare l tag body) 28 l body ∧ is (.readProfile l tag body) 29 l body ∧
    is (.readJournal l tag body) 30 l body ∧ is (.printBook l tag body) 31 l body ∧ is (.cancelPrint l tag body) 32 l body ∧
    (∀ p, is (.printerServiceOffline l tag p) 33 l [p, 1] ∧ is (.printerServiceOnline l tag p) 33 l [p, 2] ∧
      is (.printerServiceClear l tag p) 33 l [p, 3]) ∧
    is (.showText l tag body) 34 l body ∧
    ∀ k, (k = 0 ∨ 34 < k.toNat) → is (.unknownKind l k tag body) k l body

/-- 01 R5: a request of any kind that finds one in work is answered BUSY where the transmit list has a free place, and is
otherwise discarded; besides its link's receiver and its silence it changes nothing. -/
def Obligations.RequestInWorkIsBusyOrDiscarded : Prop :=
  ∀ (l : Link) (kind tag : Byte) (body : Bytes) (s : State), s.alive = true → (s.link l).inWork = true →
    let t := requestFrame l kind tag body s
    s.Keeps t {} ∧ s.Notes t {} ∧ (∀ k, k ≠ l → s.SameLink t k) ∧ (∀ m, (t.pos m).core = s.heardPos l m) ∧ s.Shows t ∧
    t.link l =
      { s.link l with
        receiver := .hunt, frame := [], quiet := none
        transmit := if (s.link l).transmit.length < 2 then
            (s.link l).transmit ++
              [{ kind := kind, tag := tag, code := .busy, waiting := (s.link l).notices.any id, rest := [], own := false }]
          else (s.link l).transmit }

/-- 01 R6, R9, 11 R198: an accepted request is refused BAD-FORM for an unknown kind, NOT-ALLOWED for a kind that the
link's role may not send, and BAD-FORM for a body length that its kind does not admit, the first of these that holds. -/
def Obligations.RequestIsRefusedByKindRoleAndLength : Prop :=
  ∀ (l : Link) (kind tag : Byte) (body : Bytes) (s : State), s.Accepts l →
    let known : Prop := 1 ≤ kind.toNat ∧ kind.toNat ≤ 34
    let slOnly : Prop := kind.toNat ∈ [3, 4, 5, 6, 7, 8, 15, 16, 27, 28, 29, 30, 33]
    let tlOnly : Prop := kind.toNat ∈ [9, 10, 11, 12, 13, 14, 17, 18, 24, 25, 26, 31, 32, 34]
    let allowed : Prop := (slOnly → l = .sl) ∧ (tlOnly → l ≠ .sl)
    let t := requestFrame l kind tag body s
    (¬known → s.Refused t l kind tag .badForm ∧ exec (.unknownKind l kind tag body) s = .next t) ∧
    (known → ¬allowed → s.Refused t l kind tag .notAllowed) ∧
    (known → allowed → ¬LengthAdmitted kind.toNat (l == .sl) body.length → s.Refused t l kind tag .badForm)

/-- 01 R12: the kinds set are returned in the order of R13's table, the set is cleared, and the reply shows it cleared;
taken in any state of the day. -/
def Obligations.TakeNoticesReturnsAndClears : Prop :=
  ∀ (l : Link) (tag : Byte) (s : State), s.Accepts l →
    let set : List Byte :=
      ((List.finRange 18).filter (fun i => (s.link l).notices.get i)).map (fun i => BitVec.ofNat 8 (i.val + 1))
    ∃ t, exec (.takeNotices l tag []) s = .next t ∧ s.Keeps t {} ∧ s.Shows t ∧
      (∀ k, k ≠ l → t.link k = s.link k) ∧ (∀ m, (t.pos m).core = s.heardPos l m) ∧
      t.link l =
        { s.link l with
          receiver := .hunt, frame := [], quiet := none, inWork := true, lastTag := some tag, notices := Vec.fill false
          transmit := (s.link l).transmit ++
            [{ kind := 1, tag := tag, code := .ok, waiting := false,
               rest := BitVec.ofNat 8 set.length :: set, own := true }] }

/-! ### The business day -/

/-- 02 R17, R18: the first check that fails gives the outcome, DAY-STATE, RANGE or DENOMINATION, and the day, the cash and
the journal stay; a DAY-OPEN that passes every check is taken: the day record, the denomination table, the counters, the
profiles and the journal's numbering are as R18 gives them. 10 R179, R184: the message's arrival does what a PING-REPLY's does, in every
state of the link, and head office is answered with the outcome and the state and date that then hold. -/
def Obligations.DayOpenIsJudgedAndOpensTheDay : Prop :=
  ∀ (f : DayOpenFields) (s : State), s.alive = true →
    let inRange : Prop :=
      (1 ≤ f.day ∧ f.day ≤ 31 ∧ 1 ≤ f.month ∧ f.month ≤ 12 ∧ f.year ≤ 99 ∧ f.seconds ≤ 86399) ∧
      (f.minorDigits = 0 ∨ f.minorDigits = 2 ∨ f.minorDigits = 3) ∧ (∀ i, f.faces.get i ≤ 10000000) ∧
      f.postingLimit ≤ 9999999999 ∧ f.itemization ≤ 9999999999 ∧ 1 ≤ f.drawerMax ∧ f.drawerMax ≤ 99999999999 ∧
      f.tolerance ≤ 99999
    let ordered : Prop := ∀ i j, i < j → f.faces.get i ≠ 0 → f.faces.get j ≠ 0 → f.faces.get i < f.faces.get j
    let keepsVault : Prop :=
      ∀ i, s.cash.vault.counts.get i ≠ 0 → f.faces.get i ≠ 0 ∧ s.cash.faces.get i = some (f.faces.get i)
    let answers (o : OpenOutcome) : Prop := ∃ t t₀, exec (.dayOpen f) s = .next t ∧ exec .pingReply s = .next t₀ ∧
      s.Event t { parts := [.ulc], notices := if s.ulc.up then [] else [(.linkChanged, .sl)] } ∧
      t.ulc = t₀.ulc.produce (.dayOpenReply o s.day.state s.day.date) ∧
      (s.ulc.up = true ∨ s.day.state ≠ .sending → t₀.ulc = { s.ulc with up := true, sinceRef := 0, round := none })
    (s.day.state ≠ .closed → answers .dayState) ∧
    (s.day.state = .closed → ¬inRange → answers .range) ∧
    (s.day.state = .closed → inRange → ¬(ordered ∧ keepsVault) → answers .denomination) ∧
    (s.day.state = .closed → inRange → ordered → keepsVault → ∃ t, exec (.dayOpen f) s = .next t ∧
      s.Event t { parts := [.day, .cash, .bal, .jnl, .ulc],
                  notices := everywhere .dayChanged ++ (if s.ulc.up then [] else [(.linkChanged, .sl)]) } ∧
      t.day = { s.day with
        state := .opened, date := some ⟨f.day, f.month, f.year⟩, clockSet := true, seconds := f.seconds
        minorDigits := f.minorDigits, postingLimit := f.postingLimit, itemization := f.itemization
        drawerMax := f.drawerMax, tolerance := f.tolerance, rejection := .none, warmCount := 0 } ∧
      t.cash = { s.cash with
        faces := Vec.tab fun i => if f.faces.get i = 0 then none else some (f.faces.get i)
        opening := s.cash.vault.total.toNat, cashIn := 0, cashOut := 0, dayOver := 0, dayShort := 0 } ∧
      t.bal = { s.bal with profiles := Vec.fill Profile.empty } ∧
      t.jnl = { s.jnl with next := 1, unjournaled := 0, spent := false } ∧
      t.ulc = Ulc.produce { s.ulc with up := true, sinceRef := 0, round := none }
        (.dayOpenReply .accepted .opened (some ⟨f.day, f.month, f.year⟩)))

/-- 02 R19, R20: CUTOFF and REOPEN-DAY, each taken in its states and refused DAY-STATE in every other; from REJECTED a
REOPEN-DAY also clears every sent mark and the rejection reason, the journal keeping its records and its numbering. 02 R34:
RESTART is taken in every day state and leaves a warm reset pending; nothing else changes before that reset. -/
def Obligations.CutoffReopenDayAndRestart : Prop :=
  ∀ (tag : Byte) (s : State), s.Accepts .sl →
    (s.day.state = .opened → ∃ t, exec (.cutoff .sl tag []) s = .next t ∧
      s.Answered t .sl 3 tag true .ok [] { parts := [.day], notices := everywhere .dayChanged } ∧
      t.day = { s.day with state := .cutoff }) ∧
    (s.day.state ≠ .opened → s.Refuses (.cutoff .sl tag []) .sl 3 tag .dayState) ∧
    (s.day.state = .cutoff → ∃ t, exec (.reopenDay .sl tag []) s = .next t ∧
      s.Answered t .sl 4 tag true .ok [] { parts := [.day], notices := everywhere .dayChanged } ∧
      t.day = { s.day with state := .opened }) ∧
    (s.day.state = .rejected → ∃ t, exec (.reopenDay .sl tag []) s = .next t ∧
      s.Answered t .sl 4 tag true .ok [] { parts := [.day, .jnl], notices := everywhere .dayChanged } ∧
      t.day = { s.day with state := .opened, rejection := .none } ∧
      t.jnl = { s.jnl with records := s.jnl.records.map (fun r => { r with sent := false }) }) ∧
    (s.day.state ≠ .cutoff → s.day.state ≠ .rejected → s.Refuses (.reopenDay .sl tag []) .sl 4 tag .dayState) ∧
    ∃ t, exec (.restart .sl tag []) s = .next t ∧ s.Answered t .sl 8 tag true .ok [] { parts := [.supply] } ∧
      t.supply = { s.supply with restartPending := true }

/-- 02 R21, R23, 10 R185, R186: SEND is refused DAY-STATE outside CUTOFF, and WRONG-STATE while a position is signed on or an
entry stands; RESEND is refused DAY-STATE outside REJECTED, and clears every sent mark and the reason. Either taken, the
day is SENDING with both buffers empty and block numbering from 1, and with the link UP the transmission begins: up to two
blocks of sixteen unsent records, or the SUMMARY of an empty journal, and their frames in the transmit list. -/
def Obligations.SendAndResendStartTheTransmission : Prop :=
  ∀ (tag : Byte) (s : State), s.Accepts .sl →
    let cleared : Ulc := { s.ulc with
      buffers := Vec.fill none, nextBlock := 1, verdict := none, waiting := s.ulc.waiting.filter (fun g => g.purpose < 2) }
    let starts (t : State) : Prop := (s.ulc.up = false → t.ulc = cleared) ∧
      (s.ulc.up = true → (s.jnl.records.map Record.seq).Nodup → t.Filled cleared)
    (s.day.state ≠ .cutoff → s.Refuses (.send .sl tag []) .sl 5 tag .dayState) ∧
    (s.day.state = .cutoff → ((∃ n, (s.pos n).state ≠ .closed) ∨ s.dct.entries ≠ []) →
      s.Refuses (.send .sl tag []) .sl 5 tag .wrongState) ∧
    (s.day.state = .cutoff → (∀ n, (s.pos n).state = .closed) → s.dct.entries = [] →
      ∃ t, exec (.send .sl tag []) s = .next t ∧
        s.Answered t .sl 5 tag true .ok [] { parts := [.day, .ulc], notices := everywhere .dayChanged } ∧
        t.day = { s.day with state := .sending } ∧ starts t) ∧
    (s.day.state ≠ .rejected → s.Refuses (.resend .sl tag []) .sl 6 tag .dayState) ∧
    (s.day.state = .rejected → ∃ t, exec (.resend .sl tag []) s = .next t ∧
      s.Answered t .sl 6 tag true .ok [] { parts := [.day, .jnl, .ulc], notices := everywhere .dayChanged } ∧
      t.day = { s.day with state := .sending, rejection := .none } ∧
      t.jnl = { s.jnl with records := s.jnl.records.map (fun r => { r with sent := false }) } ∧ starts t)

/-- 02 R22, 07 R132, 10 R195: a verdict taken in the verdict wait of a HELD SUMMARY. Equal totals accept the day: the pending
records are carried over behind the carry list, the oldest dropped to leave 512 at most, and the journal is emptied.
Unequal totals, or a DAY-REJECTED with a reason, reject it. 10 R179: a verdict outside the verdict wait, and a DAY-REJECTED
of reason 0, do what any message's arrival does, that of a PING-REPLY, and nothing else. -/
def Obligations.VerdictEndsOrReturnsTheDay : Prop :=
  (∀ (totals : Totals) (reason : Nat) (s : State),
    (s.ulc.verdict = none → exec (.dayAccepted totals) s = exec .pingReply s ∧ exec (.dayRejected reason) s = exec .pingReply s) ∧
    exec (.dayRejected 0) s = exec .pingReply s) ∧
  ∀ (k : Block) (m : Summary) (date : Date) (s : State), s.alive = true → s.ulc.up = true → s.ulc.verdict ≠ none →
    s.ulc.buffers.get 0 = some k → k.held = true → k.contents = .summary m → s.day.date = some date →
    let ended : Ulc := { s.ulc with
      sinceRef := 0, round := none, buffers := Vec.fill none, verdict := none
      waiting := s.ulc.waiting.filter (fun g => g.purpose < 2) }
    let pending := s.jnl.records.filter (fun r => r.pending)
    let joining : List CarryItem := pending.map (fun r =>
      { date := date, seq := r.seq, place := r.place, kind := r.kind, effect := r.effect, amount := r.amount,
        account := r.account.getD 0, heldBy := none })
    (∃ t, exec (.dayAccepted m.totals) s = .next t ∧
      s.Event t { parts := [.day, .jnl, .ulc], notices := everywhere .dayChanged } ∧
      t.day = { s.day with state := .closed, date := none } ∧ t.ulc = ended ∧
      t.jnl = { s.jnl with
        records := [], next := 1
        carry := (s.jnl.carry ++ joining).drop (s.jnl.carry.length + pending.length - 512) }) ∧
    (∀ totals, totals ≠ m.totals → ∃ t, exec (.dayAccepted totals) s = .next t ∧
      s.Event t { parts := [.day, .ulc], notices := everywhere .dayChanged } ∧
      t.day = { s.day with state := .rejected, rejection := .mismatch } ∧ t.ulc = ended) ∧
    ∀ reason, reason ≠ 0 → ∃ t, exec (.dayRejected reason) s = .next t ∧
      s.Event t { parts := [.day, .ulc], notices := everywhere .dayChanged } ∧
      t.day = { s.day with state := .rejected, rejection := .code reason } ∧ t.ulc = ended

/-- 02 R28, R29: a list with a line that names no item or no choice, or two lines of one item, is refused BAD-FORM; any
other is taken, each numeric value brought into its range and the ping period down to a multiple of 4, and the reply lists
the items stored otherwise than sent, each with its stored value. It changes the settings and what acts at once: waiting
jobs are judged, a ping period already passed begins a round, displays are composed anew (10 R182, 08 R139). That a position
byte on a line of items 1 to 14 names nothing, and is 0 in the reply, and the reply's order are the model's (log 14), and so
is that 1 of printer sharing's two values is ON (log 35). -/
def Obligations.ConfigStoresValuesBroughtIntoRange : Prop :=
  ∀ (tag : Byte) (lines : List ConfigLine) (s : State), s.Accepts .sl → 1 ≤ lines.length → lines.length ≤ 22 →
    (∀ c ∈ lines, c.item < 256 ∧ c.position < 256 ∧ c.value < 65536) →
    let body : Bytes := lines.flatMap (fun c => be 1 c.item ++ be 1 c.position ++ be 2 c.value)
    let sound : Prop :=
      (∀ c ∈ lines, 1 ≤ c.item ∧ c.item ≤ 15 ∧ (c.item = 15 → c.position ≤ 7 ∧ c.value ≤ 1) ∧ (c.item = 7 → c.value ≤ 1)) ∧
      lines.Pairwise (fun a b => a.item ≠ b.item ∨ a.item = 15 ∧ a.position ≠ b.position)
    let value (item low high now : Nat) : Nat :=
      match lines.find? (fun c => c.item == item) with
      | some c => max low (min high c.value)
      | none => now
    (¬sound → s.Refuses (.config .sl tag body) .sl 7 tag .badForm) ∧
    (sound → ∃ t, exec (.config .sl tag body) s = .next t ∧
      s.Keeps t { parts := [.settings, .jnl, .pbu, .ulc] } ∧ s.Shows t ∧ (∀ k, k ≠ .sl → s.SameLink t k) ∧
      (∀ m, (t.pos m).core = (s.pos m).core) ∧
      t.settings.idleBlank = value 1 10 900 s.settings.idleBlank ∧ t.settings.brightness = value 2 0 15 s.settings.brightness ∧
      t.settings.openLimit = value 3 5 300 s.settings.openLimit ∧
      t.settings.serviceLimit = value 4 30 3600 s.settings.serviceLimit ∧
      t.settings.transferExpiry = value 5 30 600 s.settings.transferExpiry ∧
      t.settings.overrideExpiry = value 6 30 600 s.settings.overrideExpiry ∧
      t.settings.sharing = (match lines.find? (fun c => c.item == 7) with
        | some c => c.value == 1
        | none => s.settings.sharing) ∧
      t.settings.linesPerPage = value 8 12 32 s.settings.linesPerPage ∧
      t.settings.pagesPerBook = value 9 1 16 s.settings.pagesPerBook ∧
      t.settings.linePitch = value 10 8 32 s.settings.linePitch ∧ t.settings.topMargin = value 11 0 255 s.settings.topMargin ∧
      t.settings.pingPeriod = (match lines.find? (fun c => c.item == 12) with
        | some c => max 4 (min 1020 c.value) / 4 * 4
        | none => s.settings.pingPeriod) ∧
      t.settings.pingRetries = value 13 0 7 s.settings.pingRetries ∧
      t.settings.blockRetryLimit = value 14 0 15 s.settings.blockRetryLimit ∧
      (∀ n : Fin 8, t.settings.home.get n =
        match lines.find? (fun c => c.item == 15 && c.position == n.val) with
        | some c => if c.value = 1 then 1 else 0
        | none => s.settings.home.get n) ∧
      (let stored (c : ConfigLine) : Nat := match c.item with
          | 1 => t.settings.idleBlank | 2 => t.settings.brightness | 3 => t.settings.openLimit
          | 4 => t.settings.serviceLimit | 5 => t.settings.transferExpiry | 6 => t.settings.overrideExpiry
          | 8 => t.settings.linesPerPage | 9 => t.settings.pagesPerBook | 10 => t.settings.linePitch
          | 11 => t.settings.topMargin | 12 => t.settings.pingPeriod | 13 => t.settings.pingRetries
          | 14 => t.settings.blockRetryLimit | _ => c.value
       let listed := lines.filter (fun c => c.value != stored c)
       s.Replied t .sl 7 tag true .ok (be 1 listed.length ++ listed.flatMap (fun c =>
         be 1 c.item ++ be 1 (if c.item = 15 then c.position else 0) ++ be 2 (stored c)))) ∧
      (let judged : State := State.assign { s with settings := t.settings }
       t.jnl = judged.jnl ∧ t.pbu = judged.pbu ∧
       (∀ l (k : Notice), (t.link l).notices.get k.idx = (judged.link l).notices.get k.idx) ∧
       (s.pbu.queue = [] → judged.jnl = s.jnl ∧ judged.pbu = s.pbu ∧ judged.links = s.links)) ∧
      t.ulc = if s.ulc.round = none ∧ t.settings.pingPeriod * 100 ≤ s.ulc.sinceRef then
          Ulc.produce { s.ulc with round := some ⟨1, 1 + t.settings.pingRetries, none⟩ } (.ping s.day.state s.day.date)
        else s.ulc)

/-! ### Positions -/

/-- 03 R38, R36, 07 R121, R122: SIGN-ON's five checks in their order, and a SIGN-ON taken. -/
def Obligations.SignOnIsJudgedAndTaken : Prop :=
  ∀ (n : Fin 8) (tag : Byte) (id : Nat) (s : State), s.Accepts (.tl n) → id < 65536 →
    let c : Instr := .signOn (.tl n) tag (be 2 id)
    let inRange : Prop := 1 ≤ id ∧ id ≤ 9999
    let unused : Prop := ∀ m, (s.pos m).teller ≠ some id
    let room : Prop := (s.jnl.records.filter (fun r => r.kind.customer)).length < 4032 ∧ s.jnl.records.length < 4096
    (¬inRange → s.Refuses c (.tl n) 9 tag .range) ∧
    (inRange → s.day.state ≠ .opened → s.Refuses c (.tl n) 9 tag .dayState) ∧
    (inRange → s.day.state = .opened → (s.pos n).state ≠ .closed → s.Refuses c (.tl n) 9 tag .wrongState) ∧
    (inRange → s.day.state = .opened → (s.pos n).state = .closed → ¬unused → s.Refuses c (.tl n) 9 tag .tellerInUse) ∧
    (inRange → s.day.state = .opened → (s.pos n).state = .closed → unused → ¬room →
      s.Refuses c (.tl n) 9 tag .journalFull) ∧
    (inRange → s.day.state = .opened → (s.pos n).state = .closed → unused → room →
      ∃ t, exec c s = .next t ∧
        s.Answered t (.tl n) 9 tag true .ok (be 2 s.jnl.next)
          { parts := [.jnl], positions := [n], notices := (.positionChanged, .sl) :: s.highJournal t } ∧
        (t.pos n).core = { (s.pos n).core with state := .ready, teller := some id, forced := false, silence := 0 } ∧
        t.jnl = s.jnl.withRecord s.day.seconds (Record.plain .signOn (.position n) id 0))

/-- 03 R39, R40, 06 R114: OPEN-TXN's three checks in their order, and an OPEN-TXN taken; CLOSE-TXN is taken in SERVING and
refused WRONG-STATE in every other state: the duration goes to the profile and into the reply, and the amount leaves the
window. -/
def Obligations.TransactionsOpenAndClose : Prop :=
  ∀ (n : Fin 8) (tag : Byte) (s : State), s.Accepts (.tl n) →
    let c : Instr := .openTxn (.tl n) tag []
    let e : Instr := .closeTxn (.tl n) tag []
    let d := (s.pos n).stopwatch
    let f := s.profile n
    (s.day.state ≠ .opened → s.Refuses c (.tl n) 10 tag .dayState) ∧
    (s.day.state = .opened → (s.pos n).state ≠ .ready → s.Refuses c (.tl n) 10 tag .wrongState) ∧
    (s.day.state = .opened → (s.pos n).state = .ready → (s.pos n).sensor = .opened →
      s.Refuses c (.tl n) 10 tag .drawerOpen) ∧
    (s.day.state = .opened → (s.pos n).state = .ready → (s.pos n).sensor = .shut →
      ∃ t, exec c s = .next t ∧
        s.Answered t (.tl n) 10 tag true .ok [] { positions := [n], notices := [(.positionChanged, .sl)] } ∧
        (t.pos n).core = { (s.pos n).core with
          state := .serving, txnStart := some s.jnl.next, stopwatch := 0, running := true
          serviceLimit := s.settings.serviceLimit, serviceRaised := false, silence := 0 }) ∧
    ((s.pos n).state ≠ .serving → s.Refuses e (.tl n) 11 tag .wrongState) ∧
    ((s.pos n).state = .serving → ∃ t, exec e s = .next t ∧
      s.Answered t (.tl n) 11 tag true .ok (be 3 d)
        { parts := [.bal], positions := [n], windows := [n], notices := [(.positionChanged, .sl)] } ∧
      (t.pos n).core = { (s.pos n).core with
        state := .ready, txnStart := none, running := false, serviceRaised := false, silence := 0 } ∧
      (t.window n).text = (s.window n).text ∧ (t.window n).amount = none ∧ (t.window n).current = (s.window n).current ∧
      t.bal = { s.bal with profiles := s.bal.profiles.set n (
        if f.transactions < 65535 then
          { f with transactions := f.transactions + 1, serviceSum := f.serviceSum + d
                   serviceMin := if f.transactions = 0 then d else min f.serviceMin d
                   serviceMax := if f.transactions = 0 then d else max f.serviceMax d }
        else { f with serviceMin := min f.serviceMin d, serviceMax := max f.serviceMax d }) })

/-- 06 R114, R116: durations gathered into an empty profile keep its minimum, average and maximum in order, and no average
exceeds the stopwatch's bound. -/
def Obligations.ProfileAverageLiesBetweenItsBounds : Prop :=
  ∀ durations : List Nat, durations ≠ [] → (∀ d ∈ durations, d ≤ 999999) →
    let f := durations.foldl (fun f d => Profile.addDuration d f) Profile.empty
    f.serviceMin ≤ f.average ∧ f.average ≤ f.serviceMax ∧ f.serviceMax ≤ 999999 ∧ f.transactions = min durations.length 65535

/-- 03 R42, R43: AWAY and UNLOCK, each judged by its checks in their order and taken. -/
def Obligations.AwayAndUnlockMoveThePosition : Prop :=
  ∀ (n : Fin 8) (tag : Byte) (id : Nat) (s : State), s.Accepts (.tl n) → id < 65536 →
    let a : Instr := .away (.tl n) tag []
    let u : Instr := .unlock (.tl n) tag (be 2 id)
    ((s.pos n).state ≠ .ready → s.Refuses a (.tl n) 12 tag .wrongState) ∧
    ((s.pos n).state = .ready → (s.pos n).sensor = .opened → s.Refuses a (.tl n) 12 tag .drawerOpen) ∧
    ((s.pos n).state = .ready → (s.pos n).sensor = .shut → ∃ t, exec a s = .next t ∧
      s.Answered t (.tl n) 12 tag true .ok [] { positions := [n], notices := [(.positionChanged, .sl)] } ∧
      (t.pos n).core = { (s.pos n).core with state := .away, lock := .locked, window := none, silence := 0 }) ∧
    (¬(1 ≤ id ∧ id ≤ 9999) → s.Refuses u (.tl n) 13 tag .range) ∧
    (1 ≤ id ∧ id ≤ 9999 → (s.pos n).state ≠ .away → s.Refuses u (.tl n) 13 tag .wrongState) ∧
    (1 ≤ id ∧ id ≤ 9999 → (s.pos n).state = .away → (s.pos n).teller ≠ some id →
      s.Refuses u (.tl n) 13 tag .notAllowed) ∧
    (1 ≤ id ∧ id ≤ 9999 → (s.pos n).state = .away → (s.pos n).teller = some id → ∃ t, exec u s = .next t ∧
      s.Answered t (.tl n) 13 tag true .ok [] { positions := [n], notices := [(.positionChanged, .sl)] } ∧
      (t.pos n).core = { (s.pos n).core with state := .ready, silence := 0 })

/-- 03 R44 to R46, 04 R79, 05 R96: SIGN-OFF's four checks in their order, and a SIGN-OFF taken: the whole drawer moves into
the vault and re-arms, the entries naming the position leave, the records are asked for, and the position closes. -/
def Obligations.SignOffPutsTheDrawerAway : Prop :=
  ∀ (n : Fin 8) (tag : Byte) (s : State), s.Accepts (.tl n) → (s.dct.entries.map Entry.id).Nodup → s.dct.overrides n = 0 →
    let c : Instr := .signOff (.tl n) tag []
    let d := s.drawer n
    let empty : Prop := (∀ i, d.counts.get i = 0) ∧ d.unitemized = 0
    let may : Prop := (s.pos n).state = .balanced ∨ (s.pos n).state = .ready ∧ empty
    let vault := CashRecord.make s.cash.faces (Vec.tab fun i => s.cash.vault.counts.get i + d.counts.get i)
      (s.cash.vault.unitemized + d.unitemized)
    let fits : Prop := (∀ i, vault.counts.get i ≤ 16777215) ∧ -9999999999 ≤ vault.unitemized ∧
      vault.unitemized ≤ 9999999999 ∧ 0 ≤ vault.total ∧ vault.total ≤ 99999999999
    let teller := (s.pos n).teller.getD 0
    let away : Record := { Record.plain .putAway (.position n) teller d.total.toNat with
      source := some (.drawer n), destination := some .vault }
    (¬may → s.Refuses c (.tl n) 14 tag .wrongState) ∧
    (may → s.pbu.hasJob n = true → s.Refuses c (.tl n) 14 tag .printActive) ∧
    (may → s.pbu.hasJob n = false → (s.pos n).sensor = .opened → s.Refuses c (.tl n) 14 tag .drawerOpen) ∧
    (may → s.pbu.hasJob n = false → (s.pos n).sensor = .shut → ¬fits → s.Refuses c (.tl n) 14 tag .range) ∧
    (may → s.pbu.hasJob n = false → (s.pos n).sensor = .shut → fits → ∃ t, exec c s = .next t ∧
      s.Answered t (.tl n) 14 tag true .ok []
        { parts := [.cash, .dct, .jnl], positions := [n]
          notices := (.positionChanged, .sl) :: s.highJournal t ++
            (s.dct.entries.filter (Entry.names n)).flatMap (fun e =>
              [(Notice.transferEnded, e.proposer), (Notice.transferEnded, e.confirmer)].filter (fun x => x.2 != .tl n)) } ∧
      (t.pos n).core =
        { (s.pos n).core with state := .closed, teller := none, lock := .locked, window := none, silence := 0 } ∧
      t.cash = { s.cash with
        vault := vault, drawers := s.cash.drawers.set n (CashRecord.make s.cash.faces (Vec.fill 0) 0)
        high := s.cash.high.set n false } ∧
      t.dct = { s.dct with entries := s.dct.entries.filter (fun e => !e.names n) } ∧
      ∀ j, (empty → j = s.jnl) → (¬empty → j = s.jnl.withSystem s.day.seconds away) →
        t.jnl = j.withSystem s.day.seconds (Record.plain .signOff (.position n) teller 0))

/-- 03 R47, R45, 05 R96, 06 R100, R109: FORCE-SIGN-OFF's checks, and one taken in any state but CLOSED: an open transaction ends
with its duration handed over, an override is dropped, the last declaration becomes NONE, not applied, a print job
ends CANCELLED, and the computed holding is put away. -/
def Obligations.ForceSignOffClosesThePosition : Prop :=
  ∀ (v : Nat) (tag : Byte) (s : State), s.Accepts .sl → v < 256 →
    let c : Instr := .forceSignOff .sl tag (be 1 v)
    (8 ≤ v → s.Refuses c .sl 15 tag .badForm) ∧
    ∀ n : Fin 8, n.val = v → (s.dct.entries.map Entry.id).Nodup → s.pbu.jobPositions.Nodup →
      let p := s.pos n
      let d := s.drawer n
      let vault := CashRecord.make s.cash.faces (Vec.tab fun i => s.cash.vault.counts.get i + d.counts.get i)
        (s.cash.vault.unitemized + d.unitemized)
      let fits : Prop := (∀ i, vault.counts.get i ≤ 16777215) ∧ -9999999999 ≤ vault.unitemized ∧
        vault.unitemized ≤ 9999999999 ∧ 0 ≤ vault.total ∧ vault.total ≤ 99999999999
      let inTxn : Prop := p.state = .serving ∨ p.state = .held
      let away : Record := { Record.plain .putAway (.position n) (p.teller.getD 0) d.total.toNat with
        source := some (.drawer n), destination := some .vault }
      (p.state = .closed → s.Refuses c .sl 15 tag .wrongState) ∧
      (p.state ≠ .closed → ¬fits → s.Refuses c .sl 15 tag .range) ∧
      (p.state ≠ .closed → fits → ∃ t, exec c s = .next t ∧
        s.Keeps t { parts := [.cash, .dct, .bal, .jnl, .pbu], windows := [n] } ∧ s.Shows t ∧
        (∀ k, k ≠ .sl → s.SameLink t k) ∧ s.Replied t .sl 15 tag true .ok [] ∧
        (∀ m, m ≠ n → (t.pos m).core = (s.pos m).core) ∧
        (inTxn → (t.pos n).core = { p.core with
          state := .closed, teller := none, lock := .locked, window := none
          running := false, serviceRaised := false, txnStart := none } ∧
          (t.window n).amount = none ∧ (t.window n).text = (s.window n).text ∧
          (t.window n).current = (s.window n).current ∧ t.profile n = (s.profile n).addDuration p.stopwatch) ∧
        (¬inTxn → (t.pos n).core =
          { p.core with state := .closed, teller := none, lock := .locked, window := none } ∧
          s.SameLayers t n ∧ t.profile n = s.profile n) ∧
        (∀ m, m ≠ n → t.profile m = s.profile m ∧ t.context m = s.context m) ∧
        t.context n = { s.context n with declaration := none } ∧
        t.cash = { s.cash with
          vault := vault, drawers := s.cash.drawers.set n (CashRecord.make s.cash.faces (Vec.fill 0) 0)
          high := s.cash.high.set n false } ∧
        t.dct.entries = s.dct.entries.filter (fun e => !e.names n) ∧ t.dct.cursor = s.dct.cursor ∧
        (∀ m, t.dct.outcomes.get m =
          if m = n ∧ s.dct.overrides n ≠ 0 then .dropped else s.dct.outcomes.get m) ∧
        (s.pbu.hasJob n = true → (t.pbu.results.get n).outcome = .cancelled ∧ t.pbu.hasJob n = false) ∧
        (s.pbu.hasJob n = false → t.pbu = s.pbu ∧
          (∀ j, ((∀ i, d.counts.get i = 0) ∧ d.unitemized = 0 → j = s.jnl) →
            (¬((∀ i, d.counts.get i = 0) ∧ d.unitemized = 0) → j = s.jnl.withSystem s.day.seconds away) →
            t.jnl = j.withSystem s.day.seconds (Record.plain .signOff (.position n) (p.teller.getD 0) 0)) ∧
          s.Notes t { notices := (.positionChanged, .sl) :: s.highJournal t ++
            (s.dct.entries.filter (fun e => e.names n && !e.isOverrideOf n)).flatMap (fun e =>
              [(.transferEnded, e.proposer), (.transferEnded, e.confirmer)]) }))

/-- 03 R49, R51, R52, R54: a drawer's opening and shutting, forced or not, and the end of its release window. An opening
or a shutting given without its hold is granted, and a window's end given early ends it (logs 3, 4). -/
def Obligations.DrawerOpensShutsAndLocks : Prop :=
  ∀ (n : Fin 8) (s : State), s.alive = true →
    let p := s.pos n
    (p.sensor = .shut → p.lock = .released → ∃ t, exec (.opening n) s = .next t ∧ s.Event t { positions := [n] } ∧
      (t.pos n).core = { p.core with
        sensor := .opened, input := .opened, hold := none, window := none, openTime := 0
        openLimit := s.settings.openLimit, longRaised := false }) ∧
    (p.sensor = .shut → p.lock = .locked → ∃ t, exec (.opening n) s = .next t ∧
      s.Event t { parts := [.jnl], positions := [n], notices := (.drawerForced, .sl) :: s.highJournal t } ∧
      (t.pos n).core = { p.core with
        sensor := .opened, input := .opened, hold := none, window := none, openTime := 0
        openLimit := s.settings.openLimit, longRaised := false, forced := true } ∧
      t.jnl = (if s.day.state = .opened ∨ s.day.state = .cutoff then
        s.jnl.withSystem s.day.seconds (Record.plain .drawerForced (.position n) (p.teller.getD 0) 0) else s.jnl)) ∧
    (p.sensor = .opened → ∃ t, exec (.shutting n) s = .next t ∧ s.Event t { positions := [n] } ∧
      (t.pos n).core = { p.core with
        sensor := .shut, input := .shut, hold := none, longRaised := false, lock := .locked, window := none }) ∧
    (p.window ≠ none → p.sensor = .shut → ∃ t, exec (.releaseWindowEnd n) s = .next t ∧
      s.Event t { positions := [n] } ∧ (t.pos n).core = { p.core with lock := .locked, window := none }) ∧
    (p.sensor = .opened → ∃ t, exec (.opening n) s = .next t ∧ s.Event t {}) ∧
    (p.sensor = .shut → ∃ t, exec (.shutting n) s = .next t ∧ s.Event t {}) ∧
    (p.window = none ∨ p.sensor = .opened → ∃ t, exec (.releaseWindowEnd n) s = .next t ∧ s.Event t {})

/-- 03 R49: the input's level begins a hold of five hundredths where it leaves the debounced state, and a return to it
abandons the hold; and 03 R48, R53, R56: the silence that makes a position idle, DRAWER-LONG once in an opening, and
SERVICE-LONG once in a transaction. A timer's end given early sets its count to the value it has then reached (log 3). -/
def Obligations.DrawerAndServiceWatchesRun : Prop :=
  ∀ (n : Fin 8) (level : Sensor) (s : State), s.alive = true →
    let p := s.pos n
    (∃ t, exec (.sensorInputChange n level) s = .next t ∧ s.Event t { positions := [n] } ∧
      (t.pos n).core = { p.core with
        input := level
        hold := if level = p.sensor then none else match p.hold with
          | some k => some k
          | none => some 5 }) ∧
    (p.sensor = .opened → p.longRaised = false → ∃ t, exec (.drawerLong n) s = .next t ∧
      s.Event t { positions := [n], notices := [(.drawerLong, .tl n), (.drawerLong, .sl)] } ∧
      (t.pos n).core = { p.core with longRaised := true, openTime := max p.openTime (p.openLimit * 100) }) ∧
    (¬(p.sensor = .opened ∧ p.longRaised = false) → ∃ t, exec (.drawerLong n) s = .next t ∧ s.Event t {}) ∧
    (p.running = true → p.serviceRaised = false → ∃ t, exec (.serviceLong n) s = .next t ∧
      s.Event t { positions := [n], notices := [(.serviceLong, .sl)] } ∧
      (t.pos n).core = { p.core with serviceRaised := true, stopwatch := max p.stopwatch (p.serviceLimit * 100) }) ∧
    (¬(p.running = true ∧ p.serviceRaised = false) → ∃ t, exec (.serviceLong n) s = .next t ∧ s.Event t {}) ∧
    (p.state = .ready ∨ p.state = .closed ∨ p.state = .away → ∃ t, exec (.idle n) s = .next t ∧
      s.Event t { positions := [n] } ∧ (t.pos n).idle = true ∧
      (t.pos n).core = { p.core with silence := max p.silence (s.settings.idleBlank * 100) }) ∧
    (p.state ≠ .ready → p.state ≠ .closed → p.state ≠ .away → ∃ t, exec (.idle n) s = .next t ∧ s.Event t {} ∧
      (t.pos n).idle = false)

/-- 03 R57, R58, R48, 06 R100, 11 R199: STATUS on a teller link and READ-POSITION return the position record, the last print
result, the outcome and the entries awaiting the link, or the context, and the tag, byte by byte; they change nothing but the
silence of the asking link's position, which its STATUS has ended: the idle flag it returns is No. -/
def Obligations.PositionReadingsReturnTheRecord : Prop :=
  ∀ (n : Fin 8) (tag : Byte) (s : State),
    let p := s.pos n
    let j := s.pbu.results.get n
    let c := s.context n
    let record (idle : Bool) : Bytes := List.flatten
      [[match p.state with
          | .closed => 0 | .ready => 1 | .serving => 2 | .held => 3 | .away => 4 | .balancing => 5 | .outOfBalance => 6
          | .forceWait => 7 | .balanced => 8],
       be 2 (p.teller.getD 0), be 2 (p.txnStart.getD 0), flagByte (p.lock = .released), be 2 (p.window.getD 0),
       flagByte (p.sensor = .opened), be 3 p.openTime, flagByte (p.longRaised = true), flagByte (p.forced = true),
       be 3 p.stopwatch, flagByte (p.running = true), flagByte (p.serviceRaised = true), flagByte (idle = true)]
    let result : Bytes := List.flatten
      [[match j.outcome with
          | .none => 0 | .done => 1 | .noBook => 2 | .pageTimeout => 3 | .bookFull => 4 | .incomplete => 5
          | .faulted => 6 | .cancelled => 7],
       [match j.printer with | none => 255 | some q => BitVec.ofNat 8 q.val],
       [match j.cause with | none => 0 | some .head => 1 | some .slip => 2 | some .jam => 3],
       be 5 j.account, be 1 j.gathered, flagByte (j.more = true), be 1 j.printed, be 1 j.page, be 1 j.line,
       beInt 5 j.balance, flagByte (j.balanceValid = true)]
    let outcome : Bytes := match s.dct.outcomes.get n with
      | .none => [0, 0, 0] | .pending id => 1 :: be 2 id | .done q => 2 :: be 2 q | .failed code => 3 :: be 2 code.num
      | .declined => [4, 0, 0] | .withdrawn => [5, 0, 0] | .expired => [6, 0, 0] | .dropped => [7, 0, 0]
    let awaiting := s.dct.entries.filter (fun e => e.confirmer == .tl n)
    let entry (e : Entry) : Bytes := List.flatten
      [be 1 e.id, [match e.proposal with | .transfer _ _ _ => 1 | .override _ _ => 2],
       [match e.proposer with | .tl m => BitVec.ofNat 8 m.val | .sl => 8], be 5 e.amount, be 2 e.remaining]
    let last : Bytes := match (s.link (.tl n)).lastTag with | none => [0, 0] | some k => [1, k]
    let context : Bytes := List.flatten
      [be 1 c.attempts, flagByte (c.declaration ≠ none), ((c.declaration.getD (Vec.fill 0)).toList.map (be 2)).flatten,
       flagByte (c.difference ≠ none), beInt 6 (c.difference.getD 0)]
    (s.Accepts (.tl n) → s.settings.InRange → ∃ t, exec (.statusTeller n tag []) s = .next t ∧
      s.Answered t (.tl n) 2 tag false .ok
        (List.flatten [record false, result, outcome, be 1 awaiting.length, awaiting.flatMap entry, last]) {}) ∧
    (s.Accepts .sl → ∃ t, exec (.readPosition .sl tag (be 1 n.val)) s = .next t ∧
      s.Answered t .sl 16 tag false .ok (List.flatten [record p.idle, result, last, context]) {}) ∧
    (s.Accepts .sl → ∀ v, 8 ≤ v → v < 256 → s.Refuses (.readPosition .sl tag (be 1 v)) .sl 16 tag .badForm)

/-! ### Cash -/

/-- 04 R64 to R71, R78: a POST that passes its seven checks and lies within the limit is made: the drawer by its breakdown
or through the unitemized balance, the counter, the record, the profile, the amount at the window, the lock and DRAWER-HIGH. -/
def Obligations.PostWithinTheLimitIsMade : Prop :=
  ∀ (n : Fin 8) (tag : Byte) (body : Bytes) (x : Posting) (s : State), s.Accepts (.tl n) → (s.pos n).state = .serving →
    body.length = 12 + 4 * x.lines.length → x.lines.length ≤ 12 → readPosting body = some x →
    1 ≤ x.amount → x.amount ≤ 9999999999 → x.account ≤ 999999999999 → (x.book = true → x.account ≠ 0) →
    let c : Instr := .post (.tl n) tag body
    let cash : Prop := x.kind = .deposit ∨ x.kind = .withdrawal
    let d := s.drawer n
    let faces := s.cash.faces
    let ins := pieces true x.lines
    let outs := pieces false x.lines
    let signed : Int := match x.kind with | .deposit => x.amount | .withdrawal => -(x.amount : Int) | _ => 0
    let counts : Vec 12 Nat := Vec.tab fun i => d.counts.get i + ins.get i - outs.get i
    let after : CashRecord :=
      if x.lines = [] then CashRecord.make faces d.counts (d.unitemized + signed)
      else CashRecord.make faces counts d.unitemized
    let soundLines : Prop :=
      (∀ l ∈ x.lines, (∃ h : l.slot < 12, faces.get ⟨l.slot, h⟩ ≠ none) ∧ 1 ≤ l.count ∧ l.count ≤ 999) ∧
      x.lines.Pairwise (fun a b => a.slot ≠ b.slot ∨ a.isIn ≠ b.isIn) ∧ worth faces ins - worth faces outs = signed
    let effect : Prop :=
      (∀ i, outs.get i ≤ d.counts.get i + ins.get i) ∧ (∀ i, after.counts.get i ≤ 65535) ∧
      (x.kind = .withdrawal → x.lines = [] → (x.amount : Int) ≤ d.total) ∧
      -9999999999 ≤ after.unitemized ∧ after.unitemized ≤ 9999999999 ∧
      0 ≤ d.total + signed ∧ d.total + signed ≤ 99999999999 ∧
      (x.kind = .deposit → s.cash.cashIn + x.amount ≤ 999999999999) ∧
      (x.kind = .withdrawal → s.cash.cashOut + x.amount ≤ 999999999999)
    (cash → x.lines ≠ [] → soundLines) → (¬cash → x.lines = []) →
    (cash → x.lines = [] → x.amount ≤ s.day.itemization) → (cash → effect) →
    (s.jnl.records.filter (fun r => r.kind.customer)).length < 4032 → s.jnl.records.length < 4096 →
    x.amount ≤ s.day.postingLimit →
    ∃ t, exec c s = .next t ∧
      s.Answered t (.tl n) 17 tag true .ok (be 2 s.jnl.next)
        { parts := [.cash, .jnl, .bal], positions := [n], windows := [n], notices := s.highJournal t ++ s.highDrawer t } ∧
      (cash → t.cash = { s.cash with
        drawers := s.cash.drawers.set n after
        cashIn := if x.kind = .deposit then s.cash.cashIn + x.amount else s.cash.cashIn
        cashOut := if x.kind = .withdrawal then s.cash.cashOut + x.amount else s.cash.cashOut
        high := s.cash.high.set n (highAfter (s.cash.high.get n) true s.day.drawerMax after.total) }) ∧
      (¬cash → t.cash = s.cash) ∧
      t.jnl = s.jnl.withRecord s.day.seconds
        { Record.plain (match x.kind with
            | .deposit => .deposit | .withdrawal => .withdrawal | .credit => .credit | .debit => .debit)
            (.position n) ((s.pos n).teller.getD 0) x.amount with
          account := if x.account = 0 then none else some x.account
          book := x.book, pending := x.book
          effect := if x.kind = .deposit ∨ x.kind = .credit then .credit else .debit } ∧
      t.bal = { s.bal with profiles := s.bal.profiles.set n { s.profile n with
        postings := min 65535 ((s.profile n).postings + 1)
        cashIn := if x.kind = .deposit then (s.profile n).cashIn + x.amount else (s.profile n).cashIn
        cashOut := if x.kind = .withdrawal then (s.profile n).cashOut + x.amount else (s.profile n).cashOut
        largest := max (s.profile n).largest x.amount } } ∧
      (t.window n).text = (s.window n).text ∧ (t.window n).amount = some x.amount ∧
      (t.window n).current = (s.window n).current ∧
      (¬cash → (t.pos n).core = { (s.pos n).core with silence := 0 }) ∧
      (cash → (s.pos n).Released (t.pos n) ∧
        (t.pos n).core = { (s.pos n).core with lock := (t.pos n).lock, window := (t.pos n).window, silence := 0 })

/-- 04 R65 to R69: POST's checks in their order; the first that fails gives the code: the state, the form, the ranges, the
forbidden combinations, the breakdown, the itemization, the effect on drawer and counter, the journal, and above the limit
the table. -/
def Obligations.PostIsRefusedByItsFirstCheck : Prop :=
  ∀ (n : Fin 8) (tag : Byte) (body : Bytes) (s : State), s.Accepts (.tl n) → LengthAdmitted 17 false body.length →
    let c : Instr := .post (.tl n) tag body
    let refuses (code : Code) : Prop := s.Refuses c (.tl n) 17 tag code
    ((s.pos n).state ≠ .serving → refuses .wrongState) ∧
    ((s.pos n).state = .serving → readPosting body = none → refuses .badForm) ∧
    ∀ x, readPosting body = some x → (s.pos n).state = .serving →
      let inRange : Prop := 1 ≤ x.amount ∧ x.amount ≤ 9999999999 ∧ x.account ≤ 999999999999
      let cash : Prop := x.kind = .deposit ∨ x.kind = .withdrawal
      let into : Bool := x.kind == .deposit
      let admitted : Prop := inRange ∧ (x.book = true → x.account ≠ 0) ∧ (x.lines ≠ [] → cash)
      let nets : Prop := x.lines ≠ [] → s.cash.LinesMove into x.amount x.lines
      let itemized : Prop := cash → x.lines = [] → x.amount ≤ s.day.itemization
      let effect : Option Code := s.cash.effectFails (s.drawer n) into x.amount x.lines
      let sound : Prop := admitted ∧ nets ∧ itemized ∧ (cash → effect = none)
      let room : Prop := (s.jnl.records.filter (fun r => r.kind.customer)).length < 4032 ∧ s.jnl.records.length < 4096
      (¬inRange → refuses .range) ∧ (inRange → ¬admitted → refuses .badForm) ∧
      (admitted → ¬nets → refuses .breakdown) ∧ (admitted → nets → ¬itemized → refuses .breakdown) ∧
      (admitted → nets → itemized → cash → ∀ code, effect = some code → refuses code) ∧
      (sound → ¬room → refuses .journalFull) ∧
      (sound → room → s.day.postingLimit < x.amount → 6 ≤ s.dct.entries.length → refuses .tableFull)

/-- 04 R69, 05 R84, R85, R97: a POST above the limit that passes the other checks is held: an override entry with the whole
posting stands, the position is HELD, and no cash, record, profile, layer or lock changes. -/
def Obligations.PostAboveTheLimitIsHeld : Prop :=
  ∀ (n : Fin 8) (tag : Byte) (body : Bytes) (x : Posting) (s : State), s.Accepts (.tl n) → (s.pos n).state = .serving →
    LengthAdmitted 17 false body.length → readPosting body = some x → 1 ≤ x.amount → x.amount ≤ 9999999999 →
    x.account ≤ 999999999999 → (x.book = true → x.account ≠ 0) → (x.kind = .credit ∨ x.kind = .debit → x.lines = []) →
    s.cash.breakdownOk x.kind.dir x.amount x.lines = true →
    itemizationOk s.day.itemization x.kind.dir x.amount x.lines = true → x.recheck n s (.ok ()) = .ok () →
    s.day.postingLimit < x.amount → s.dct.entries.length < 6 → s.dct.cursor ≤ 255 →
    (∀ e ∈ s.dct.entries, 1 ≤ e.id ∧ e.id ≤ 255) →
    ∃ t id, exec (.post (.tl n) tag body) s = .next t ∧
      s.Answered t (.tl n) 17 tag true .held (be 1 id)
        { parts := [.dct], positions := [n], notices := [(.overrideAsked, .sl), (.positionChanged, .sl)] } ∧
      1 ≤ id ∧ id ≤ 255 ∧ (∀ e ∈ s.dct.entries, e.id ≠ id) ∧
      (∀ k, 1 ≤ k → k ≤ 255 → (∀ e ∈ s.dct.entries, e.id ≠ k) → (id + 254 - s.dct.cursor) % 255 ≤ (k + 254 - s.dct.cursor) % 255) ∧
      t.dct.entries = s.dct.entries ++ [⟨id, .tl n, .sl, x.amount, s.settings.overrideExpiry * 100, .override n x⟩] ∧
      t.dct.cursor = id ∧ t.dct.outcomes = s.dct.outcomes.set n (.pending id) ∧
      (t.pos n).core = { (s.pos n).core with state := .held, silence := 0 }

/-- 04 R74 to R76: a VOID's checks in their order, on position, record, claim, form, breakdown, itemization, effect and
journal, and a VOID taken: the reversal moves the drawer, the counter and the profile the other way, and original and
REVERSAL are linked and marked by R76's table. -/
def Obligations.VoidReversesThePosting : Prop :=
  ∀ (n : Fin 8) (tag : Byte) (seq : Nat) (body : Bytes) (s : State), s.Accepts (.tl n) → seq < 65536 →
    LengthAdmitted 18 false (2 + body.length) →
    let c : Instr := .void (.tl n) tag (be 2 seq ++ body)
    let refuses (code : Code) : Prop := s.Refuses c (.tl n) 18 tag code
    ((s.pos n).state ≠ .serving → refuses .wrongState) ∧
    ((s.pos n).state = .serving → (∀ r ∈ s.jnl.records, r.seq ≠ seq) → refuses .noSuch) ∧
    ∀ (r : Record) (start : Nat), (s.pos n).state = .serving → (s.pos n).txnStart = some start → r ∈ s.jnl.records →
      r.seq = seq → (s.jnl.records.map Record.seq).Nodup →
    let may : Prop := r.place = .position n ∧ start ≤ r.seq ∧ (∀ q, r.link ≠ .voidedBy q) ∧
      r.kind ∈ [.deposit, .withdrawal, .credit, .debit]
    (¬may → refuses .noSuch) ∧ (may → r.claimed ≠ none → refuses .inPrint) ∧
    (may → r.claimed = none → (∃ k, k < body.length / 4 ∧ body.getD (4 * k + 3) 0 ≠ 1 ∧ body.getD (4 * k + 3) 0 ≠ 2) →
      refuses .badForm) ∧
    ∀ lines, readLines body = some lines → may → r.claimed = none →
    let cash : Prop := r.kind = .deposit ∨ r.kind = .withdrawal
    let into : Bool := r.kind == .withdrawal
    let dir : CashDir := match r.kind with | .deposit => .outward | .withdrawal => .inward | _ => .none
    let after := (s.drawer n).moved s.cash.faces dir r.amount lines
    let linked : List Record := s.jnl.records.map (fun q =>
      if q.seq = r.seq then { q with link := .voidedBy s.jnl.next, pending := false } else q)
    let admitted : Prop := lines ≠ [] → cash
    let nets : Prop := lines ≠ [] → s.cash.LinesMove into r.amount lines
    let itemized : Prop := cash → lines = [] → r.amount ≤ s.day.itemization
    let effect : Option Code := s.cash.effectFails (s.drawer n) into r.amount lines
    let sound : Prop := admitted ∧ nets ∧ itemized ∧ (cash → effect = none)
    let room : Prop := (s.jnl.records.filter (fun r => r.kind.customer)).length < 4032 ∧ s.jnl.records.length < 4096
    (¬admitted → refuses .badForm) ∧ (admitted → ¬nets → refuses .breakdown) ∧
    (admitted → nets → ¬itemized → refuses .breakdown) ∧
    (admitted → nets → itemized → cash → ∀ code, effect = some code → refuses code) ∧
    (sound → ¬room → refuses .journalFull) ∧
    (sound → room → ∃ t, exec c s = .next t ∧
        s.Answered t (.tl n) 18 tag true .ok (be 2 s.jnl.next)
          { parts := [.cash, .jnl, .bal], positions := [n], windows := [n]
            notices := s.highJournal t ++ s.highDrawer t } ∧
        (dir = .none → t.cash = s.cash ∧ (t.pos n).core = { (s.pos n).core with silence := 0 }) ∧
        (dir ≠ .none → t.cash = { s.cash with
          drawers := s.cash.drawers.set n after
          cashIn := if dir = .inward then s.cash.cashIn + r.amount else s.cash.cashIn
          cashOut := if dir = .outward then s.cash.cashOut + r.amount else s.cash.cashOut
          high := s.cash.high.set n (highAfter (s.cash.high.get n) true s.day.drawerMax after.total) } ∧
          (s.pos n).Released (t.pos n) ∧
          (t.pos n).core = { (s.pos n).core with lock := (t.pos n).lock, window := (t.pos n).window, silence := 0 }) ∧
        t.jnl = Journal.withRecord { s.jnl with records := linked } s.day.seconds
          { Record.plain .reversal (.position n) ((s.pos n).teller.getD 0) r.amount with
            account := r.account, book := r.book, link := .reversed r.seq
            effect := if r.kind = .deposit ∨ r.kind = .credit then .debit else .credit
            pending := r.book && r.printed.isSome } ∧
        t.bal = { s.bal with profiles := s.bal.profiles.set n { s.profile n with
          postings := min 65535 ((s.profile n).postings + 1)
          cashIn := if dir = .inward then (s.profile n).cashIn + r.amount else (s.profile n).cashIn
          cashOut := if dir = .outward then (s.profile n).cashOut + r.amount else (s.profile n).cashOut
          largest := max (s.profile n).largest r.amount } } ∧
        (t.window n).text = (s.window n).text ∧ (t.window n).amount = some r.amount ∧
        (t.window n).current = (s.window n).current)

/-- 04 R80, R81, 11 R199: READ-CASH returns the drawer's figures on its teller link, and on SL the drawer, the vault or the
counters by its selector; a selector that names none is refused BAD-FORM. -/
def Obligations.ReadCashReturnsTheFigures : Prop :=
  ∀ (n : Fin 8) (tag : Byte) (s : State), s.RecordsLaw → s.FacesLaw → s.cash.CountersInRange → s.day.ParametersInRange →
    let drawer (r : Bytes) : Prop := r.length = 77 ∧
      (∀ i : Fin 12, field r (5 * i.val) 3 = (s.cash.faces.get i).getD 0 ∧
        field r (5 * i.val + 3) 2 = (s.drawer n).counts.get i) ∧
      fieldInt r 60 5 = (s.drawer n).unitemized ∧ (field r 65 5 : Int) = (s.drawer n).total ∧
      (field r 70 1 = 1 ↔ s.cash.high.get n = true) ∧ field r 71 5 = s.day.drawerMax ∧ field r 76 1 = s.day.minorDigits
    (s.Accepts (.tl n) → ∃ t r, exec (.readCashTeller n tag []) s = .next t ∧
      s.Answered t (.tl n) 19 tag false .ok r {} ∧ drawer r) ∧
    (s.Accepts .sl →
      (∃ t r, exec (.readCashSupervisor tag (be 1 n.val)) s = .next t ∧ s.Answered t .sl 19 tag false .ok r {} ∧ drawer r) ∧
      (∃ t r, exec (.readCashSupervisor tag [8]) s = .next t ∧ s.Answered t .sl 19 tag false .ok r {} ∧ r.length = 83 ∧
        (∀ i : Fin 12, field r (6 * i.val) 3 = (s.cash.faces.get i).getD 0 ∧
          field r (6 * i.val + 3) 3 = s.cash.vault.counts.get i) ∧
        fieldInt r 72 5 = s.cash.vault.unitemized ∧ (field r 77 5 : Int) = s.cash.vault.total ∧
        field r 82 1 = s.day.minorDigits) ∧
      (∃ t r, exec (.readCashSupervisor tag [9]) s = .next t ∧ s.Answered t .sl 19 tag false .ok r {} ∧ r.length = 31 ∧
        field r 0 5 = s.cash.opening ∧ field r 5 5 = s.cash.cashIn ∧ field r 10 5 = s.cash.cashOut ∧
        field r 15 5 = s.cash.dayOver ∧ field r 20 5 = s.cash.dayShort ∧ (field r 25 5 : Int) = s.cash.grandTotal ∧
        field r 30 1 = s.day.minorDigits) ∧
      ∀ v, 10 ≤ v → v < 256 → s.Refuses (.readCashSupervisor tag (be 1 v)) .sl 19 tag .badForm)

/-! ### Dual control -/

/-- 05 R87, R88, R85: PROPOSE's checks in their order, and a PROPOSE taken: a TRANSFER entry under a fresh id, the confirming
party of R87's table, and TRANSFER-OFFERED on its link; no cash, record or lock changes. -/
def Obligations.ProposeIsJudgedAndTaken : Prop :=
  ∀ (l confirmer : Link) (tag : Byte) (src dst : Holder) (amount : Nat) (tail : Bytes) (lines : List Line) (s : State),
    s.Accepts l → amount < 256 ^ 5 → lines.length ≤ 12 → tail.length = 4 * lines.length → readLines tail = some lines →
    s.dct.cursor ≤ 255 → (∀ e ∈ s.dct.entries, 1 ≤ e.id ∧ e.id ≤ 255) →
    let c : Instr := .propose l tag (be 1 src.num ++ be 1 dst.num ++ be 5 amount ++ tail)
    let listed (k : Link) : Prop :=
      (∃ n m : Fin 8, m ≠ n ∧ l = .tl n ∧ src = .drawer n ∧ dst = .drawer m ∧ k = .tl m) ∨
      (∃ n : Fin 8, l = .tl n ∧ src = .drawer n ∧ dst = .vault ∧ k = .sl) ∨
      (∃ n : Fin 8, l = .tl n ∧ src = .vault ∧ dst = .drawer n ∧ k = .sl) ∨
      (∃ n : Fin 8, l = .sl ∧ src = .drawer n ∧ dst = .vault ∧ k = .tl n) ∨
      (∃ n : Fin 8, l = .sl ∧ src = .vault ∧ dst = .drawer n ∧ k = .tl n)
    let party : Prop := listed confirmer
    let open_ : Prop := s.day.state = .opened ∨ s.day.state = .cutoff
    let ready (k : Link) : Prop := ∀ n, k = .tl n → (s.pos n).state = .ready
    let sound : Prop := lines ≠ [] ∧
      (∀ x ∈ lines, x.isIn = true ∧ (∃ h : x.slot < 12, s.cash.faces.get ⟨x.slot, h⟩ ≠ none) ∧ 1 ≤ x.count ∧ x.count ≤ 999) ∧
      (lines.map Line.slot).Nodup ∧ worth s.cash.faces (pieces true lines) = amount
    let covers : Prop := (∀ i, (pieces true lines).get i ≤ (s.holding src).counts.get i) ∧ (amount : Int) ≤ (s.holding src).total
    (src = dst → s.Refuses c l 20 tag .badForm) ∧
    (src ≠ dst → (∀ k, ¬listed k) → s.Refuses c l 20 tag .notAllowed) ∧
    (party → ¬open_ → s.Refuses c l 20 tag .dayState) ∧
    (party → open_ → ¬(1 ≤ amount ∧ amount ≤ 9999999999) → s.Refuses c l 20 tag .range) ∧
    (party → open_ → 1 ≤ amount → amount ≤ 9999999999 → ¬(ready l ∧ ready confirmer) → s.Refuses c l 20 tag .wrongState) ∧
    (party → open_ → 1 ≤ amount → amount ≤ 9999999999 → ready l → ready confirmer → ¬sound →
      s.Refuses c l 20 tag .breakdown) ∧
    (party → open_ → 1 ≤ amount → amount ≤ 9999999999 → ready l → ready confirmer → sound → ¬covers →
      s.Refuses c l 20 tag .shortfall) ∧
    (party → open_ → 1 ≤ amount → amount ≤ 9999999999 → ready l → ready confirmer → sound → covers →
      6 ≤ s.dct.entries.length → s.Refuses c l 20 tag .tableFull) ∧
    (party → open_ → 1 ≤ amount → amount ≤ 9999999999 → ready l → ready confirmer → sound → covers →
      s.dct.entries.length < 6 → ∃ t id, exec c s = .next t ∧
        s.Answered t l 20 tag true .ok (be 1 id) { parts := [.dct], notices := [(.transferOffered, confirmer)] } ∧
        1 ≤ id ∧ id ≤ 255 ∧ (∀ e ∈ s.dct.entries, e.id ≠ id) ∧
        t.dct = { s.dct with
          cursor := id
          entries := s.dct.entries ++
            [⟨id, l, confirmer, amount, s.settings.transferExpiry * 100, .transfer src dst lines⟩] })

/-- 05 R89 to R91: CONFIRM of a TRANSFER entry: the checks in their order, a refusal keeping the entry, and a CONFIRM taken:
the pieces move, the record is asked for, the locks are released, DRAWER-HIGH is judged, and the entry leaves. -/
def Obligations.ConfirmMovesATransfersPieces : Prop :=
  ∀ (l : Link) (tag : Byte) (e : Entry) (src dst : Holder) (lines : List Line) (s : State), s.Accepts l →
    e ∈ s.dct.entries → (s.dct.entries.map Entry.id).Nodup → e.id < 256 → e.proposal = .transfer src dst lines → src ≠ dst →
    let c : Instr := .confirm l tag (be 1 e.id)
    let ready (h : Holder) : Prop := ∀ n, h = .drawer n → (s.pos n).state = .ready
    let moved := pieces true lines
    let bound (h : Holder) : Nat := if h = .vault then 16777215 else 65535
    let covers : Prop := (∀ i, moved.get i ≤ (s.holding src).counts.get i) ∧ (e.amount : Int) ≤ (s.holding src).total
    let takes : Prop := (∀ i, (s.holding dst).counts.get i + moved.get i ≤ bound dst) ∧
      (s.holding dst).total + e.amount ≤ 99999999999
    let less := CashRecord.make s.cash.faces (Vec.tab fun i => (s.holding src).counts.get i - moved.get i)
      (s.holding src).unitemized
    let more := CashRecord.make s.cash.faces (Vec.tab fun i => (s.holding dst).counts.get i + moved.get i)
      (s.holding dst).unitemized
    let record : Record := { (match e.proposer, e.confirmer with
        | .tl n, _ | .sl, .tl n => Record.plain .transfer (.position n) ((s.pos n).teller.getD 0) e.amount
        | .sl, .sl => Record.plain .transfer .none 0 e.amount) with source := some src, destination := some dst }
    (l ≠ e.confirmer → s.Refuses c l 21 tag .notAllowed) ∧
    (l = e.confirmer → ¬(ready src ∧ ready dst) → s.Refuses c l 21 tag .wrongState) ∧
    (l = e.confirmer → ready src → ready dst → ¬covers → s.Refuses c l 21 tag .shortfall) ∧
    (l = e.confirmer → ready src → ready dst → covers → ¬takes → s.Refuses c l 21 tag .range) ∧
    (l = e.confirmer → ready src → ready dst → covers → takes → ∃ t, exec c s = .next t ∧
      s.Answered t l 21 tag true .ok (be 1 1 ++ s.jnl.answered)
        { parts := [.cash, .jnl, .dct]
          positions := (List.finRange 8).filter (fun n => src == .drawer n || dst == .drawer n)
          notices := s.highJournal t ++ s.highDrawer t ++ [(.transferDone, e.proposer), (.transferDone, e.confirmer)] } ∧
      (∀ h, t.holding h = if h = src then less else if h = dst then more else s.holding h) ∧
      t.cash.faces = s.cash.faces ∧ t.cash.opening = s.cash.opening ∧ t.cash.cashIn = s.cash.cashIn ∧
      t.cash.cashOut = s.cash.cashOut ∧ t.cash.dayOver = s.cash.dayOver ∧ t.cash.dayShort = s.cash.dayShort ∧
      (∀ n, t.cash.high.get n = if src = .drawer n ∨ dst = .drawer n then
        highAfter (s.cash.high.get n) true s.day.drawerMax (t.drawer n).total else s.cash.high.get n) ∧
      t.jnl = s.jnl.withSystem s.day.seconds record ∧
      (∀ n, src = .drawer n ∨ dst = .drawer n → (s.pos n).Released (t.pos n) ∧
        (t.pos n).core = { s.heardPos l n with lock := (t.pos n).lock, window := (t.pos n).window }) ∧
      t.dct = { s.dct with entries := s.dct.entries.filter (fun x => x.id != e.id) })

/-- 05 R89, R92, 04 R72: CONFIRM of an OVERRIDE is taken whether the held posting then passes its re-check or not: made, it
has every effect of a posting and counts as an override; failed, it changes no cash, record, profile, layer or lock. -/
def Obligations.ConfirmMakesOrFailsAnOverride : Prop :=
  ∀ (l : Link) (tag : Byte) (e : Entry) (n : Fin 8) (x : Posting) (s : State), s.Accepts l → e ∈ s.dct.entries →
    (s.dct.entries.map Entry.id).Nodup → e.id < 256 → e.proposal = .override n x →
    let c : Instr := .confirm l tag (be 1 e.id)
    let cash : Prop := x.kind = .deposit ∨ x.kind = .withdrawal
    let after := (s.drawer n).moved s.cash.faces x.kind.dir x.amount x.lines
    let left : List Entry := s.dct.entries.filter (fun y => y.id != e.id)
    (l ≠ e.confirmer → s.Refuses c l 21 tag .notAllowed) ∧
    (l = e.confirmer → ∀ code, x.recheck n s (.ok ()) = .error code → ∃ t, exec c s = .next t ∧
      s.Answered t l 21 tag true .ok ([2, 1] ++ be 2 code.num)
        { parts := [.dct], positions := [n], notices := [(.positionChanged, .sl), (.overrideFailed, .tl n)] } ∧
      t.dct = { s.dct with entries := left, outcomes := s.dct.outcomes.set n (.failed code) } ∧
      (t.pos n).core = { s.heardPos l n with state := .serving }) ∧
    (l = e.confirmer → x.recheck n s (.ok ()) = .ok () → ∃ t, exec c s = .next t ∧
      s.Answered t l 21 tag true .ok ([2, 0] ++ be 2 s.jnl.next)
        { parts := [.dct, .cash, .jnl, .bal], positions := [n], windows := [n]
          notices := [(.positionChanged, .sl), (.overrideDone, .tl n)] ++ s.highJournal t ++ s.highDrawer t } ∧
      t.dct = { s.dct with entries := left, outcomes := s.dct.outcomes.set n (.done s.jnl.next) } ∧
      (¬cash → t.cash = s.cash ∧ (t.pos n).core = { s.heardPos l n with state := .serving }) ∧
      (cash → t.cash = { s.cash with
        drawers := s.cash.drawers.set n after
        cashIn := if x.kind = .deposit then s.cash.cashIn + x.amount else s.cash.cashIn
        cashOut := if x.kind = .withdrawal then s.cash.cashOut + x.amount else s.cash.cashOut
        high := s.cash.high.set n (highAfter (s.cash.high.get n) true s.day.drawerMax after.total) } ∧
        (s.pos n).Released (t.pos n) ∧ (t.pos n).core =
          { s.heardPos l n with state := .serving, lock := (t.pos n).lock, window := (t.pos n).window }) ∧
      t.jnl = s.jnl.withRecord s.day.seconds (x.record n ((s.pos n).teller.getD 0)) ∧
      t.bal = { s.bal with profiles := s.bal.profiles.set n { s.profile n with
        postings := min 65535 ((s.profile n).postings + 1), overrides := min 65535 ((s.profile n).overrides + 1)
        cashIn := if x.kind = .deposit then (s.profile n).cashIn + x.amount else (s.profile n).cashIn
        cashOut := if x.kind = .withdrawal then (s.profile n).cashOut + x.amount else (s.profile n).cashOut
        largest := max (s.profile n).largest x.amount } } ∧
      (t.window n).text = (s.window n).text ∧ (t.window n).amount = some x.amount ∧
      (t.window n).current = (s.window n).current)

/-- 05 R93 to R95, R98: DECLINE by the confirming party, WITHDRAW by the proposing link, and expiry: each removes the
entry with the effects of its kind; a request that names no entry is refused NO-SUCH, one from another party NOT-ALLOWED,
and an expiry that finds no entry does not occur. An expiry given before its time ends the entry all the same (log 3). -/
def Obligations.EntriesAreDeclinedWithdrawnOrExpire : Prop :=
  ∀ (l : Link) (tag : Byte) (id : Nat) (s : State), s.alive = true → (s.dct.entries.map Entry.id).Nodup → id < 256 →
    let confirm : Instr := .confirm l tag (be 1 id)
    let decline : Instr := .decline l tag (be 1 id)
    let withdraw : Instr := .withdraw l tag (be 1 id)
    let left : List Entry := s.dct.entries.filter (fun y => y.id != id)
    ((∀ e ∈ s.dct.entries, e.id ≠ id) → (∃ t, exec (.expiry id) s = .next t ∧ s.Event t {}) ∧
      (s.Accepts l → s.Refuses confirm l 21 tag .noSuch ∧ s.Refuses decline l 22 tag .noSuch ∧
        s.Refuses withdraw l 23 tag .noSuch)) ∧
    ∀ e ∈ s.dct.entries, e.id = id →
      (s.Accepts l → l ≠ e.confirmer → s.Refuses decline l 22 tag .notAllowed) ∧
      (s.Accepts l → l ≠ e.proposer → s.Refuses withdraw l 23 tag .notAllowed) ∧
      (∀ src dst lines, e.proposal = .transfer src dst lines →
        (s.Accepts l → l = e.confirmer → ∃ t, exec decline s = .next t ∧
          s.Answered t l 22 tag true .ok [] { parts := [.dct], notices := [(.transferEnded, e.proposer)] } ∧
          t.dct = { s.dct with entries := left }) ∧
        (s.Accepts l → l = e.proposer → ∃ t, exec withdraw s = .next t ∧
          s.Answered t l 23 tag true .ok [] { parts := [.dct], notices := [(.transferEnded, e.confirmer)] } ∧
          t.dct = { s.dct with entries := left }) ∧
        ∃ t, exec (.expiry id) s = .next t ∧ t.dct = { s.dct with entries := left } ∧
          s.Event t { parts := [.dct], notices := [(.transferEnded, e.proposer), (.transferEnded, e.confirmer)] }) ∧
      ∀ n x, e.proposal = .override n x →
        let leaves (t : State) (o : OverrideOutcome) : Prop :=
          t.dct = { s.dct with entries := left, outcomes := s.dct.outcomes.set n o }
        (s.Accepts l → l = e.confirmer → ∃ t, exec decline s = .next t ∧ leaves t .declined ∧
          s.Answered t l 22 tag true .ok []
            { parts := [.dct], positions := [n], notices := [(.positionChanged, .sl), (.overrideFailed, .tl n)] } ∧
          (t.pos n).core = { s.heardPos l n with state := .serving }) ∧
        (s.Accepts l → l = e.proposer → ∃ t, exec withdraw s = .next t ∧ leaves t .withdrawn ∧
          s.Answered t l 23 tag true .ok []
            { parts := [.dct], positions := [n], notices := [(.positionChanged, .sl)] } ∧
          (t.pos n).core = { s.heardPos l n with state := .serving }) ∧
        ∃ t, exec (.expiry id) s = .next t ∧ leaves t .expired ∧
          s.Event t { parts := [.dct], positions := [n], notices := [(.positionChanged, .sl), (.overrideFailed, .tl n)] } ∧
          (t.pos n).core = { (s.pos n).core with state := .serving }

/-! ### Balancing, profiles and the journal's reading -/

/-- 06 R101, R107: BEGIN-BALANCE and REOPEN, judged and taken. -/
def Obligations.BeginBalanceAndReopenMoveThePosition : Prop :=
  ∀ (n : Fin 8) (tag : Byte) (s : State), s.Accepts (.tl n) →
    let b : Instr := .beginBalance (.tl n) tag []
    let r : Instr := .reopen (.tl n) tag []
    let named : Prop := ∃ e ∈ s.dct.entries, match e.proposal with
      | .transfer src dst _ => src = .drawer n ∨ dst = .drawer n
      | .override m _ => m = n
    (((s.pos n).state ≠ .ready ∨ named) → s.Refuses b (.tl n) 24 tag .wrongState) ∧
    ((s.pos n).state = .ready → ¬named → ∃ t, exec b s = .next t ∧
      s.Answered t (.tl n) 24 tag true .ok []
        { parts := [.bal], positions := [n], notices := [(.positionChanged, .sl)] } ∧
      t.bal = { s.bal with contexts := s.bal.contexts.set n { attempts := 0, declaration := none, difference := none } } ∧
      (s.pos n).Released (t.pos n) ∧ (t.pos n).core =
        { (s.pos n).core with state := .balancing, lock := (t.pos n).lock, window := (t.pos n).window, silence := 0 }) ∧
    ((s.pos n).state ≠ .balanced → s.Refuses r (.tl n) 26 tag .wrongState) ∧
    ((s.pos n).state = .balanced → ∃ t, exec r s = .next t ∧
      s.Answered t (.tl n) 26 tag true .ok [] { positions := [n], notices := [(.positionChanged, .sl)] } ∧
      (t.pos n).core = { (s.pos n).core with state := .ready, silence := 0 })

/-- 06 R102 to R105: DECLARE's checks, a declaration within tolerance, which becomes the drawer's holding with its difference
counted, and a miss, which changes the context alone. -/
def Obligations.DeclareAppliesACountOrCountsAMiss : Prop :=
  ∀ (n : Fin 8) (tag : Byte) (lines : List CountLine) (s : State), s.Accepts (.tl n) → lines.length ≤ 12 →
    (∀ x ∈ lines, x.slot < 256 ∧ x.count < 65536) →
    let c : Instr := .declare (.tl n) tag (lines.flatMap (fun x => be 1 x.slot ++ be 2 x.count))
    let may : Prop := (s.pos n).state = .balancing ∨ (s.pos n).state = .outOfBalance
    let sound : Prop := (∀ x ∈ lines, ∃ h : x.slot < 12, s.cash.faces.get ⟨x.slot, h⟩ ≠ none) ∧ (lines.map CountLine.slot).Nodup
    let counts : Vec 12 Nat := Vec.tab fun i =>
      match lines.find? (fun x => x.slot == i.val) with | some x => x.count | none => 0
    let total := worth s.cash.faces counts
    let d := total - (s.drawer n).total
    let within : Prop := d.natAbs ≤ s.day.tolerance
    let takes : Prop := (0 < d → s.cash.dayOver + d.natAbs ≤ 999999999999) ∧ (d < 0 → s.cash.dayShort + d.natAbs ≤ 999999999999)
    let k := (s.context n).attempts
    (¬may → s.Refuses c (.tl n) 25 tag .wrongState) ∧ (may → ¬sound → s.Refuses c (.tl n) 25 tag .breakdown) ∧
    (may → sound → 99999999999 < total → s.Refuses c (.tl n) 25 tag .range) ∧
    (may → sound → total ≤ 99999999999 → within → ¬takes → s.Refuses c (.tl n) 25 tag .range) ∧
    (may → sound → total ≤ 99999999999 → within → takes → ∃ t, exec c s = .next t ∧
      s.Answered t (.tl n) 25 tag true .ok
        ([0] ++ be 5 total.toNat ++ beInt 6 d ++ be 1 k ++ (if d = 0 then [1, 0, 0] else s.jnl.answered))
        { parts := [.cash, .jnl, .bal], positions := [n], notices := (.positionChanged, .sl) :: s.highJournal t } ∧
      t.cash = { s.cash with
        drawers := s.cash.drawers.set n { counts := counts, unitemized := 0, total := total }
        dayOver := if 0 < d then s.cash.dayOver + d.natAbs else s.cash.dayOver
        dayShort := if d < 0 then s.cash.dayShort + d.natAbs else s.cash.dayShort
        high := s.cash.high.set n (highAfter (s.cash.high.get n) false s.day.drawerMax total) } ∧
      t.jnl = (if d = 0 then s.jnl else s.jnl.withSystem s.day.seconds
        (Record.plain (if 0 < d then .cashOver else .cashShort) (.position n) ((s.pos n).teller.getD 0) d.natAbs)) ∧
      t.bal.contexts = s.bal.contexts.set n { attempts := k, declaration := some counts, difference := some d } ∧
      t.bal.profiles = s.bal.profiles.set n { s.profile n with
        overSum := if 0 < d then (s.profile n).overSum + d.natAbs else (s.profile n).overSum
        shortSum := if d < 0 then (s.profile n).shortSum + d.natAbs else (s.profile n).shortSum } ∧
      (t.pos n).core = { (s.pos n).core with state := .balanced, silence := 0 }) ∧
    (may → sound → total ≤ 99999999999 → ¬within → ∃ t, exec c s = .next t ∧
      s.Answered t (.tl n) 25 tag true .ok
        ((if k + 1 < 3 then [1] else [2]) ++ be 5 total.toNat ++ beInt 6 d ++ be 1 (k + 1) ++ [1, 0, 0])
        { parts := [.bal], positions := [n]
          notices := if (t.pos n).state = (s.pos n).state then [] else [(.positionChanged, .sl)] } ∧
      t.bal = { s.bal with contexts := s.bal.contexts.set n ⟨k + 1, some counts, some d⟩ } ∧
      (t.pos n).core =
        { (s.pos n).core with state := if k + 1 < 3 then .outOfBalance else .forceWait, silence := 0 })

/-- 06 R106: FORCE-BALANCE's checks, and one taken: the last declaration is applied as if it were within tolerance, the
attempt count kept. -/
def Obligations.ForceBalanceAppliesTheLastDeclaration : Prop :=
  ∀ (n : Fin 8) (tag : Byte) (counts : Vec 12 Nat) (s : State), s.Accepts .sl →
    let c : Instr := .forceBalance .sl tag (be 1 n.val)
    let total := worth s.cash.faces counts
    let d := total - (s.drawer n).total
    let takes : Prop := (0 < d → s.cash.dayOver + d.natAbs ≤ 999999999999) ∧ (d < 0 → s.cash.dayShort + d.natAbs ≤ 999999999999)
    (∀ v, 8 ≤ v → v < 256 → s.Refuses (.forceBalance .sl tag (be 1 v)) .sl 27 tag .badForm) ∧
    ((s.pos n).state ≠ .forceWait → s.Refuses c .sl 27 tag .wrongState) ∧
    ((s.pos n).state = .forceWait → (s.context n).declaration = some counts → ¬takes → s.Refuses c .sl 27 tag .range) ∧
    ((s.pos n).state = .forceWait → (s.context n).declaration = some counts → takes → ∃ t, exec c s = .next t ∧
      s.Answered t .sl 27 tag true .ok (beInt 6 d ++ (if d = 0 then [1, 0, 0] else s.jnl.answered))
        { parts := [.cash, .jnl, .bal], positions := [n], notices := (.positionChanged, .sl) :: s.highJournal t } ∧
      t.cash = { s.cash with
        drawers := s.cash.drawers.set n { counts := counts, unitemized := 0, total := total }
        dayOver := if 0 < d then s.cash.dayOver + d.natAbs else s.cash.dayOver
        dayShort := if d < 0 then s.cash.dayShort + d.natAbs else s.cash.dayShort
        high := s.cash.high.set n (highAfter (s.cash.high.get n) false s.day.drawerMax total) } ∧
      t.jnl = (if d = 0 then s.jnl else s.jnl.withSystem s.day.seconds
        (Record.plain (if 0 < d then .cashOver else .cashShort) (.position n) ((s.pos n).teller.getD 0) d.natAbs)) ∧
      t.bal.contexts = s.bal.contexts.set n
        { attempts := (s.context n).attempts, declaration := some counts, difference := some d } ∧
      t.bal.profiles = s.bal.profiles.set n { s.profile n with
        overSum := if 0 < d then (s.profile n).overSum + d.natAbs else (s.profile n).overSum
        shortSum := if d < 0 then (s.profile n).shortSum + d.natAbs else (s.profile n).shortSum } ∧
      (t.pos n).core = { (s.pos n).core with state := .balanced })

/-- 06 R110, R111: VAULT-DECLARE's checks in their order, and one taken: the count becomes the vault's holding, the whole
difference is counted, and its two records are asked for in their order. -/
def Obligations.VaultDeclareCountsTheVault : Prop :=
  ∀ (tag : Byte) (lines : List CountLine) (s : State), s.Accepts .sl → lines.length ≤ 12 →
    (∀ x ∈ lines, x.slot < 256 ∧ x.count ≤ 16777215) →
    let c : Instr := .vaultDeclare .sl tag (lines.flatMap (fun x => be 1 x.slot ++ be 3 x.count))
    let open_ : Prop := s.day.state = .opened ∨ s.day.state = .cutoff
    let sound : Prop := (∀ x ∈ lines, ∃ h : x.slot < 12, s.cash.faces.get ⟨x.slot, h⟩ ≠ none) ∧ (lines.map CountLine.slot).Nodup
    let counts : Vec 12 Nat := Vec.tab fun i =>
      match lines.find? (fun x => x.slot == i.val) with | some x => x.count | none => 0
    let total := worth s.cash.faces counts
    let d := total - s.cash.vault.total
    let takes : Prop := (0 < d → s.cash.dayOver + d.natAbs ≤ 999999999999) ∧ (d < 0 → s.cash.dayShort + d.natAbs ≤ 999999999999)
    let counted := s.jnl.withSystem s.day.seconds (Record.plain .vaultCount .vault 0 total.toNat)
    (¬open_ → s.Refuses c .sl 28 tag .dayState) ∧ (open_ → ¬sound → s.Refuses c .sl 28 tag .breakdown) ∧
    (open_ → sound → ¬(total ≤ 99999999999 ∧ takes) → s.Refuses c .sl 28 tag .range) ∧
    (open_ → sound → total ≤ 99999999999 → takes → ∃ t, exec c s = .next t ∧
      s.Answered t .sl 28 tag true .ok
        (be 5 total.toNat ++ beInt 6 d ++ s.jnl.answered ++ (if d = 0 then [1, 0, 0] else counted.answered))
        { parts := [.cash, .jnl], notices := s.highJournal t } ∧
      t.cash = { s.cash with
        vault := { counts := counts, unitemized := 0, total := total }
        dayOver := if 0 < d then s.cash.dayOver + d.natAbs else s.cash.dayOver
        dayShort := if d < 0 then s.cash.dayShort + d.natAbs else s.cash.dayShort } ∧
      t.jnl = (if d = 0 then counted else counted.withSystem s.day.seconds
        (Record.plain (if 0 < d then .cashOver else .cashShort) .vault 0 d.natAbs)))

/-- 06 R116, R117, 11 R199: READ-PROFILE returns every item of the profile, its average rounded half up, and no data where no
transaction was counted. -/
def Obligations.ReadProfileReturnsTheProfile : Prop :=
  ∀ (n : Fin 8) (tag : Byte) (s : State), s.Accepts .sl →
    let f := s.profile n
    f.transactions ≤ 65535 → f.serviceSum ≤ 99999999999 → f.serviceMin ≤ f.serviceMax → f.serviceMax ≤ 999999 →
    f.serviceSum ≤ f.serviceMax * f.transactions → f.postings ≤ 65535 → f.cashIn ≤ 999999999999 → f.cashOut ≤ 999999999999 →
    f.largest ≤ 9999999999 → f.overrides ≤ 65535 → f.overSum ≤ 999999999999 → f.shortSum ≤ 999999999999 →
    (∀ v, 8 ≤ v → v < 256 → s.Refuses (.readProfile .sl tag (be 1 v)) .sl 29 tag .badForm) ∧
    ∃ t r, exec (.readProfile .sl tag (be 1 n.val)) s = .next t ∧ s.Answered t .sl 29 tag false .ok r {} ∧ r.length = 46 ∧
      field r 0 2 = f.transactions ∧ field r 2 5 = f.serviceSum ∧
      field r 7 3 = (if f.transactions = 0 then 0 else f.serviceMin) ∧
      field r 10 3 = (if f.transactions = 0 then 0 else f.serviceMax) ∧
      field r 13 3 = (if f.transactions = 0 then 0 else (2 * f.serviceSum + f.transactions) / (2 * f.transactions)) ∧
      (field r 16 1 = 1 ↔ f.transactions = 0) ∧ field r 17 2 = f.postings ∧ field r 19 5 = f.cashIn ∧
      field r 24 5 = f.cashOut ∧ field r 29 5 = f.largest ∧ field r 34 2 = f.overrides ∧ field r 36 5 = f.overSum ∧
      field r 41 5 = f.shortSum

/-- 07 R130, 11 R199, R200: READ-JOURNAL refuses a start outside 1 to 4,096 with RANGE, and otherwise returns up to five
records from the start, each with every field and mark, whether more follow, and the journal's figures; it changes no
state. -/
def Obligations.ReadJournalReturnsFiveRecords : Prop :=
  ∀ (start : Nat) (tag : Byte) (s : State), s.Accepts .sl → start < 65536 → s.jnl.records.length ≤ 4096 →
    s.jnl.records.map Record.seq = List.range' 1 s.jnl.records.length → s.jnl.next = s.jnl.records.length + 1 →
    s.jnl.unjournaled ≤ 65535 → s.jnl.carry.length ≤ 512 →
    let c : Instr := .readJournal .sl tag (be 2 start)
    let held := s.jnl.records.length
    (¬(1 ≤ start ∧ start ≤ 4096) → s.Refuses c .sl 30 tag .range) ∧
    (1 ≤ start → start ≤ 4096 → ∃ t r, exec c s = .next t ∧ s.Answered t .sl 30 tag false .ok r {} ∧
      field r 0 1 = min 5 (held + 1 - start) ∧ (field r 1 1 = 1 ↔ start + 5 ≤ held) ∧ field r 2 2 = held ∧
      field r 4 2 = (s.jnl.records.filter (fun x => x.kind.customer)).length ∧ field r 6 2 = s.jnl.next ∧
      field r 8 2 = s.jnl.unjournaled ∧ (field r 10 1 = 1 ↔ s.jnl.spent = true) ∧ field r 11 2 = s.jnl.carry.length ∧
      r.length = 13 + 31 * min 5 (held + 1 - start) ∧
      r.drop 13 = ((s.jnl.records.drop (start - 1)).take 5).flatMap (fun x => x.shown ++ x.marksShown) ∧
      ∀ k x, k < 5 → s.jnl.records[start - 1 + k]? = some x → field r (13 + 31 * k) 2 = x.seq ∧
        (x.time ≤ 86399 → field r (15 + 31 * k) 3 = x.time) ∧ field r (21 + 31 * k) 1 = x.kind.num ∧
        (x.amount ≤ 99999999999 → field r (22 + 31 * k) 5 = x.amount) ∧
        (x.account.getD 0 ≤ 999999999999 → field r (27 + 31 * k) 5 = x.account.getD 0) ∧
        (field r (39 + 31 * k) 1 = 1 ↔ x.pending = true) ∧ (field r (40 + 31 * k) 1 = 1 ↔ x.sent = true))

/-! ### Passbook printers -/

/-- 08 R139, R140: assignment. Jobs leave the queue oldest first; a job left waiting has no free printer that it may use; a
printer changes only by taking a waiting job whose page lies in the book; the oldest job that may use a free printer takes
its home printer before the other, or ends BOOK-FULL. That such a result names the printer, and the page and line as that
printer would have taken them, is the model's reading (DEDUCED, log 15). -/
def Obligations.WaitingJobsAreTakenOldestFirst : Prop :=
  ∀ s : State, (s.pbu.queue.map Job.position).Nodup →
    let t := s.assign
    let free (u : State) (p : Fin 2) : Prop := (u.printer p).state = .idle ∧ (u.printer p).book = false
    let may (j : Job) (p : Fin 2) : Prop := s.settings.home.get j.position = p ∨ s.settings.sharing = true
    let c := s.settings
    let latched (j : Job) (p : Fin 2) : Job := { j with
      printer := some p, geometry := some ⟨c.linesPerPage, c.pagesPerBook, c.linePitch, c.topMargin⟩
      line := if c.linesPerPage < j.line then 1 else j.line
      page := if c.linesPerPage < j.line then j.page + 1 else j.page }
    let takes (j : Job) (p : Fin 2) : Prop :=
      t.printer p = { s.printer p with state := .waitBook, job := some (latched j p), timer := some 6000 }
    t.pbu.queue.Sublist s.pbu.queue ∧ (∀ j ∈ t.pbu.queue, ∀ p, free t p → ¬may j p) ∧
    (∀ p, t.printer p = s.printer p ∨
      free s p ∧ ∃ j ∈ s.pbu.queue, may j p ∧ (latched j p).page ≤ c.pagesPerBook ∧ takes j p) ∧
    ∀ before j after p, s.pbu.queue = before ++ j :: after → (∀ k ∈ before, ∀ q, free s q → ¬may k q) → free s p →
      (c.home.get j.position = p ∨ c.sharing = true ∧ ¬free s (c.home.get j.position)) →
      ((latched j p).page ≤ c.pagesPerBook → takes j p) ∧
      (c.pagesPerBook < (latched j p).page → j ∉ t.pbu.queue ∧ t.pbu.results.get j.position =
        ⟨.bookFull, some p, none, j.account, j.items.length, j.more, j.printed, (latched j p).page, (latched j p).line,
         j.balance, !j.overflow⟩)

/-- 08 R137, R138, R140, 07 R126: PRINT-BOOK's checks in their order, and one taken: up to 64 eligible items are claimed, carry
items before records, each in its order, and the job goes to its home printer, to the other, or behind the jobs waiting. -/
def Obligations.PrintBookGathersAndQueuesAJob : Prop :=
  ∀ (n : Fin 8) (tag : Byte) (account page line : Nat) (balance : Int) (s : State), s.Accepts (.tl n) →
    account < 256 ^ 5 → page < 256 → line < 256 → -549755813888 ≤ balance → balance < 549755813888 →
    (∀ j ∈ s.pbu.queue, ∀ q, (s.printer q).state = .idle → (s.printer q).book = false →
      s.settings.home.get j.position ≠ q ∧ s.settings.sharing = false) →
    let c : Instr := .printBook (.tl n) tag (be 5 account ++ be 1 page ++ be 1 line ++ beInt 5 balance)
    let may : Prop := (s.pos n).state = .ready ∨ (s.pos n).state = .serving
    let busy : Prop := (∃ j ∈ s.pbu.queue, j.position = n) ∨ ∃ p j, (s.printer p).job = some j ∧ j.position = n
    let g := s.settings
    let inRange : Prop := (1 ≤ account ∧ account ≤ 999999999999) ∧ (1 ≤ page ∧ page ≤ g.pagesPerBook) ∧
      (1 ≤ line ∧ line ≤ g.linesPerPage) ∧ -99999999999 ≤ balance ∧ balance ≤ 99999999999
    let carryFits (i : CarryItem) : Bool := i.account == account && i.heldBy == none
    let recordFits (r : Record) : Bool := r.pending && r.claimed == none && r.account == some account
    let carries := s.jnl.carry.filter carryFits
    let records := s.jnl.records.filter recordFits
    let count := carries.length + records.length
    let room := 64 - min 64 carries.length
    let job : Job :=
      { position := n, account := account
        items := List.replicate (min 64 carries.length) .carry ++ (records.take room).map (fun r => .record r.seq)
        more := decide (64 < count), next := 1, page := page, line := line, balance := balance, overflow := false
        printed := 0, printer := none, geometry := none }
    let free (p : Fin 2) : Prop := (s.printer p).state = .idle ∧ (s.printer p).book = false
    let on (t : State) (p : Fin 2) : Prop := t.pbu = { s.pbu with
      printers := s.pbu.printers.set p { s.printer p with
        state := .waitBook, timer := some 6000
        job := some { job with
          printer := some p, geometry := some ⟨g.linesPerPage, g.pagesPerBook, g.linePitch, g.topMargin⟩ } } }
    let home := g.home.get n
    let other : Fin 2 := if home = 0 then 1 else 0
    (¬may → s.Refuses c (.tl n) 31 tag .wrongState) ∧ (may → busy → s.Refuses c (.tl n) 31 tag .printActive) ∧
    (may → ¬busy → ¬inRange → s.Refuses c (.tl n) 31 tag .range) ∧
    (may → ¬busy → inRange → count = 0 → s.Refuses c (.tl n) 31 tag .noItems) ∧
    (may → ¬busy → inRange → count ≠ 0 → ∃ t, exec c s = .next t ∧
      s.Answered t (.tl n) 31 tag true .queued [BitVec.ofNat 8 (min 64 count), if 64 < count then 1 else 0]
        { parts := [.jnl, .pbu] } ∧
      t.jnl = { s.jnl with
        carry := s.jnl.carry.zipIdx.map (fun (x, i) =>
          if carryFits x ∧ ((s.jnl.carry.take i).filter carryFits).length < 64 then { x with heldBy := some n } else x)
        records := s.jnl.records.zipIdx.map (fun (r, i) =>
          if recordFits r ∧ ((s.jnl.records.take i).filter recordFits).length < room then { r with claimed := some n } else r) } ∧
      (free home → on t home) ∧ (¬free home → g.sharing = true → free other → on t other) ∧
      (¬free home → ¬(g.sharing = true ∧ free other) → t.pbu = { s.pbu with queue := s.pbu.queue ++ [job] }))

/-- 08 R139, R155, R158, R160, R161: CANCEL-PRINT ends the position's job CANCELLED, queued or running, its printer going on
by R160's table; PRINTER-SERVICE takes a printer out of service, ending its job the same way, puts it back, and clears its
FAULT. A printer that becomes free is judged for the waiting jobs. That a book kept at a CLEAR or a cancel in CONFIRMING has
its 30 s and BOOK-LEFT given No afresh, and that an eject from a count below 0 runs forward, are the model's readings
(DEDUCED, logs 25, 34). -/
def Obligations.CancelPrintAndPrinterService : Prop :=
  ∀ (n : Fin 8) (p : Fin 2) (tag : Byte) (s : State), s.pbu.jobPositions.Nodup →
    let cancel : Instr := .cancelPrint (.tl n) tag []
    let offline : Instr := .printerServiceOffline .sl tag (BitVec.ofNat 8 p.val)
    let online : Instr := .printerServiceOnline .sl tag (BitVec.ofNat 8 p.val)
    let clear : Instr := .printerServiceClear .sl tag (BitVec.ofNat 8 p.val)
    let r := s.printer p
    let serves (c : Instr) (q : Printer) (ends : State → Prop) (change : Change) : Prop := ∃ t, exec c s = .next t ∧
      s.Answered t .sl 33 tag true .ok [BitVec.ofNat 8 q.state.num, BitVec.ofNat 8 (faultNum q.fault)] change ∧ ends t ∧
      t.pbu.printers = s.pbu.printers.set p q ∧ t.pbu.queue = s.pbu.queue
    let hands (c : Instr) (l : Link) (kind : Byte) (rest : Printer → Bytes) (ended : Option JobEnd) (q : Printer) : Prop :=
      ∃ t, exec c s = .next t ∧ s.Keeps t { parts := [.pbu, .jnl] } ∧ s.Replied t l kind tag true .ok (rest (t.printer p)) ∧
        (∀ k, k ≠ l → s.SameLink t k) ∧ (∀ m, (t.pos m).core = s.heardPos l m) ∧ s.Shows t ∧ s.Leaves t ended p q
    let service (c : Instr) (q : Printer) : Prop :=
      hands c .sl 33 (fun x => [BitVec.ofNat 8 x.state.num, BitVec.ofNat 8 (faultNum x.fault)]) none q
    let stays (t : State) : Prop := t.pbu.results = s.pbu.results ∧ t.pbu.seeTeller = s.pbu.seeTeller
    (s.Accepts (.tl n) → (∀ j ∈ s.pbu.queue, j.position ≠ n) → (∀ q j, (s.printer q).job = some j → j.position ≠ n) →
      s.Refuses cancel (.tl n) 32 tag .noSuch) ∧
    (s.Accepts (.tl n) → ∀ j ∈ s.pbu.queue, j.position = n → ∃ t, exec cancel s = .next t ∧
      s.Answered t (.tl n) 32 tag true .ok [] { parts := [.pbu, .jnl], notices := [(.printEnded, .tl n)] } ∧
      s.JobEnds t j .cancelled none none ∧ t.pbu.printers = s.pbu.printers ∧
      t.pbu.queue = s.pbu.queue.filter (fun k => k.position != n)) ∧
    (s.Accepts (.tl n) → ∀ j, r.job = some j → j.position = n →
      (r.state ∈ [.waitBook, .pageTurn] → r.online = true → r.book = false → s.QueueStays p) → ∃ t, exec cancel s = .next t ∧
      s.Answered t (.tl n) 32 tag true .ok [] { parts := [.pbu, .jnl], notices := [(.printEnded, .tl n)] } ∧
      s.JobEnds t j .cancelled (some p) none ∧ t.pbu.printers = s.pbu.printers.set p (r.afterCancel n) ∧
      t.pbu.queue = s.pbu.queue) ∧
    (s.Accepts (.tl n) → r.state ≠ .idle → ∀ j, r.job = some j → j.position = n →
      hands cancel (.tl n) 32 (fun _ => []) (some ⟨j, .cancelled, some p, none⟩) (r.afterCancel n)) ∧
    (s.Accepts .sl → ∀ v : Byte, 2 ≤ v.toNat → s.Refuses (.printerServiceOffline .sl tag v) .sl 33 tag .badForm ∧
      s.Refuses (.printerServiceOnline .sl tag v) .sl 33 tag .badForm ∧
      s.Refuses (.printerServiceClear .sl tag v) .sl 33 tag .badForm) ∧
    (s.Accepts .sl → r.online = false → serves offline r stays {}) ∧
    (s.Accepts .sl → r.online = true → r.job = none →
      serves offline { r with online := false, state := if r.state = .idle then .offline else r.state } stays { parts := [.pbu] }) ∧
    (s.Accepts .sl → r.online = true → ∀ j, r.job = some j →
      serves offline ({ r with online := false }.afterCancel j.position) (fun t => s.JobEnds t j .cancelled (some p) none)
        { parts := [.pbu, .jnl], notices := [(.printEnded, .tl j.position)] }) ∧
    (s.Accepts .sl → r.state ≠ .offline → serves online { r with online := true } stays { parts := [.pbu] }) ∧
    (s.Accepts .sl → r.state = .offline → (r.book = false → s.QueueStays p) →
      serves online { r with online := true, state := .idle } stays { parts := [.pbu] }) ∧
    (s.Accepts .sl → r.state = .offline → service online { r with online := true, state := .idle }) ∧
    (s.Accepts .sl → r.state ≠ .fault → s.Refuses clear .sl 33 tag .wrongState) ∧
    (s.Accepts .sl → r.state = .fault → r.book = true →
      serves clear ({ r with fault := none }.keepsBook none) stays { parts := [.pbu] }) ∧
    (s.Accepts .sl → r.state = .fault → r.book = false → (r.online = true → s.QueueStays p) →
      serves clear { r with fault := none }.rested stays { parts := [.pbu] }) ∧
    (s.Accepts .sl → r.state = .fault → r.book = false → service clear { r with fault := none }.rested)

/-- 08 R139, R142, R144, R145, R153 to R156: a book put in and a book taken out, in every state of the printer; a printer that
becomes free is judged for the waiting jobs. An insertion or a removal is granted as the command gives it (log 4). -/
def Obligations.InsertionAndRemovalMoveThePrinter : Prop :=
  ∀ (p : Fin 2) (s : State), s.alive = true →
    let r := s.printer p
    let here : Printer := { r with book := true, input := true }
    let gone : Printer := { r with book := false, input := false }
    let becomes (c : Instr) (q : Printer) : Prop := ∃ t, exec c s = .next t ∧ s.Event t { parts := [.pbu] } ∧
      t.pbu = { s.pbu with printers := s.pbu.printers.set p q }
    let ends (c : Instr) (j : Job) (o : PrintOutcome) (q : Printer) : Prop := ∃ t, exec c s = .next t ∧
      s.Event t { parts := [.pbu, .jnl], notices := [(.printEnded, .tl j.position)] } ∧ s.JobEnds t j o (some p) none ∧
      t.pbu.printers = s.pbu.printers.set p q ∧ t.pbu.queue = s.pbu.queue
    let hands (ended : Option JobEnd) (q : Printer) : Prop := ∃ t, exec (.removal p) s = .next t ∧
      s.Keeps t { parts := [.pbu, .jnl] } ∧ (∀ l, s.SameLink t l) ∧ (∀ m, (t.pos m).core = (s.pos m).core) ∧ s.Shows t ∧
      s.Leaves t ended p q
    let confirming (back : ConfirmReturn) : Printer :=
      { here.halt with state := .confirming, confirmReturn := some back, timer := some 20 }
    let frees : Prop := r.online = true → s.QueueStays p
    (r.book = true → ∃ t, exec (.insertion p) s = .next t ∧ s.Event t {}) ∧
    (r.book = false → r.state = .waitBook → becomes (.insertion p) (confirming .waitBook)) ∧
    (r.book = false → r.state = .pageTurn → becomes (.insertion p) (confirming .pageTurn)) ∧
    (r.book = false → r.state ≠ .waitBook → r.state ≠ .pageTurn → becomes (.insertion p) here) ∧
    (r.book = false → ∃ t, exec (.removal p) s = .next t ∧ s.Event t {}) ∧
    (r.book = true → r.state = .idle → hands none gone ∧ (s.QueueStays p → becomes (.removal p) gone)) ∧
    (r.book = true → r.state = .confirming → becomes (.removal p) { gone.halt with
      timer := some 6000, state := if r.confirmReturn = some .pageTurn then .pageTurn else .waitBook }) ∧
    (r.book = true → r.state ∈ [.aligning, .striking, .feeding] → ∀ j, r.job = some j →
      hands (some ⟨j, .incomplete, some p, none⟩) gone.rested ∧ (frees → ends (.removal p) j .incomplete gone.rested)) ∧
    (r.book = true → r.state ∈ [.ejecting, .waitRemoval] →
      let kept : Printer := { gone with bookLeft := if r.state = .ejecting then false else r.bookLeft }
      (r.job = none → hands none kept.rested ∧ (frees → becomes (.removal p) kept.rested)) ∧
      (∀ j, r.job = some j → r.stage = some .final → hands (some ⟨j, .done, some p, none⟩) kept.rested ∧
        (frees → ends (.removal p) j .done kept.rested)) ∧
      ∀ j g, r.job = some j → r.stage ≠ some .final → j.geometry = some g →
        (j.page ≤ g.pagesPerBook → becomes (.removal p) { gone.halt with state := .pageTurn, timer := some 6000 }) ∧
        (g.pagesPerBook < j.page → hands (some ⟨j, .bookFull, some p, none⟩) kept.rested ∧
          (frees → ends (.removal p) j .bookFull kept.rested))) ∧
    (r.book = true → r.state ∈ [.waitBook, .pageTurn, .fault, .offline] → becomes (.removal p) gone)

/-- 08 R139, R144, R145, R147, R150, R153, R155, R157, R163: a printer's times that run out, each in the state it belongs to and
without effect in every other: the wait for a book, the confirmation, the feed, the strike and the stay of a left book;
and the end of a position's see-teller time; a printer that becomes free is judged for the waiting jobs. A time's end given
early ends it (log 3). -/
def Obligations.PrinterTimesEnd : Prop :=
  ∀ (p : Fin 2) (s : State), s.alive = true →
    let r := s.printer p
    let idles (c : Instr) : Prop := ∃ t, exec c s = .next t ∧ s.Event t {}
    let becomes (c : Instr) (q : Printer) (notices : List (Notice × Link)) : Prop := ∃ t, exec c s = .next t ∧
      s.Event t { parts := [.pbu], notices := notices } ∧ t.pbu = { s.pbu with printers := s.pbu.printers.set p q }
    let ends (c : Instr) (j : Job) (o : PrintOutcome) (cause : Option FaultCause) (q : Printer) (more : List (Notice × Link)) :
        Prop := ∃ t, exec c s = .next t ∧
      s.Event t { parts := [.pbu, .jnl], notices := (.printEnded, .tl j.position) :: more } ∧
      s.JobEnds t j o (some p) cause ∧ t.pbu.printers = s.pbu.printers.set p q ∧ t.pbu.queue = s.pbu.queue
    let hands (c : Instr) (j : Job) (o : PrintOutcome) : Prop := ∃ t, exec c s = .next t ∧
      s.Keeps t { parts := [.pbu, .jnl] } ∧ (∀ l, s.SameLink t l) ∧ (∀ m, (t.pos m).core = (s.pos m).core) ∧ s.Shows t ∧
      s.Leaves t (some ⟨j, o, some p, none⟩) p r.rested
    let faulted (cause : FaultCause) : Printer := { r.halt with state := .fault, fault := some cause, job := none, leftBy := none }
    let frees : Prop := r.online = true → r.book = false → s.QueueStays p
    let feeds : Prop := r.target ≠ none ∧ r.state ∈ [.aligning, .feeding, .ejecting]
    (r.state ≠ .waitBook → idles (.noBook p)) ∧
    (r.state = .waitBook → ∀ j, r.job = some j →
      hands (.noBook p) j .noBook ∧ (frees → ends (.noBook p) j .noBook none r.rested [])) ∧
    (r.state ≠ .pageTurn → idles (.pageTimeout p)) ∧
    (r.state = .pageTurn → ∀ j, r.job = some j →
      hands (.pageTimeout p) j .pageTimeout ∧ (frees → ends (.pageTimeout p) j .pageTimeout none r.rested [])) ∧
    (r.state ≠ .confirming → idles (.bookConfirmed p)) ∧
    (r.state = .confirming → ∀ j g, r.job = some j → j.geometry = some g →
      let target := g.topMargin + (j.line - 1) * g.linePitch
      (target ≠ 0 → becomes (.bookConfirmed p) ({ r.halt with count := 0 }.fed .aligning target) []) ∧
      (target = 0 → ∀ v, s.nextItem j = some v →
        becomes (.bookConfirmed p) ({ r with count := 0 }.strikes (lineShown s.day.minorDigits j v)) [])) ∧
    (¬feeds → idles (.jam p)) ∧
    (feeds → r.job = none → becomes (.jam p) (faulted .jam) [(.printerFault, .sl)]) ∧
    (feeds → ∀ j, r.job = some j → ends (.jam p) j .faulted (some .jam) (faulted .jam) [(.printerFault, .sl)]) ∧
    (r.state ≠ .striking → idles (.strikeTimeEnd p)) ∧
    (r.state = .striking → ∀ j, r.job = some j →
      ends (.strikeTimeEnd p) j .faulted (some .head) (faulted .head) [(.printerFault, .sl)]) ∧
    (¬(r.state = .waitRemoval ∧ r.book = true ∧ r.timer ≠ none) → idles (.bookLeft p)) ∧
    (r.state = .waitRemoval → r.book = true → r.timer ≠ none →
      becomes (.bookLeft p) { r with bookLeft := true, timer := none } (match r.job, r.leftBy with
        | some j, _ => [(.bookLeft, .tl j.position)]
        | none, some n => [(.bookLeft, .tl n)]
        | none, none => [])) ∧
    ∀ n, ∃ t, exec (.seeTellerTimeEnd n) s = .next t ∧ s.Event t { parts := [.pbu] } ∧
      t.pbu = { s.pbu with seeTeller := s.pbu.seeTeller.set n none }

/-- 08 R143, R146, R147, R154: an encoder step counts while a book is present and in FAULT, within the encoder's bounds;
in a feed it ends the feed at the target, faults the printer at a slip of three, and otherwise moves the furthest count.
Where the encoder counts is the model's reading (log 17). -/
def Obligations.EncoderStepsCountAndEndFeeds : Prop :=
  ∀ (p : Fin 2) (way : Direction) (s : State), s.alive = true →
    let r := s.printer p
    let e : Instr := .encoderStep p way
    let c : Int := match way with
      | .forward => if r.count < 2047 then r.count + 1 else r.count
      | .reverse => if -1024 < r.count then r.count - 1 else r.count
    let becomes (q : Printer) (notices : List (Notice × Link)) : Prop := ∃ t, exec e s = .next t ∧
      s.Event t { parts := [.pbu], notices := notices } ∧ t.pbu = { s.pbu with printers := s.pbu.printers.set p q }
    let ends (j : Job) (o : PrintOutcome) (cause : Option FaultCause) (q : Printer) (more : List (Notice × Link)) : Prop :=
      ∃ t, exec e s = .next t ∧ s.Event t { parts := [.pbu, .jnl], notices := (.printEnded, .tl j.position) :: more } ∧
        s.JobEnds t j o (some p) cause ∧ t.pbu.printers = s.pbu.printers.set p q ∧ t.pbu.queue = s.pbu.queue
    (r.book = false → r.state ≠ .fault → ∃ t, exec e s = .next t ∧ s.Event t {}) ∧
    (r.book = true ∨ r.state = .fault → (r.target = none ∨ r.state ∉ [.aligning, .feeding, .ejecting]) →
      becomes { r with count := c } []) ∧
    ∀ target far d, r.book = true → r.state ∈ [.aligning, .feeding, .ejecting] → r.target = some target →
      r.furthest = some far → r.direction = some d →
      let further := match d with | .forward => max far c | .reverse => min far c
      let behind := match d with | .forward => further - c | .reverse => c - further
      let q : Printer := { r with count := c, furthest := some further }
      let faulted : Printer := { q.halt with state := .fault, fault := some .slip, job := none, leftBy := none }
      (c ≠ target → behind < 3 → becomes q []) ∧
      (c ≠ target → 3 ≤ behind → r.job = none → becomes faulted [(.printerFault, .sl)]) ∧
      (c ≠ target → 3 ≤ behind → ∀ j, r.job = some j →
        ends j .faulted (some .slip) faulted [(.printerFault, .sl)]) ∧
      (c = target → r.state ≠ .ejecting → ∀ j v, r.job = some j → s.nextItem j = some v →
        becomes (q.strikes (lineShown s.day.minorDigits j v)) []) ∧
      (c = target → r.state = .ejecting → r.job = none → becomes (q.keepsBook r.leftBy) []) ∧
      (c = target → r.state = .ejecting → ∀ j g, r.job = some j → j.geometry = some g →
        (r.stage = some .final →
          becomes { q.halt with state := .waitRemoval, stage := some .final, bookLeft := false, timer := some 3000 } []) ∧
        (r.stage ≠ some .final → j.page ≤ g.pagesPerBook →
          becomes { q.halt with state := .waitRemoval, stage := some .pageEnd } []) ∧
        (r.stage ≠ some .final → g.pagesPerBook < j.page → ends j .bookFull none (q.keepsBook (some j.position)) []))

/-- 07 R127, 08 R149 to R152: a strike done prints the next item at its page and line, moves the balance, the line and the
page, and then ejects for the last item or the end of the page, or feeds to the next line; done in another state it is
ignored. That an eject from a count below 0 runs forward is the model's reading (DEDUCED, log 34). -/
def Obligations.StrikeDonePrintsTheItem : Prop :=
  ∀ (p : Fin 2) (s : State), s.alive = true →
    let r := s.printer p
    (r.state ≠ .striking → ∃ t, exec (.strikeDone p) s = .next t ∧ s.Event t {}) ∧
    ∀ j g v, r.state = .striking → r.job = some j → j.geometry = some g → s.nextItem j = some v → 1 ≤ j.line →
      let last : Prop := g.linesPerPage ≤ j.line
      let struck : Job := { j with
        printed := j.printed + 1, next := j.next + 1, balance := if j.outOfField v then j.balance else j.afterLine v
        overflow := j.outOfField v, line := if last then 1 else j.line + 1, page := if last then j.page + 1 else j.page }
      let jnl : Journal := match j.items[j.next - 1]? with
        | some (.record q) => { s.jnl with records := s.jnl.records.map (fun x =>
            if x.seq = q then { x with pending := false, printed := some (j.page, j.line) } else x) }
        | _ => { s.jnl with carry := s.jnl.carry.eraseP (fun x => x.heldBy == some j.position) }
      let q : Printer := { r.halt with job := some struck }
      let becomes (q : Printer) : Prop := ∃ t, exec (.strikeDone p) s = .next t ∧ s.Event t { parts := [.pbu, .jnl] } ∧
        t.jnl = jnl ∧ t.pbu = { s.pbu with printers := s.pbu.printers.set p q }
      let next : Int := ((g.topMargin + j.line * g.linePitch : Nat) : Int)
      (j.items.length ≤ j.next → r.count ≠ 0 → becomes ({ q with stage := some .final }.fed .ejecting 0)) ∧
      (j.items.length ≤ j.next → r.count = 0 →
        becomes { q with state := .waitRemoval, stage := some .final, bookLeft := false, timer := some 3000 }) ∧
      (j.next < j.items.length → last → r.count ≠ 0 → becomes ({ q with stage := some .pageEnd }.fed .ejecting 0)) ∧
      (j.next < j.items.length → last → r.count = 0 → struck.page ≤ g.pagesPerBook →
        becomes { q with state := .waitRemoval, stage := some .pageEnd }) ∧
      (j.next < j.items.length → last → r.count = 0 → g.pagesPerBook < struck.page → ∃ t, exec (.strikeDone p) s = .next t ∧
        s.Event t { parts := [.pbu, .jnl], notices := [(.printEnded, .tl j.position)] } ∧
        { s with jnl := jnl }.JobEnds t struck .bookFull (some p) none ∧
        t.pbu.printers = s.pbu.printers.set p (q.keepsBook (some j.position)) ∧ t.pbu.queue = s.pbu.queue) ∧
      (j.next < j.items.length → ¬last → r.count ≠ next → becomes (q.fed .feeding next)) ∧
      (j.next < j.items.length → ¬last → r.count = next → ∀ w, { s with jnl := jnl }.nextItem struck = some w →
        becomes (q.strikes (lineShown s.day.minorDigits struck w)))

/-! ### Window displays and lamps -/

/-- 09 R166, R170, R171: SHOW refuses a hold outside 1 to 60 with RANGE; otherwise the text stands for its hold, each
character outside the display set shown as a blank and counted in the reply, and a text of no characters clears the layer.
The hold's end clears the layer; a hold's end given early ends it (log 3). -/
def Obligations.ShowAndTheEndOfATextsHold : Prop :=
  ∀ (n : Fin 8) (tag : Byte) (hold : Nat) (text : Bytes) (s : State), hold < 256 → text.length ≤ 16 →
    let c : Instr := .showText (.tl n) tag (be 1 hold ++ text)
    let shown (b : Byte) : Prop := b.toNat ∈ [0x20, 0x2A, 0x2C, 0x2D, 0x2E] ∨ (0x30 ≤ b.toNat ∧ b.toNat ≤ 0x39) ∨
      (0x41 ≤ b.toNat ∧ b.toNat ≤ 0x5A)
    (s.Accepts (.tl n) → ¬(1 ≤ hold ∧ hold ≤ 60) → s.Refuses c (.tl n) 34 tag .range) ∧
    (s.Accepts (.tl n) → 1 ≤ hold → hold ≤ 60 → ∃ t, exec c s = .next t ∧
      s.Answered t (.tl n) 34 tag true .ok [BitVec.ofNat 8 (text.filter (fun b => decide (¬shown b))).length]
        { windows := [n] } ∧
      (t.window n).text = (if text = [] then none
        else some { text := text.map (fun b => if shown b then b else 0x20), hold := hold * 100 }) ∧
      (t.window n).amount = (s.window n).amount ∧ (t.window n).current = (s.window n).current) ∧
    (s.alive = true → ∃ t, exec (.textHoldEnd n) s = .next t ∧ s.Event t { windows := [n] } ∧
      (t.window n).text = none ∧ (t.window n).amount = (s.window n).amount ∧ (t.window n).current = (s.window n).current)

/-- 03 R48, 08 R163, 09 R166 to R169, R172, R175, R176: what the end of a whole change composes: the idle flag, the
overlay, whose print text is the running job's, SEE TELLER or TAKE BOOK, the sixteen characters of the first layer present,
the blank flag, the target brightness and the lamp's pattern; composing twice changes nothing more. That a FAULTED result
counts whenever its printer is in FAULT, a later FAULT of that printer included, is the model's choice (log 36). -/
def Obligations.DisplaysShowTheFirstLayer : Prop :=
  ∀ (n : Fin 8) (s : State), s.alive = true →
    let t := s.settle
    let p := t.pos n
    let w := t.window n
    let insert (q : Fin 2) : Bytes :=
      [0x49, 0x4E, 0x53, 0x45, 0x52, 0x54, 0x20, 0x42, 0x4F, 0x4F, 0x4B, 0x20, 0x50, if q = 0 then 0x30 else 0x31]
    let turn : Bytes := [0x54, 0x55, 0x52, 0x4E, 0x20, 0x50, 0x41, 0x47, 0x45]
    let take : Bytes := [0x54, 0x41, 0x4B, 0x45, 0x20, 0x42, 0x4F, 0x4F, 0x4B]
    let prompt (q : Fin 2) : Option Bytes :=
      let r := s.printer q
      if r.job.map Job.position = some n then
        match r.state with
        | .waitBook => some (insert q)
        | .confirming => some (if r.confirmReturn = some .pageTurn then turn else insert q)
        | .pageTurn => some turn
        | .waitRemoval => if r.stage = some .pageEnd then some turn else if r.stage = some .final then some take else none
        | _ => none
      else none
    let left (q : Fin 2) : Prop := (s.printer q).state ∈ [.waitRemoval, .ejecting] ∧ (s.printer q).job = none ∧
      (s.printer q).leftBy = some n
    let print : Option Bytes :=
      if prompt 0 ≠ none then prompt 0 else if prompt 1 ≠ none then prompt 1
      else if s.pbu.seeTeller.get n ≠ none then some [0x53, 0x45, 0x45, 0x20, 0x54, 0x45, 0x4C, 0x4C, 0x45, 0x52]
      else if left 0 ∨ left 1 then some take else none
    let position : Option Bytes :=
      if s.day.state = .closed then some [0x42, 0x52, 0x41, 0x4E, 0x43, 0x48, 0x20, 0x43, 0x4C, 0x4F, 0x53, 0x45, 0x44]
      else if p.state = .closed then
        some [0x50, 0x4F, 0x53, 0x49, 0x54, 0x49, 0x4F, 0x4E, 0x20, 0x43, 0x4C, 0x4F, 0x53, 0x45, 0x44]
      else if p.state = .away then some [0x4E, 0x45, 0x58, 0x54, 0x20, 0x57, 0x49, 0x4E, 0x44, 0x4F, 0x57]
      else none
    let shows (b : Bytes) : Prop := w.cells = b ++ List.replicate (16 - b.length) 0x20
    t.settle = t ∧
    (p.idle = true ↔ (p.state = .ready ∨ p.state = .closed ∨ p.state = .away) ∧ s.settings.idleBlank * 100 ≤ p.silence) ∧
    (∀ b, print = some b → w.overlay = some ⟨b, .pbu⟩ ∧ shows b) ∧
    (print = none → ∀ b, position = some b → w.overlay = some ⟨b, .pos⟩ ∧ shows b) ∧
    (print = none → position = none → w.overlay = none ∧
      (∀ x, w.text = some x → shows x.text) ∧
      (w.text = none → ∀ a, w.amount = some a →
        w.cells = List.replicate (16 - (renderNat s.day.minorDigits a).length) 0x20 ++ renderNat s.day.minorDigits a) ∧
      (w.text = none → w.amount = none → shows [])) ∧
    (s.day.ParametersInRange → (∀ x, w.text = some x → x.text.length ≤ 16) → (∀ a, w.amount = some a → a ≤ 9999999999) →
      w.cells.length = 16) ∧
    (w.blank = true ↔ p.idle = true ∧ print = none) ∧ w.target = (if w.blank then 0 else s.settings.brightness) ∧
    w.pattern =
      (if p.state = .forceWait ∨ p.forced = true ∨ p.longRaised = true ∨ p.serviceRaised = true ∨
          ((s.pbu.results.get n).outcome = .faulted ∧ ∃ q, (s.pbu.results.get n).printer = some q ∧ (s.printer q).state = .fault)
        then .fast
      else if p.state = .held ∨ p.state = .outOfBalance then .slow
      else if s.cash.high.get n then .wink
      else if p.state = .closed then .off else .steady)

/-! ### The head-office uplink -/

/-- 10 R178, R179, 11 R202: the bits between the flags of a frame spell its message: the receiver takes back the octets that
were sent, and the frame does what the message's command does; bits that spell no valid message have no effect. The order
of an octet's bits on the line is the model's choice (log 22). -/
def Obligations.FrameBitsAreTheMessage : Prop :=
  (∀ (m : Message) (s : State),
    let c : Instr := match m with
      | .pingReply => .pingReply
      | .dayOpen f => .dayOpen f
      | .blockAck k => .blockAck k
      | .blockNak k => .blockNak k
      | .dayAccepted t => .dayAccepted t
      | .dayRejected r => .dayRejected r
    c.wellFormed = true → receiveFrame (frameBits m.octets) = some m.octets ∧ readMessage m.octets = some m ∧
      exec (.uplinkFrameDiscarded (frameBits m.octets)) s = exec c s) ∧
  ∀ (bits : List Bool) (s : State), s.alive = true → (Instr.uplinkFrameDiscarded bits).wellFormed = true →
    ∃ t, exec (.uplinkFrameDiscarded bits) s = .next t ∧ s.Event t {}

/-- 10 R179, R183, R186, R192: a PING-REPLY sets the ping reference, ends the round and brings the link UP with LINK-CHANGED,
which while the day is SENDING fills the buffers and puts their frames into the transmit list. -/
def Obligations.PingReplyBringsTheLinkUp : Prop :=
  ∀ s : State, s.alive = true →
    let heard : Ulc := { s.ulc with sinceRef := 0, round := none }
    (s.ulc.up = true → ∃ t, exec .pingReply s = .next t ∧ s.Event t { parts := [.ulc] } ∧ t.ulc = heard) ∧
    (s.ulc.up = false → s.day.state ≠ .sending → ∃ t, exec .pingReply s = .next t ∧
      s.Event t { parts := [.ulc], notices := [(.linkChanged, .sl)] } ∧ t.ulc = { heard with up := true }) ∧
    (s.ulc.up = false → s.day.state = .sending → (s.jnl.records.map Record.seq).Nodup →
      s.ulc.buffers = Vec.fill none → s.ulc.verdict = none → ∃ t, exec .pingReply s = .next t ∧
        s.Event t { parts := [.ulc], notices := [(.linkChanged, .sl)] } ∧ t.Filled { heard with up := true })

/-- 10 R186, R188: a BLOCK-ACK of an outstanding block of records marks them sent, and the FREE buffer draws the next sixteen
that are neither sent nor in the other buffer, or, with every record sent and both buffers FREE, the SUMMARY, the new block's frame
joining the transmit list; a SUMMARY acknowledged is HELD and the verdict wait runs. A number that is not outstanding is ignored. -/
def Obligations.BlockAckMarksAndFillsOrHolds : Prop :=
  ∀ (number : Nat) (s : State), s.alive = true → s.ulc.up = true →
    let c : Instr := .blockAck number
    let heard : Ulc := { s.ulc with sinceRef := 0, round := none }
    let out (b : Fin 2) (k : Block) : Prop := s.ulc.buffers.get b = some k ∧ k.number = number ∧ k.held = false
    let other (b : Fin 2) : Fin 2 := if b = 0 then 1 else 0
    ((∀ b k, ¬out b k) → ∃ t, exec c s = .next t ∧ s.Event t { parts := [.ulc] } ∧ t.ulc = heard) ∧
    ∀ b k, out b k → (∀ k', ¬out (other b) k') →
      (∀ q, k.contents = .records q → s.day.state = .sending → s.ulc.verdict = none → (s.jnl.records.map Record.seq).Nodup →
        ∃ t, exec c s = .next t ∧ s.Event t { parts := [.jnl, .ulc] } ∧
          t.jnl = { s.jnl with records := s.jnl.records.map (fun r => if r.seq ∈ q then { r with sent := true } else r) } ∧
          (let freed : Ulc := { heard with
             buffers := s.ulc.buffers.set b none, waiting := s.ulc.waiting.filter (fun g => g.purpose ≠ 2 + b.val) }
           (s.ulc.buffers.get (other b) = none → t.Filled freed) ∧
           ∀ k', s.ulc.buffers.get (other b) = some k' →
             let inOther : List Nat := match k'.contents with | .records p => p | .summary _ => []
             let drawn := (t.jnl.records.filter (fun r => !r.sent && !inOther.contains r.seq)).take 16
             t.ulc = if drawn = [] then freed else Ulc.produce
               { freed with
                 buffers := freed.buffers.set b (recordBlock s.ulc.nextBlock drawn), nextBlock := numberAfter s.ulc.nextBlock }
               (.block b s.ulc.nextBlock drawn))) ∧
      (∀ m, k.contents = .summary m → ∃ t, exec c s = .next t ∧ s.Event t { parts := [.ulc] } ∧
        t.ulc = { heard with
          buffers := s.ulc.buffers.set b (some { k with held := true, answer := none }), verdict := some 30000 })

/-- 10 R187, R189 to R191, R194: a BLOCK-NAK of an outstanding block, the end of its answer time and the end of the verdict
wait each make a retry decision: the block is resent under its number with one more retry, without bound at a limit of 15,
or at its limit the link goes DOWN; without an outstanding block, an answer time or a verdict wait, nothing is decided. An
answer time's or a verdict wait's end given early decides (log 3). -/
def Obligations.RetriesAreDecidedByTheLimit : Prop :=
  ∀ (number : Nat) (b : Fin 2) (s : State), s.alive = true → s.ulc.up = true →
    let heard : Ulc := { s.ulc with sinceRef := 0, round := none }
    let out (b : Fin 2) (k : Block) : Prop := s.ulc.buffers.get b = some k ∧ k.number = number ∧ k.held = false
    let other : Fin 2 := if b = 0 then 1 else 0
    let decides (c : Instr) (u : Ulc) (k : Block) : Prop := ∃ t, exec c s = .next t ∧
      s.Keeps t { parts := [.ulc] } ∧ t.positions.map Position.core = s.positions.map Position.core ∧
      s.RetryDecided t u b k (s.frameOf b k)
    ((∀ b k, ¬out b k) → ∃ t, exec (.blockNak number) s = .next t ∧ s.Event t { parts := [.ulc] } ∧ t.ulc = heard) ∧
    (∀ k, out b k → (∀ k', ¬out other k') → decides (.blockNak number) heard k) ∧
    (∀ k, s.ulc.buffers.get b = some k → k.held = false → k.answer ≠ none → decides (.answerTimeEnd b) s.ulc k) ∧
    ((∀ k, s.ulc.buffers.get b = some k → k.held = true ∨ k.answer = none) → exec (.answerTimeEnd b) s = .next s) ∧
    (∀ k, s.ulc.verdict ≠ none → s.ulc.buffers.get b = some k → k.held = true →
      (∀ k', s.ulc.buffers.get other = some k' → k'.held = false) →
      decides .verdictWaitEnd { s.ulc with verdict := none } k) ∧
    (s.ulc.verdict = none → exec .verdictWaitEnd s = .next s)

/-- 10 R178, R181, R182, R187, 11 R202: a frame produced replaces the waiting frame of its purpose in its place, or joins the
back, and an idle line begins it at once; the line carries the frame being sent, flags between frames, and nothing while the
part is held; a frame's octets are R202's, and its bits spell them. A frame sent starts its timer, the wait of the running
round or the answer time of the block that it carries, unless a newer frame of its purpose waits, and the first waiting frame
follows; a ping round begins with one PING of those its retries allow; the end of its wait sends the next PING, or fails the
round and brings the link DOWN. The readings of R181, R182 and R187 where a newer frame waits, a round begun by its command,
the order of an octet's bits, a frame begun at once on an idle line, and a ping wait's end given early are the model's
(logs 19, 20, 24, 22, 8, 3). -/
def Obligations.FramesSentAndPingRounds : Prop :=
  (∀ (f : UpFrame) (u : Ulc),
    let place (g : UpFrame) : Nat := match g with
      | .ping _ _ => 0 | .dayOpenReply _ _ _ => 1 | .block b _ _ => 2 + b.val | .summary b _ _ => 2 + b.val
    let same (g : UpFrame) : Prop := place g = place f
    (u.sending ≠ none → (∀ g ∈ u.waiting, ¬same g) → u.produce f = { u with waiting := u.waiting ++ [f] }) ∧
    (∀ before g after, u.sending ≠ none → u.waiting = before ++ g :: after → same g → (∀ x ∈ before ++ after, ¬same x) →
      u.produce f = { u with waiting := before ++ f :: after }) ∧
    (u.sending = none → u.waiting = [] → u.produce f = { u with sending := some f }) ∧
    (f.octets = match f with
      | .ping st d => 81 :: be 1 st.num ++ dateBytes d
      | .dayOpenReply o st d => 82 :: be 1 o.num ++ be 1 st.num ++ dateBytes d
      | .block _ k rs => 83 :: be 2 k ++ be 1 rs.length ++ rs.flatMap Record.shown
      | .summary _ k m => List.flatten
        [[84], be 2 k, dateBytes m.date, be 2 m.totals.records, be 6 m.totals.credit, be 6 m.totals.debit,
         be 5 m.totals.hash, be 5 m.opening, be 5 m.cashIn, be 5 m.cashOut, be 5 m.dayOver, be 5 m.dayShort,
         m.vault.counts.toList.flatMap (be 3), beInt 5 m.vault.unitemized, be 5 m.vault.total.toNat, be 2 m.unjournaled,
         be 2 m.carryDrop, m.profiles.toList.flatMap Profile.shown]) ∧
    (f.octets.length ≤ 468 → receiveFrame (frameBits f.octets) = some f.octets)) ∧
  (∀ s : State, s.alive = false → s.upLine = .nothing) ∧
  ∀ s : State, s.alive = true →
    let u := s.ulc
    let flag : List Bool := [false, true, true, true, true, true, true, false]
    (u.sending = none → s.upLine = .flags) ∧
    (∀ f, u.sending = some f → s.upLine = .frame (flag ++ frameBits f.octets ++ flag)) ∧
    let waits (k : Nat) : Prop := ∃ g ∈ u.waiting, g.purpose = k
    let sends (v : Ulc) : Prop :=
      exec .uplinkFrameSent s = .next { s with ulc := { v with sending := u.waiting.head?, waiting := u.waiting.tail } }
    let round (r : Round) : Ulc := { u with round := some r }
    let ping : UpFrame := .ping s.day.state s.day.date
    let begun : Ulc :=
      { u with sinceRef := max u.sinceRef (s.settings.pingPeriod * 100), round := some ⟨1, 1 + s.settings.pingRetries, none⟩ }
    (u.sending = none → exec .uplinkFrameSent s = .next s) ∧
    (∀ st d, u.sending = some (.ping st d) →
      (∀ r, u.round = some r → ¬waits 0 → sends (round { r with wait := some 300 })) ∧
      (u.round = none ∨ waits 0 → sends u)) ∧
    (∀ o st d, u.sending = some (.dayOpenReply o st d) → sends u) ∧
    (∀ b number f, u.sending = some f → (∃ rs, f = .block b number rs) ∨ (∃ m, f = .summary b number m) →
      (∀ k, u.buffers.get b = some k → k.number = number → k.held = false → ¬waits (2 + b.val) →
        sends { u with buffers := u.buffers.set b (some { k with answer := some 1000 }) }) ∧
      (u.buffers.get b = none ∨ waits (2 + b.val) → sends u) ∧
      (∀ k, u.buffers.get b = some k → k.number ≠ number ∨ k.held = true → sends u)) ∧
    (u.round = none → exec .pingRound s = .next { s with ulc := begun.produce ping }) ∧
    (u.round ≠ none → exec .pingRound s = .next s) ∧
    ((∀ r, u.round = some r → r.wait = none) → exec .pingWaitEnd s = .next s) ∧
    ∀ r w, u.round = some r → r.wait = some w →
      (r.sent < r.allowed →
        exec .pingWaitEnd s = .next { s with ulc := Ulc.produce (round { r with sent := r.sent + 1, wait := none }) ping }) ∧
      (r.allowed ≤ r.sent → u.up = false → exec .pingWaitEnd s = .next { s with ulc := { u with round := none, sinceRef := 0 } }) ∧
      (r.allowed ≤ r.sent → u.up = true → ∃ t, exec .pingWaitEnd s = .next t ∧ s.Keeps t { parts := [.ulc] } ∧
        s.Notes t { notices := [(.linkChanged, .sl)] } ∧ t.positions = s.positions ∧ t.windows = s.windows ∧
        t.ulc = { u with
          up := false, round := none, sinceRef := 0, buffers := Vec.fill none, verdict := none
          waiting := u.waiting.filter (fun g => g.purpose < 2) })

/-! ### The timebase, the supply and the resets -/

/-- 02 R24, R25, 09 R173, R175: a 1 Hz tick wraps the hundredths count and advances the seconds of day; an 8 Hz tick takes
the phase that the count has reached, or else the next with its count, steps each brightness one level toward its target,
and gives each lamp its pattern's output for the phase; displays and lamps stand still in a part that takes no event. A
tick given before its count is reached moves the count to it (log 5). -/
def Obligations.TicksAdvanceClockRampsAndLamps : Prop :=
  ∀ s : State,
    let reached : Nat := ([12, 25, 37, 50, 62, 75, 87].filter (fun k => decide (k ≤ s.day.hundredths))).length
    let phase : Nat := if reached = s.day.phase then (s.day.phase + 1) % 8 else reached
    let lit : Pattern → Bool
      | .off => false | .steady => true | .slow => decide (phase < 4) | .fast => phase % 2 == 0 | .wink => decide (phase < 2)
    let ticked (w : Window) : Window := { w with
      current := if w.current < w.target then w.current + 1 else if w.target < w.current then w.current - 1 else w.current
      lamp := lit w.pattern }
    exec .oneHzTick s = .next { s with day := { s.day with
      hundredths := 0, seconds := if s.day.seconds < 86399 then s.day.seconds + 1 else 0 } } ∧
    exec .eightHzTick s = .next { s with
      day := { s.day with
        phase := phase
        hundredths := if reached = s.day.phase then [0, 12, 25, 37, 50, 62, 75, 87].getD phase 0 else s.day.hundredths }
      windows := if s.alive then s.windows.map ticked else s.windows }

/-- 02 R30 to R32, R34, 09 R177: the reset line's assertion and the failure of main power put the outputs off and drop a
pending RESTART's reset, and only the failure loses the replies; the backup's voltage counts only without main power; and
main power's return with the latch CLEAR is a COLD reset, the input pins as they stand. What a failure and an assertion do
to outputs and queues at once, and a reset line read at its command, are the model's (logs 4, 12). -/
def Obligations.SupplyAndResetLine : Prop :=
  ∀ s : State,
    let held (u : State) : State :=
      { u.outputsOff with positions := u.positions.map (fun p => { p with lock := .locked, window := none }) }
    let cold : State := State.cold s.pending s.supply.resetLine (s.links.map LinkRec.strap) (s.positions.map Position.input)
      (s.pbu.printers.map Printer.input)
    (s.supply.mainPower = true → exec .resetLineAsserted s =
      .next (held { s with supply := { s.supply with resetLine := true, restartPending := false } })) ∧
    (s.supply.mainPower = false → exec .resetLineAsserted s = .next { s with supply := { s.supply with resetLine := true } } ∧
      exec .warmLine s = .next { s with supply := { s.supply with resetLine := false } }) ∧
    (s.supply.mainPower = true → exec .mainPowerFail s = .next
      { State.outputsOff s with
        supply := { s.supply with mainPower := false, restartPending := false }
        links := s.links.map (fun r => { r with inWork := false, transmit := [] }) }) ∧
    (s.supply.mainPower = false → exec .mainPowerFail s = .next s) ∧
    (s.supply.mainPower = true → exec .backupLow s = .next s) ∧
    (s.supply.mainPower = false → exec .backupLow s = .next { s with day := { s.day with intact := false } }) ∧
    (s.day.intact = false → s.supply.resetLine = false → exec .mainPowerReturn s = .next cold) ∧
    (s.day.intact = false → s.supply.resetLine = true → exec .mainPowerReturn s = .next (held cold)) ∧
    (cold.day.state = .closed ∧ cold.day.date = none ∧ cold.day.clockSet = false ∧ cold.day.seconds = 0 ∧
      cold.day.minorDigits = 2 ∧ cold.day.cause = .cold ∧ cold.day.warmCount = 0 ∧ cold.day.intact = true ∧
      cold.settings = ⟨120, 10, 45, 600, 120, 180, ⟨[0, 0, 0, 0, 1, 1, 1, 1], rfl⟩, true, 24, 8, 12, 36, 60, 2, 5⟩ ∧
      (∀ n, (cold.pos n).state = .closed ∧ (cold.pos n).teller = none ∧ (cold.pos n).lock = .locked ∧
        (cold.drawer n).isEmpty = true ∧ cold.cash.high.get n = false) ∧
      cold.cash.vault.isEmpty = true ∧ cold.cash.faces = Vec.fill none ∧ cold.dct.entries = [] ∧ cold.jnl.records = [] ∧
      cold.jnl.next = 1 ∧ cold.jnl.carry = [] ∧ cold.pbu.queue = [] ∧ (∀ p, (cold.printer p).state = .idle) ∧
      ∀ l (k : Notice), (cold.link l).notices.get k.idx = (k == .restarted))

/-- 01 R14, 02 R31 to R34, R59, 05 R99, 07 R134, 08 R164, 09 R177, 10 R197: what a WARM reset and a POWER-UP keep and clear,
block by block: by the reset line's release, by the last byte of a RESTART's own reply or the row that stands for that
moment, and by main power's return with the latch INTACT, which does its whole reset and is then held where the reset line is
still asserted. The release of a line that was not asserted and a return of power that was present, that row taken with a
reset pending, JOURNAL-HIGH given beside RESTARTED and an eject ended at once, a part held after its reset, the quiet time of
two hundredths, BOOK-LEFT given No, an eject from a count below 0 run forward, the head's last codes kept, and the first PING
on the line at once, counted, with the ping reference kept as the time since it, are the model's (logs 4, 13, 29, 12, 9, 25,
34, 23, 8, 20, 24). -/
def Obligations.ResetsKeepTheRetainedStore : Prop :=
  ∀ s : State,
    let more := min 255 (s.day.warmCount + 1)
    (s.supply.mainPower = true → ∃ t, exec .warmLine s = .next t ∧
      { s with supply := { s.supply with resetLine := false } }.ResetTo t .warmLine more) ∧
    (s.alive = true → s.supply.restartPending = true → ∃ t, exec .warmRestart s = .next t ∧
      s.ResetTo t .warmRestart more) ∧
    (∀ a rest, s.alive = true → s.supply.restartPending = true → (s.link .sl).transmit = a :: rest → a.own = true →
      ∃ t, exec (.replySent .sl) s = .next t ∧ s.ResetTo t .warmRestart more) ∧
    (s.alive = true → s.supply.restartPending = false → exec .warmRestart s = .next s) ∧
    (s.day.intact = true → s.supply.resetLine = false → ∃ t, exec .mainPowerReturn s = .next t ∧
      { s with supply := { s.supply with mainPower := true } }.ResetTo t .powerUp s.day.warmCount) ∧
    (s.day.intact = true → s.supply.resetLine = true →
      let released : State := { s with supply := { s.supply with resetLine := false } }
      ∃ t u, exec .mainPowerReturn s = .next t ∧ exec .mainPowerReturn released = .next u ∧
        { released with supply := { released.supply with mainPower := true } }.ResetTo u .powerUp s.day.warmCount ∧
        t = { u.outputsOff with
          supply := { u.supply with resetLine := true }
          positions := u.positions.map (fun p => { p with lock := .locked, window := none }) })

/-- 02 R35, 11 R199: STATUS on SL returns the day, the link, the printers, the journal's counts, the day parameters, the
entries awaiting SL and the tag, each at its place in the body, and changes no state. -/
def Obligations.SupervisorStatusReturnsTheRecord : Prop :=
  ∀ (tag : Byte) (s : State), s.Accepts .sl → s.ClockLaw → s.day.ParametersInRange → s.jnl.records.length ≤ 4096 →
    s.jnl.unjournaled ≤ 65535 → s.dct.entries.length ≤ 6 →
    let awaiting := s.dct.entries.filter (fun e => e.confirmer == .sl)
    ∃ t r, exec (.statusSupervisor tag []) s = .next t ∧ s.Answered t .sl 2 tag false .ok r {} ∧
      field r 0 1 = s.day.state.num ∧
      (∀ d, s.day.date = some d → d.day < 256 → d.month < 256 → d.year < 256 →
        field r 1 1 = d.day ∧ field r 2 1 = d.month ∧ field r 3 1 = d.year) ∧
      (s.day.date = none → field r 1 3 = 0) ∧
      field r 4 1 = (match s.day.rejection with | .none => 0 | .mismatch => 1 | .code _ => 2) ∧
      (∀ c, s.day.rejection = .code c → c < 256 → field r 5 1 = c) ∧ field r 6 3 = s.day.seconds ∧
      (field r 9 1 = 1 ↔ s.day.clockSet = true) ∧ field r 10 1 = s.day.cause.num ∧ field r 11 1 = s.day.warmCount ∧
      (field r 12 1 = 1 ↔ s.ulc.up = true) ∧
      (∀ p : Fin 2, field r (13 + 2 * p.val) 1 = (s.printer p).state.num ∧
        field r (14 + 2 * p.val) 1 = faultNum (s.printer p).fault) ∧
      field r 17 2 = s.jnl.records.length ∧ field r 19 2 = (s.jnl.records.filter (fun x => x.kind.customer)).length ∧
      field r 21 2 = s.jnl.unjournaled ∧ field r 23 1 = s.day.minorDigits ∧ field r 24 5 = s.day.postingLimit ∧
      field r 29 5 = s.day.itemization ∧ field r 34 5 = s.day.drawerMax ∧ field r 39 3 = s.day.tolerance ∧
      field r 42 1 = awaiting.length ∧
      (∀ k e, awaiting[k]? = some e → e.id < 256 → field r (43 + 2 * k) 1 = e.id ∧
        field r (44 + 2 * k) 1 = (match e.proposal with | .transfer _ _ _ => 1 | .override _ _ => 2)) ∧
      r.drop (43 + 2 * awaiting.length) = (match (s.link .sl).lastTag with | none => [0, 0] | some k => [1, k])

/-! ### Invariants -/

/-- The state after reset meets every law of a sound state (00 to 10, each block's values at reset). -/
def Obligations.ResetIsSound : Prop := State.reset.Sound

/-- 01 R5, R11, R13, 02 R15, R27, 03 R50 to R52: the laws that hold by themselves: the ranges of the clock and of the
configuration, a transmit list of at most the accepted request's reply and one BUSY reply, no notice on a link that does not
carry it, and a release window only on a RELEASED lock with the drawer SHUT. -/
def Obligations.PlainLawsAreKept : Prop :=
  ∀ s t : State, (s.ClockLaw ∧ s.settings.InRange ∧ s.LinkLaw ∧ s.NoticeLaw ∧ s.LockLaw) → step s = .next t →
    t.ClockLaw ∧ t.settings.InRange ∧ t.LinkLaw ∧ t.NoticeLaw ∧ t.LockLaw

/-- Every command, and every hundredth of an idle part, takes a sound state to a sound state: the day's and the positions'
laws, conservation of cash (04 R63), the dual-control table, the journal's numbering, the printers, the blocks of a
transmission, and displays and lamps composed of the rest. -/
def Obligations.EveryStepKeepsASoundState : Prop := ∀ s t : State, s.Sound → step s = .next t → t.Sound
end

