-- ==== Sys2Proof/Laws/State.lean ====
section
/-! SUPPORT. What each named operation over the state leaves unchanged, one lemma per field per operation, and what it puts
into the entry that it changes; the laws of a table of fixed length. -/

namespace Sys2Proof

/-! ### Tables -/

namespace Vec

variable {n : Nat} {α β : Type}

theorem toList_inj : ∀ {v w : Vec n α}, v.toList = w.toList → v = w
  | ⟨_, _⟩, ⟨_, _⟩, rfl => rfl

@[ext] theorem ext_get {v w : Vec n α} (h : ∀ i, v.get i = w.get i) : v = w := by
  apply toList_inj
  apply List.ext_getElem (by rw [v.size, w.size])
  intro i hv _
  exact h ⟨i, by rw [← v.size]; exact hv⟩

@[simp] theorem get_set_self (v : Vec n α) (i : Fin n) (a : α) : (v.set i a).get i = a := by simp [get, set]

theorem get_set_ne (v : Vec n α) {i j : Fin n} (a : α) (h : j ≠ i) : (v.set i a).get j = v.get j := by
  simp [get, set, show ¬(i.val = j.val) from fun e => h (Fin.ext e.symm)]

theorem get_set (v : Vec n α) (i j : Fin n) (a : α) : (v.set i a).get j = if j = i then a else v.get j := by
  split
  · next h => subst h; simp
  · next h => exact get_set_ne v a h

@[simp] theorem get_modify_self (v : Vec n α) (i : Fin n) (f : α → α) : (v.modify i f).get i = f (v.get i) := by
  simp [modify]

theorem get_modify_ne (v : Vec n α) {i j : Fin n} (f : α → α) (h : j ≠ i) : (v.modify i f).get j = v.get j := by
  simp [modify, get_set_ne v _ h]

theorem get_modify (v : Vec n α) (i j : Fin n) (f : α → α) : (v.modify i f).get j = if j = i then f (v.get j) else v.get j := by
  rw [modify, get_set]
  split
  · next h => subst h; rfl
  · rfl

@[simp] theorem get_map (v : Vec n α) (f : α → β) (i : Fin n) : (v.map f).get i = f (v.get i) := by simp [get, map]

@[simp] theorem get_tab (f : Fin n → α) (i : Fin n) : (tab f).get i = f i := by simp [get, tab]

@[simp] theorem get_fill (a : α) (i : Fin n) : (fill a : Vec n α).get i = a := by simp [get, fill]

@[simp] theorem set_get_self (v : Vec n α) (i : Fin n) : v.set i (v.get i) = v := by
  ext j
  rw [get_set]
  split
  · next h => rw [h]
  · rfl

@[simp] theorem set_set_self (v : Vec n α) (i : Fin n) (a b : α) : (v.set i a).set i b = v.set i b := by
  ext j
  simp only [get_set]
  split <;> rfl

theorem mem_toList {v : Vec n α} {a : α} : a ∈ v.toList ↔ ∃ i, v.get i = a := by
  constructor
  · intro h
    obtain ⟨i, hi, rfl⟩ := List.getElem_of_mem h
    exact ⟨⟨i, by rw [← v.size]; exact hi⟩, rfl⟩
  · rintro ⟨i, rfl⟩
    exact List.getElem_mem _

theorem all_iff {v : Vec n α} {p : α → Bool} : v.all p = true ↔ ∀ i, p (v.get i) = true := by
  simp only [all, List.all_eq_true, mem_toList]
  exact ⟨fun h i => h _ ⟨i, rfl⟩, fun h a ⟨i, e⟩ => e ▸ h i⟩

theorem any_iff {v : Vec n α} {p : α → Bool} : v.any p = true ↔ ∃ i, p (v.get i) = true := by
  simp only [any, List.any_eq_true, mem_toList]
  exact ⟨fun ⟨a, ⟨i, e⟩, h⟩ => ⟨i, e ▸ h⟩, fun ⟨i, h⟩ => ⟨_, ⟨i, rfl⟩, h⟩⟩

end Vec

/-- The places of the links are distinct. -/
theorem Link.idx_inj : ∀ {l k : Link}, l.idx = k.idx → l = k := by
  intro l k h
  cases l <;> cases k <;> simp_all [Link.idx, Fin.ext_iff] <;> omega

@[simp] theorem Link.idx_eq_iff {l k : Link} : l.idx = k.idx ↔ l = k := ⟨Link.idx_inj, fun h => h ▸ rfl⟩

end Sys2Proof

namespace Sys2Proof.Machine

/-! ### The entry that an operation changes -/

@[simp] theorem State.link_onLink_self (s : State) (l : Link) (f : LinkRec → LinkRec) : (s.onLink l f).link l = f (s.link l) :=
  by
  simp [State.link, State.onLink]
theorem State.link_onLink_ne (s : State) {l k : Link} (f : LinkRec → LinkRec) (h : k ≠ l) : (s.onLink l f).link k = s.link k := by
  simp [State.link, State.onLink, Vec.get_modify, h]
@[simp] theorem State.pos_onPos_self (s : State) (n : Fin 8) (f : Position → Position) : (s.onPos n f).pos n = f (s.pos n) :=
  by
  simp [State.pos, State.onPos]
theorem State.pos_onPos_ne (s : State) {n m : Fin 8} (f : Position → Position) (h : m ≠ n) : (s.onPos n f).pos m = s.pos m := by
  simp [State.pos, State.onPos, Vec.get_modify, h]
@[simp] theorem State.printer_onPrinter_self (s : State) (p : Fin 2) (f : Printer → Printer) :
    (s.onPrinter p f).printer p = f (s.printer p) := by
  simp [State.printer, State.onPrinter]
theorem State.printer_onPrinter_ne (s : State) {p q : Fin 2} (f : Printer → Printer) (h : q ≠ p) :
    (s.onPrinter p f).printer q = s.printer q := by
  simp [State.printer, State.onPrinter, Vec.get_modify, h]
@[simp] theorem State.window_onWindow_self (s : State) (n : Fin 8) (f : Window → Window) :
    (s.onWindow n f).window n = f (s.window n) := by
  simp [State.window, State.onWindow]
theorem State.window_onWindow_ne (s : State) {n m : Fin 8} (f : Window → Window) (h : m ≠ n) :
    (s.onWindow n f).window m = s.window m := by
  simp [State.window, State.onWindow, Vec.get_modify, h]
@[simp] theorem State.profile_onProfile_self (s : State) (n : Fin 8) (f : Profile → Profile) :
    (s.onProfile n f).profile n = f (s.profile n) := by
  simp [State.profile, State.onProfile]
@[simp] theorem State.context_onContext_self (s : State) (n : Fin 8) (f : Context → Context) :
    (s.onContext n f).context n = f (s.context n) := by
  simp [State.context, State.onContext]

/-! ### Whether the part takes events depends on the supply alone -/

theorem State.alive_of_supply {s t : State} (h : t.supply = s.supply) : t.alive = s.alive := by simp [State.alive, h]

/-! ### onLink -/

@[simp] theorem State.pending_onLink (s : State) (l : Link) (f : LinkRec → LinkRec) : (s.onLink l f).pending = s.pending :=
  rfl
@[simp] theorem State.supply_onLink (s : State) (l : Link) (f : LinkRec → LinkRec) : (s.onLink l f).supply = s.supply := rfl
@[simp] theorem State.day_onLink (s : State) (l : Link) (f : LinkRec → LinkRec) : (s.onLink l f).day = s.day := rfl
@[simp] theorem State.settings_onLink (s : State) (l : Link) (f : LinkRec → LinkRec) : (s.onLink l f).settings = s.settings :=
  rfl
@[simp] theorem State.positions_onLink (s : State) (l : Link) (f : LinkRec → LinkRec) : (s.onLink l f).positions = s.positions :=
  rfl
@[simp] theorem State.cash_onLink (s : State) (l : Link) (f : LinkRec → LinkRec) : (s.onLink l f).cash = s.cash := rfl
@[simp] theorem State.dct_onLink (s : State) (l : Link) (f : LinkRec → LinkRec) : (s.onLink l f).dct = s.dct := rfl
@[simp] theorem State.bal_onLink (s : State) (l : Link) (f : LinkRec → LinkRec) : (s.onLink l f).bal = s.bal := rfl
@[simp] theorem State.jnl_onLink (s : State) (l : Link) (f : LinkRec → LinkRec) : (s.onLink l f).jnl = s.jnl := rfl
@[simp] theorem State.pbu_onLink (s : State) (l : Link) (f : LinkRec → LinkRec) : (s.onLink l f).pbu = s.pbu := rfl
@[simp] theorem State.windows_onLink (s : State) (l : Link) (f : LinkRec → LinkRec) : (s.onLink l f).windows = s.windows :=
  rfl
@[simp] theorem State.ulc_onLink (s : State) (l : Link) (f : LinkRec → LinkRec) : (s.onLink l f).ulc = s.ulc := rfl

/-! ### onPos -/

@[simp] theorem State.pending_onPos (s : State) (n : Fin 8) (f : Position → Position) : (s.onPos n f).pending = s.pending :=
  rfl
@[simp] theorem State.supply_onPos (s : State) (n : Fin 8) (f : Position → Position) : (s.onPos n f).supply = s.supply := rfl
@[simp] theorem State.links_onPos (s : State) (n : Fin 8) (f : Position → Position) : (s.onPos n f).links = s.links := rfl
@[simp] theorem State.day_onPos (s : State) (n : Fin 8) (f : Position → Position) : (s.onPos n f).day = s.day := rfl
@[simp] theorem State.settings_onPos (s : State) (n : Fin 8) (f : Position → Position) : (s.onPos n f).settings = s.settings :=
  rfl
@[simp] theorem State.cash_onPos (s : State) (n : Fin 8) (f : Position → Position) : (s.onPos n f).cash = s.cash := rfl
@[simp] theorem State.dct_onPos (s : State) (n : Fin 8) (f : Position → Position) : (s.onPos n f).dct = s.dct := rfl
@[simp] theorem State.bal_onPos (s : State) (n : Fin 8) (f : Position → Position) : (s.onPos n f).bal = s.bal := rfl
@[simp] theorem State.jnl_onPos (s : State) (n : Fin 8) (f : Position → Position) : (s.onPos n f).jnl = s.jnl := rfl
@[simp] theorem State.pbu_onPos (s : State) (n : Fin 8) (f : Position → Position) : (s.onPos n f).pbu = s.pbu := rfl
@[simp] theorem State.windows_onPos (s : State) (n : Fin 8) (f : Position → Position) : (s.onPos n f).windows = s.windows :=
  rfl
@[simp] theorem State.ulc_onPos (s : State) (n : Fin 8) (f : Position → Position) : (s.onPos n f).ulc = s.ulc := rfl

/-! ### onPrinter -/

@[simp] theorem State.pending_onPrinter (s : State) (p : Fin 2) (f : Printer → Printer) : (s.onPrinter p f).pending = s.pending :=
  rfl
@[simp] theorem State.supply_onPrinter (s : State) (p : Fin 2) (f : Printer → Printer) : (s.onPrinter p f).supply = s.supply :=
  rfl
@[simp] theorem State.links_onPrinter (s : State) (p : Fin 2) (f : Printer → Printer) : (s.onPrinter p f).links = s.links :=
  rfl
@[simp] theorem State.day_onPrinter (s : State) (p : Fin 2) (f : Printer → Printer) : (s.onPrinter p f).day = s.day := rfl
@[simp] theorem State.settings_onPrinter (s : State) (p : Fin 2) (f : Printer → Printer) : (s.onPrinter p f).settings = s.settings :=
  rfl
@[simp] theorem State.positions_onPrinter (s : State) (p : Fin 2) (f : Printer → Printer) : (s.onPrinter p f).positions = s.positions :=
  rfl
@[simp] theorem State.cash_onPrinter (s : State) (p : Fin 2) (f : Printer → Printer) : (s.onPrinter p f).cash = s.cash := rfl
@[simp] theorem State.dct_onPrinter (s : State) (p : Fin 2) (f : Printer → Printer) : (s.onPrinter p f).dct = s.dct := rfl
@[simp] theorem State.bal_onPrinter (s : State) (p : Fin 2) (f : Printer → Printer) : (s.onPrinter p f).bal = s.bal := rfl
@[simp] theorem State.jnl_onPrinter (s : State) (p : Fin 2) (f : Printer → Printer) : (s.onPrinter p f).jnl = s.jnl := rfl
@[simp] theorem State.windows_onPrinter (s : State) (p : Fin 2) (f : Printer → Printer) : (s.onPrinter p f).windows = s.windows :=
  rfl
@[simp] theorem State.ulc_onPrinter (s : State) (p : Fin 2) (f : Printer → Printer) : (s.onPrinter p f).ulc = s.ulc := rfl

/-! ### onWindow -/

@[simp] theorem State.pending_onWindow (s : State) (n : Fin 8) (f : Window → Window) : (s.onWindow n f).pending = s.pending :=
  rfl
@[simp] theorem State.supply_onWindow (s : State) (n : Fin 8) (f : Window → Window) : (s.onWindow n f).supply = s.supply :=
  rfl
@[simp] theorem State.links_onWindow (s : State) (n : Fin 8) (f : Window → Window) : (s.onWindow n f).links = s.links := rfl
@[simp] theorem State.day_onWindow (s : State) (n : Fin 8) (f : Window → Window) : (s.onWindow n f).day = s.day := rfl
@[simp] theorem State.settings_onWindow (s : State) (n : Fin 8) (f : Window → Window) : (s.onWindow n f).settings = s.settings :=
  rfl
@[simp] theorem State.positions_onWindow (s : State) (n : Fin 8) (f : Window → Window) : (s.onWindow n f).positions = s.positions :=
  rfl
@[simp] theorem State.cash_onWindow (s : State) (n : Fin 8) (f : Window → Window) : (s.onWindow n f).cash = s.cash := rfl
@[simp] theorem State.dct_onWindow (s : State) (n : Fin 8) (f : Window → Window) : (s.onWindow n f).dct = s.dct := rfl
@[simp] theorem State.bal_onWindow (s : State) (n : Fin 8) (f : Window → Window) : (s.onWindow n f).bal = s.bal := rfl
@[simp] theorem State.jnl_onWindow (s : State) (n : Fin 8) (f : Window → Window) : (s.onWindow n f).jnl = s.jnl := rfl
@[simp] theorem State.pbu_onWindow (s : State) (n : Fin 8) (f : Window → Window) : (s.onWindow n f).pbu = s.pbu := rfl
@[simp] theorem State.ulc_onWindow (s : State) (n : Fin 8) (f : Window → Window) : (s.onWindow n f).ulc = s.ulc := rfl

/-! ### onProfile -/

@[simp] theorem State.pending_onProfile (s : State) (n : Fin 8) (f : Profile → Profile) : (s.onProfile n f).pending = s.pending :=
  rfl
@[simp] theorem State.supply_onProfile (s : State) (n : Fin 8) (f : Profile → Profile) : (s.onProfile n f).supply = s.supply :=
  rfl
@[simp] theorem State.links_onProfile (s : State) (n : Fin 8) (f : Profile → Profile) : (s.onProfile n f).links = s.links :=
  rfl
@[simp] theorem State.day_onProfile (s : State) (n : Fin 8) (f : Profile → Profile) : (s.onProfile n f).day = s.day := rfl
@[simp] theorem State.settings_onProfile (s : State) (n : Fin 8) (f : Profile → Profile) : (s.onProfile n f).settings = s.settings :=
  rfl
@[simp] theorem State.positions_onProfile (s : State) (n : Fin 8) (f : Profile → Profile) : (s.onProfile n f).positions = s.positions :=
  rfl
@[simp] theorem State.cash_onProfile (s : State) (n : Fin 8) (f : Profile → Profile) : (s.onProfile n f).cash = s.cash := rfl
@[simp] theorem State.dct_onProfile (s : State) (n : Fin 8) (f : Profile → Profile) : (s.onProfile n f).dct = s.dct := rfl
@[simp] theorem State.jnl_onProfile (s : State) (n : Fin 8) (f : Profile → Profile) : (s.onProfile n f).jnl = s.jnl := rfl
@[simp] theorem State.pbu_onProfile (s : State) (n : Fin 8) (f : Profile → Profile) : (s.onProfile n f).pbu = s.pbu := rfl
@[simp] theorem State.windows_onProfile (s : State) (n : Fin 8) (f : Profile → Profile) : (s.onProfile n f).windows = s.windows :=
  rfl
@[simp] theorem State.ulc_onProfile (s : State) (n : Fin 8) (f : Profile → Profile) : (s.onProfile n f).ulc = s.ulc := rfl

/-! ### onContext -/

@[simp] theorem State.pending_onContext (s : State) (n : Fin 8) (f : Context → Context) : (s.onContext n f).pending = s.pending :=
  rfl
@[simp] theorem State.supply_onContext (s : State) (n : Fin 8) (f : Context → Context) : (s.onContext n f).supply = s.supply :=
  rfl
@[simp] theorem State.links_onContext (s : State) (n : Fin 8) (f : Context → Context) : (s.onContext n f).links = s.links :=
  rfl
@[simp] theorem State.day_onContext (s : State) (n : Fin 8) (f : Context → Context) : (s.onContext n f).day = s.day := rfl
@[simp] theorem State.settings_onContext (s : State) (n : Fin 8) (f : Context → Context) : (s.onContext n f).settings = s.settings :=
  rfl
@[simp] theorem State.positions_onContext (s : State) (n : Fin 8) (f : Context → Context) : (s.onContext n f).positions = s.positions :=
  rfl
@[simp] theorem State.cash_onContext (s : State) (n : Fin 8) (f : Context → Context) : (s.onContext n f).cash = s.cash := rfl
@[simp] theorem State.dct_onContext (s : State) (n : Fin 8) (f : Context → Context) : (s.onContext n f).dct = s.dct := rfl
@[simp] theorem State.jnl_onContext (s : State) (n : Fin 8) (f : Context → Context) : (s.onContext n f).jnl = s.jnl := rfl
@[simp] theorem State.pbu_onContext (s : State) (n : Fin 8) (f : Context → Context) : (s.onContext n f).pbu = s.pbu := rfl
@[simp] theorem State.windows_onContext (s : State) (n : Fin 8) (f : Context → Context) : (s.onContext n f).windows = s.windows :=
  rfl
@[simp] theorem State.ulc_onContext (s : State) (n : Fin 8) (f : Context → Context) : (s.onContext n f).ulc = s.ulc := rfl

/-! ### setOutcome -/

@[simp] theorem State.pending_setOutcome (s : State) (n : Fin 8) (o : OverrideOutcome) : (s.setOutcome n o).pending = s.pending :=
  rfl
@[simp] theorem State.supply_setOutcome (s : State) (n : Fin 8) (o : OverrideOutcome) : (s.setOutcome n o).supply = s.supply :=
  rfl
@[simp] theorem State.links_setOutcome (s : State) (n : Fin 8) (o : OverrideOutcome) : (s.setOutcome n o).links = s.links :=
  rfl
@[simp] theorem State.day_setOutcome (s : State) (n : Fin 8) (o : OverrideOutcome) : (s.setOutcome n o).day = s.day := rfl
@[simp] theorem State.settings_setOutcome (s : State) (n : Fin 8) (o : OverrideOutcome) : (s.setOutcome n o).settings = s.settings :=
  rfl
@[simp] theorem State.positions_setOutcome (s : State) (n : Fin 8) (o : OverrideOutcome) : (s.setOutcome n o).positions = s.positions :=
  rfl
@[simp] theorem State.cash_setOutcome (s : State) (n : Fin 8) (o : OverrideOutcome) : (s.setOutcome n o).cash = s.cash := rfl
@[simp] theorem State.bal_setOutcome (s : State) (n : Fin 8) (o : OverrideOutcome) : (s.setOutcome n o).bal = s.bal := rfl
@[simp] theorem State.jnl_setOutcome (s : State) (n : Fin 8) (o : OverrideOutcome) : (s.setOutcome n o).jnl = s.jnl := rfl
@[simp] theorem State.pbu_setOutcome (s : State) (n : Fin 8) (o : OverrideOutcome) : (s.setOutcome n o).pbu = s.pbu := rfl
@[simp] theorem State.windows_setOutcome (s : State) (n : Fin 8) (o : OverrideOutcome) : (s.setOutcome n o).windows = s.windows :=
  rfl
@[simp] theorem State.ulc_setOutcome (s : State) (n : Fin 8) (o : OverrideOutcome) : (s.setOutcome n o).ulc = s.ulc := rfl

/-! ### setAmount -/

@[simp] theorem State.pending_setAmount (s : State) (n : Fin 8) (a : Option Nat) : (s.setAmount n a).pending = s.pending :=
  rfl
@[simp] theorem State.supply_setAmount (s : State) (n : Fin 8) (a : Option Nat) : (s.setAmount n a).supply = s.supply := rfl
@[simp] theorem State.links_setAmount (s : State) (n : Fin 8) (a : Option Nat) : (s.setAmount n a).links = s.links := rfl
@[simp] theorem State.day_setAmount (s : State) (n : Fin 8) (a : Option Nat) : (s.setAmount n a).day = s.day := rfl
@[simp] theorem State.settings_setAmount (s : State) (n : Fin 8) (a : Option Nat) : (s.setAmount n a).settings = s.settings :=
  rfl
@[simp] theorem State.positions_setAmount (s : State) (n : Fin 8) (a : Option Nat) : (s.setAmount n a).positions = s.positions :=
  rfl
@[simp] theorem State.cash_setAmount (s : State) (n : Fin 8) (a : Option Nat) : (s.setAmount n a).cash = s.cash := rfl
@[simp] theorem State.dct_setAmount (s : State) (n : Fin 8) (a : Option Nat) : (s.setAmount n a).dct = s.dct := rfl
@[simp] theorem State.bal_setAmount (s : State) (n : Fin 8) (a : Option Nat) : (s.setAmount n a).bal = s.bal := rfl
@[simp] theorem State.jnl_setAmount (s : State) (n : Fin 8) (a : Option Nat) : (s.setAmount n a).jnl = s.jnl := rfl
@[simp] theorem State.pbu_setAmount (s : State) (n : Fin 8) (a : Option Nat) : (s.setAmount n a).pbu = s.pbu := rfl
@[simp] theorem State.ulc_setAmount (s : State) (n : Fin 8) (a : Option Nat) : (s.setAmount n a).ulc = s.ulc := rfl

/-! ### produce -/

@[simp] theorem State.pending_produce (s : State) (f : UpFrame) : (s.produce f).pending = s.pending := rfl
@[simp] theorem State.supply_produce (s : State) (f : UpFrame) : (s.produce f).supply = s.supply := rfl
@[simp] theorem State.links_produce (s : State) (f : UpFrame) : (s.produce f).links = s.links := rfl
@[simp] theorem State.day_produce (s : State) (f : UpFrame) : (s.produce f).day = s.day := rfl
@[simp] theorem State.settings_produce (s : State) (f : UpFrame) : (s.produce f).settings = s.settings := rfl
@[simp] theorem State.positions_produce (s : State) (f : UpFrame) : (s.produce f).positions = s.positions := rfl
@[simp] theorem State.cash_produce (s : State) (f : UpFrame) : (s.produce f).cash = s.cash := rfl
@[simp] theorem State.dct_produce (s : State) (f : UpFrame) : (s.produce f).dct = s.dct := rfl
@[simp] theorem State.bal_produce (s : State) (f : UpFrame) : (s.produce f).bal = s.bal := rfl
@[simp] theorem State.jnl_produce (s : State) (f : UpFrame) : (s.produce f).jnl = s.jnl := rfl
@[simp] theorem State.pbu_produce (s : State) (f : UpFrame) : (s.produce f).pbu = s.pbu := rfl
@[simp] theorem State.windows_produce (s : State) (f : UpFrame) : (s.produce f).windows = s.windows := rfl

/-! ### release -/

@[simp] theorem State.pending_release (s : State) (n : Fin 8) : (s.release n).pending = s.pending := rfl
@[simp] theorem State.supply_release (s : State) (n : Fin 8) : (s.release n).supply = s.supply := rfl
@[simp] theorem State.links_release (s : State) (n : Fin 8) : (s.release n).links = s.links := rfl
@[simp] theorem State.day_release (s : State) (n : Fin 8) : (s.release n).day = s.day := rfl
@[simp] theorem State.settings_release (s : State) (n : Fin 8) : (s.release n).settings = s.settings := rfl
@[simp] theorem State.cash_release (s : State) (n : Fin 8) : (s.release n).cash = s.cash := rfl
@[simp] theorem State.dct_release (s : State) (n : Fin 8) : (s.release n).dct = s.dct := rfl
@[simp] theorem State.bal_release (s : State) (n : Fin 8) : (s.release n).bal = s.bal := rfl
@[simp] theorem State.jnl_release (s : State) (n : Fin 8) : (s.release n).jnl = s.jnl := rfl
@[simp] theorem State.pbu_release (s : State) (n : Fin 8) : (s.release n).pbu = s.pbu := rfl
@[simp] theorem State.windows_release (s : State) (n : Fin 8) : (s.release n).windows = s.windows := rfl
@[simp] theorem State.ulc_release (s : State) (n : Fin 8) : (s.release n).ulc = s.ulc := rfl

/-! ### notifyDayChanged -/

@[simp] theorem State.pending_notifyDayChanged (s : State) : (s.notifyDayChanged).pending = s.pending := rfl
@[simp] theorem State.supply_notifyDayChanged (s : State) : (s.notifyDayChanged).supply = s.supply := rfl
@[simp] theorem State.day_notifyDayChanged (s : State) : (s.notifyDayChanged).day = s.day := rfl
@[simp] theorem State.settings_notifyDayChanged (s : State) : (s.notifyDayChanged).settings = s.settings := rfl
@[simp] theorem State.positions_notifyDayChanged (s : State) : (s.notifyDayChanged).positions = s.positions := rfl
@[simp] theorem State.cash_notifyDayChanged (s : State) : (s.notifyDayChanged).cash = s.cash := rfl
@[simp] theorem State.dct_notifyDayChanged (s : State) : (s.notifyDayChanged).dct = s.dct := rfl
@[simp] theorem State.bal_notifyDayChanged (s : State) : (s.notifyDayChanged).bal = s.bal := rfl
@[simp] theorem State.jnl_notifyDayChanged (s : State) : (s.notifyDayChanged).jnl = s.jnl := rfl
@[simp] theorem State.pbu_notifyDayChanged (s : State) : (s.notifyDayChanged).pbu = s.pbu := rfl
@[simp] theorem State.windows_notifyDayChanged (s : State) : (s.notifyDayChanged).windows = s.windows := rfl
@[simp] theorem State.ulc_notifyDayChanged (s : State) : (s.notifyDayChanged).ulc = s.ulc := rfl

/-! ### notify -/

@[simp] theorem State.pending_notify (s : State) (k : Notice) (l : Link) : (s.notify k l).pending = s.pending :=
  by unfold State.notify; split <;> rfl
@[simp] theorem State.supply_notify (s : State) (k : Notice) (l : Link) : (s.notify k l).supply = s.supply :=
  by unfold State.notify; split <;> rfl
@[simp] theorem State.day_notify (s : State) (k : Notice) (l : Link) : (s.notify k l).day = s.day :=
  by unfold State.notify; split <;> rfl
@[simp] theorem State.settings_notify (s : State) (k : Notice) (l : Link) : (s.notify k l).settings = s.settings :=
  by unfold State.notify; split <;> rfl
@[simp] theorem State.positions_notify (s : State) (k : Notice) (l : Link) : (s.notify k l).positions = s.positions :=
  by unfold State.notify; split <;> rfl
@[simp] theorem State.cash_notify (s : State) (k : Notice) (l : Link) : (s.notify k l).cash = s.cash :=
  by unfold State.notify; split <;> rfl
@[simp] theorem State.dct_notify (s : State) (k : Notice) (l : Link) : (s.notify k l).dct = s.dct :=
  by unfold State.notify; split <;> rfl
@[simp] theorem State.bal_notify (s : State) (k : Notice) (l : Link) : (s.notify k l).bal = s.bal :=
  by unfold State.notify; split <;> rfl
@[simp] theorem State.jnl_notify (s : State) (k : Notice) (l : Link) : (s.notify k l).jnl = s.jnl :=
  by unfold State.notify; split <;> rfl
@[simp] theorem State.pbu_notify (s : State) (k : Notice) (l : Link) : (s.notify k l).pbu = s.pbu :=
  by unfold State.notify; split <;> rfl
@[simp] theorem State.windows_notify (s : State) (k : Notice) (l : Link) : (s.notify k l).windows = s.windows :=
  by unfold State.notify; split <;> rfl
@[simp] theorem State.ulc_notify (s : State) (k : Notice) (l : Link) : (s.notify k l).ulc = s.ulc :=
  by unfold State.notify; split <;> rfl

/-! ### movePos -/

@[simp] theorem State.pending_movePos (s : State) (n : Fin 8) (st : PosState) : (s.movePos n st).pending = s.pending :=
  by simp [State.movePos]
@[simp] theorem State.supply_movePos (s : State) (n : Fin 8) (st : PosState) : (s.movePos n st).supply = s.supply :=
  by simp [State.movePos]
@[simp] theorem State.day_movePos (s : State) (n : Fin 8) (st : PosState) : (s.movePos n st).day = s.day :=
  by simp [State.movePos]
@[simp] theorem State.settings_movePos (s : State) (n : Fin 8) (st : PosState) : (s.movePos n st).settings = s.settings :=
  by simp [State.movePos]
@[simp] theorem State.cash_movePos (s : State) (n : Fin 8) (st : PosState) : (s.movePos n st).cash = s.cash :=
  by simp [State.movePos]
@[simp] theorem State.dct_movePos (s : State) (n : Fin 8) (st : PosState) : (s.movePos n st).dct = s.dct :=
  by simp [State.movePos]
@[simp] theorem State.bal_movePos (s : State) (n : Fin 8) (st : PosState) : (s.movePos n st).bal = s.bal :=
  by simp [State.movePos]
@[simp] theorem State.jnl_movePos (s : State) (n : Fin 8) (st : PosState) : (s.movePos n st).jnl = s.jnl :=
  by simp [State.movePos]
@[simp] theorem State.pbu_movePos (s : State) (n : Fin 8) (st : PosState) : (s.movePos n st).pbu = s.pbu :=
  by simp [State.movePos]
@[simp] theorem State.windows_movePos (s : State) (n : Fin 8) (st : PosState) : (s.movePos n st).windows = s.windows :=
  by simp [State.movePos]
@[simp] theorem State.ulc_movePos (s : State) (n : Fin 8) (st : PosState) : (s.movePos n st).ulc = s.ulc :=
  by simp [State.movePos]

/-! ### moveDay -/

@[simp] theorem State.pending_moveDay (s : State) (d : DayState) : (s.moveDay d).pending = s.pending := rfl
@[simp] theorem State.supply_moveDay (s : State) (d : DayState) : (s.moveDay d).supply = s.supply := rfl
@[simp] theorem State.settings_moveDay (s : State) (d : DayState) : (s.moveDay d).settings = s.settings := rfl
@[simp] theorem State.positions_moveDay (s : State) (d : DayState) : (s.moveDay d).positions = s.positions := rfl
@[simp] theorem State.cash_moveDay (s : State) (d : DayState) : (s.moveDay d).cash = s.cash := rfl
@[simp] theorem State.dct_moveDay (s : State) (d : DayState) : (s.moveDay d).dct = s.dct := rfl
@[simp] theorem State.bal_moveDay (s : State) (d : DayState) : (s.moveDay d).bal = s.bal := rfl
@[simp] theorem State.jnl_moveDay (s : State) (d : DayState) : (s.moveDay d).jnl = s.jnl := rfl
@[simp] theorem State.pbu_moveDay (s : State) (d : DayState) : (s.moveDay d).pbu = s.pbu := rfl
@[simp] theorem State.windows_moveDay (s : State) (d : DayState) : (s.moveDay d).windows = s.windows := rfl
@[simp] theorem State.ulc_moveDay (s : State) (d : DayState) : (s.moveDay d).ulc = s.ulc := rfl

/-! ### recordTag -/

@[simp] theorem State.pending_recordTag (s : State) (l : Link) (tag : Byte) : (s.recordTag l tag).pending = s.pending := rfl
@[simp] theorem State.supply_recordTag (s : State) (l : Link) (tag : Byte) : (s.recordTag l tag).supply = s.supply := rfl
@[simp] theorem State.day_recordTag (s : State) (l : Link) (tag : Byte) : (s.recordTag l tag).day = s.day := rfl
@[simp] theorem State.settings_recordTag (s : State) (l : Link) (tag : Byte) : (s.recordTag l tag).settings = s.settings :=
  rfl
@[simp] theorem State.positions_recordTag (s : State) (l : Link) (tag : Byte) : (s.recordTag l tag).positions = s.positions :=
  rfl
@[simp] theorem State.cash_recordTag (s : State) (l : Link) (tag : Byte) : (s.recordTag l tag).cash = s.cash := rfl
@[simp] theorem State.dct_recordTag (s : State) (l : Link) (tag : Byte) : (s.recordTag l tag).dct = s.dct := rfl
@[simp] theorem State.bal_recordTag (s : State) (l : Link) (tag : Byte) : (s.recordTag l tag).bal = s.bal := rfl
@[simp] theorem State.jnl_recordTag (s : State) (l : Link) (tag : Byte) : (s.recordTag l tag).jnl = s.jnl := rfl
@[simp] theorem State.pbu_recordTag (s : State) (l : Link) (tag : Byte) : (s.recordTag l tag).pbu = s.pbu := rfl
@[simp] theorem State.windows_recordTag (s : State) (l : Link) (tag : Byte) : (s.recordTag l tag).windows = s.windows := rfl
@[simp] theorem State.ulc_recordTag (s : State) (l : Link) (tag : Byte) : (s.recordTag l tag).ulc = s.ulc := rfl

/-! ### reply -/

@[simp] theorem State.pending_reply (s : State) (l : Link) (kind tag : Byte) (c : Code) (rest : Bytes) : (s.reply l kind tag c rest).pending = s.pending :=
  rfl
@[simp] theorem State.supply_reply (s : State) (l : Link) (kind tag : Byte) (c : Code) (rest : Bytes) : (s.reply l kind tag c rest).supply = s.supply :=
  rfl
@[simp] theorem State.day_reply (s : State) (l : Link) (kind tag : Byte) (c : Code) (rest : Bytes) : (s.reply l kind tag c rest).day = s.day :=
  rfl
@[simp] theorem State.settings_reply (s : State) (l : Link) (kind tag : Byte) (c : Code) (rest : Bytes) : (s.reply l kind tag c rest).settings = s.settings :=
  rfl
@[simp] theorem State.positions_reply (s : State) (l : Link) (kind tag : Byte) (c : Code) (rest : Bytes) : (s.reply l kind tag c rest).positions = s.positions :=
  rfl
@[simp] theorem State.cash_reply (s : State) (l : Link) (kind tag : Byte) (c : Code) (rest : Bytes) : (s.reply l kind tag c rest).cash = s.cash :=
  rfl
@[simp] theorem State.dct_reply (s : State) (l : Link) (kind tag : Byte) (c : Code) (rest : Bytes) : (s.reply l kind tag c rest).dct = s.dct :=
  rfl
@[simp] theorem State.bal_reply (s : State) (l : Link) (kind tag : Byte) (c : Code) (rest : Bytes) : (s.reply l kind tag c rest).bal = s.bal :=
  rfl
@[simp] theorem State.jnl_reply (s : State) (l : Link) (kind tag : Byte) (c : Code) (rest : Bytes) : (s.reply l kind tag c rest).jnl = s.jnl :=
  rfl
@[simp] theorem State.pbu_reply (s : State) (l : Link) (kind tag : Byte) (c : Code) (rest : Bytes) : (s.reply l kind tag c rest).pbu = s.pbu :=
  rfl
@[simp] theorem State.windows_reply (s : State) (l : Link) (kind tag : Byte) (c : Code) (rest : Bytes) : (s.reply l kind tag c rest).windows = s.windows :=
  rfl
@[simp] theorem State.ulc_reply (s : State) (l : Link) (kind tag : Byte) (c : Code) (rest : Bytes) : (s.reply l kind tag c rest).ulc = s.ulc :=
  rfl

/-! ### arrive -/

@[simp] theorem State.pending_arrive (s : State) (l : Link) : (s.arrive l).pending = s.pending := by cases l <;> rfl
@[simp] theorem State.supply_arrive (s : State) (l : Link) : (s.arrive l).supply = s.supply := by cases l <;> rfl
@[simp] theorem State.day_arrive (s : State) (l : Link) : (s.arrive l).day = s.day := by cases l <;> rfl
@[simp] theorem State.settings_arrive (s : State) (l : Link) : (s.arrive l).settings = s.settings := by cases l <;> rfl
@[simp] theorem State.cash_arrive (s : State) (l : Link) : (s.arrive l).cash = s.cash := by cases l <;> rfl
@[simp] theorem State.dct_arrive (s : State) (l : Link) : (s.arrive l).dct = s.dct := by cases l <;> rfl
@[simp] theorem State.bal_arrive (s : State) (l : Link) : (s.arrive l).bal = s.bal := by cases l <;> rfl
@[simp] theorem State.jnl_arrive (s : State) (l : Link) : (s.arrive l).jnl = s.jnl := by cases l <;> rfl
@[simp] theorem State.pbu_arrive (s : State) (l : Link) : (s.arrive l).pbu = s.pbu := by cases l <;> rfl
@[simp] theorem State.windows_arrive (s : State) (l : Link) : (s.arrive l).windows = s.windows := by cases l <;> rfl
@[simp] theorem State.ulc_arrive (s : State) (l : Link) : (s.arrive l).ulc = s.ulc := by cases l <;> rfl

/-! ### accept -/

@[simp] theorem State.pending_accept (s : State) (l : Link) : (s.accept l).pending = s.pending := by cases l <;> rfl
@[simp] theorem State.supply_accept (s : State) (l : Link) : (s.accept l).supply = s.supply := by cases l <;> rfl
@[simp] theorem State.day_accept (s : State) (l : Link) : (s.accept l).day = s.day := by cases l <;> rfl
@[simp] theorem State.settings_accept (s : State) (l : Link) : (s.accept l).settings = s.settings := by cases l <;> rfl
@[simp] theorem State.cash_accept (s : State) (l : Link) : (s.accept l).cash = s.cash := by cases l <;> rfl
@[simp] theorem State.dct_accept (s : State) (l : Link) : (s.accept l).dct = s.dct := by cases l <;> rfl
@[simp] theorem State.bal_accept (s : State) (l : Link) : (s.accept l).bal = s.bal := by cases l <;> rfl
@[simp] theorem State.jnl_accept (s : State) (l : Link) : (s.accept l).jnl = s.jnl := by cases l <;> rfl
@[simp] theorem State.pbu_accept (s : State) (l : Link) : (s.accept l).pbu = s.pbu := by cases l <;> rfl
@[simp] theorem State.windows_accept (s : State) (l : Link) : (s.accept l).windows = s.windows := by cases l <;> rfl
@[simp] theorem State.ulc_accept (s : State) (l : Link) : (s.accept l).ulc = s.ulc := by cases l <;> rfl

/-! ### append -/

@[simp] theorem State.pending_append (s : State) (r : Record) : (s.append r).pending = s.pending :=
  by simp only [State.append]; split <;> simp
@[simp] theorem State.supply_append (s : State) (r : Record) : (s.append r).supply = s.supply :=
  by simp only [State.append]; split <;> simp
@[simp] theorem State.day_append (s : State) (r : Record) : (s.append r).day = s.day :=
  by simp only [State.append]; split <;> simp
@[simp] theorem State.settings_append (s : State) (r : Record) : (s.append r).settings = s.settings :=
  by simp only [State.append]; split <;> simp
@[simp] theorem State.positions_append (s : State) (r : Record) : (s.append r).positions = s.positions :=
  by simp only [State.append]; split <;> simp
@[simp] theorem State.cash_append (s : State) (r : Record) : (s.append r).cash = s.cash :=
  by simp only [State.append]; split <;> simp
@[simp] theorem State.dct_append (s : State) (r : Record) : (s.append r).dct = s.dct :=
  by simp only [State.append]; split <;> simp
@[simp] theorem State.bal_append (s : State) (r : Record) : (s.append r).bal = s.bal :=
  by simp only [State.append]; split <;> simp
@[simp] theorem State.pbu_append (s : State) (r : Record) : (s.append r).pbu = s.pbu :=
  by simp only [State.append]; split <;> simp
@[simp] theorem State.windows_append (s : State) (r : Record) : (s.append r).windows = s.windows :=
  by simp only [State.append]; split <;> simp
@[simp] theorem State.ulc_append (s : State) (r : Record) : (s.append r).ulc = s.ulc :=
  by simp only [State.append]; split <;> simp

/-! ### appendSystem -/

@[simp] theorem State.pending_appendSystem (s : State) (r : Record) : (s.appendSystem r).pending = s.pending :=
  by unfold State.appendSystem; split <;> simp
@[simp] theorem State.supply_appendSystem (s : State) (r : Record) : (s.appendSystem r).supply = s.supply :=
  by unfold State.appendSystem; split <;> simp
@[simp] theorem State.day_appendSystem (s : State) (r : Record) : (s.appendSystem r).day = s.day :=
  by unfold State.appendSystem; split <;> simp
@[simp] theorem State.settings_appendSystem (s : State) (r : Record) : (s.appendSystem r).settings = s.settings :=
  by unfold State.appendSystem; split <;> simp
@[simp] theorem State.positions_appendSystem (s : State) (r : Record) : (s.appendSystem r).positions = s.positions :=
  by unfold State.appendSystem; split <;> simp
@[simp] theorem State.cash_appendSystem (s : State) (r : Record) : (s.appendSystem r).cash = s.cash :=
  by unfold State.appendSystem; split <;> simp
@[simp] theorem State.dct_appendSystem (s : State) (r : Record) : (s.appendSystem r).dct = s.dct :=
  by unfold State.appendSystem; split <;> simp
@[simp] theorem State.bal_appendSystem (s : State) (r : Record) : (s.appendSystem r).bal = s.bal :=
  by unfold State.appendSystem; split <;> simp
@[simp] theorem State.pbu_appendSystem (s : State) (r : Record) : (s.appendSystem r).pbu = s.pbu :=
  by unfold State.appendSystem; split <;> simp
@[simp] theorem State.windows_appendSystem (s : State) (r : Record) : (s.appendSystem r).windows = s.windows :=
  by unfold State.appendSystem; split <;> simp
@[simp] theorem State.ulc_appendSystem (s : State) (r : Record) : (s.appendSystem r).ulc = s.ulc :=
  by unfold State.appendSystem; split <;> simp

/-! ### endJob -/

@[simp] theorem State.pending_endJob (s : State) (j : Job) (o : PrintOutcome) (p : Option (Fin 2)) (c : Option FaultCause) : (s.endJob j o p c).pending = s.pending :=
  by simp [State.endJob]
@[simp] theorem State.supply_endJob (s : State) (j : Job) (o : PrintOutcome) (p : Option (Fin 2)) (c : Option FaultCause) : (s.endJob j o p c).supply = s.supply :=
  by simp [State.endJob]
@[simp] theorem State.day_endJob (s : State) (j : Job) (o : PrintOutcome) (p : Option (Fin 2)) (c : Option FaultCause) : (s.endJob j o p c).day = s.day :=
  by simp [State.endJob]
@[simp] theorem State.settings_endJob (s : State) (j : Job) (o : PrintOutcome) (p : Option (Fin 2)) (c : Option FaultCause) : (s.endJob j o p c).settings = s.settings :=
  by simp [State.endJob]
@[simp] theorem State.positions_endJob (s : State) (j : Job) (o : PrintOutcome) (p : Option (Fin 2)) (c : Option FaultCause) : (s.endJob j o p c).positions = s.positions :=
  by simp [State.endJob]
@[simp] theorem State.cash_endJob (s : State) (j : Job) (o : PrintOutcome) (p : Option (Fin 2)) (c : Option FaultCause) : (s.endJob j o p c).cash = s.cash :=
  by simp [State.endJob]
@[simp] theorem State.dct_endJob (s : State) (j : Job) (o : PrintOutcome) (p : Option (Fin 2)) (c : Option FaultCause) : (s.endJob j o p c).dct = s.dct :=
  by simp [State.endJob]
@[simp] theorem State.bal_endJob (s : State) (j : Job) (o : PrintOutcome) (p : Option (Fin 2)) (c : Option FaultCause) : (s.endJob j o p c).bal = s.bal :=
  by simp [State.endJob]
@[simp] theorem State.windows_endJob (s : State) (j : Job) (o : PrintOutcome) (p : Option (Fin 2)) (c : Option FaultCause) : (s.endJob j o p c).windows = s.windows :=
  by simp [State.endJob]
@[simp] theorem State.ulc_endJob (s : State) (j : Job) (o : PrintOutcome) (p : Option (Fin 2)) (c : Option FaultCause) : (s.endJob j o p c).ulc = s.ulc :=
  by simp [State.endJob]

/-! ### settleIdle -/

@[simp] theorem State.pending_settleIdle (s : State) : (s.settleIdle).pending = s.pending := rfl
@[simp] theorem State.supply_settleIdle (s : State) : (s.settleIdle).supply = s.supply := rfl
@[simp] theorem State.links_settleIdle (s : State) : (s.settleIdle).links = s.links := rfl
@[simp] theorem State.day_settleIdle (s : State) : (s.settleIdle).day = s.day := rfl
@[simp] theorem State.settings_settleIdle (s : State) : (s.settleIdle).settings = s.settings := rfl
@[simp] theorem State.cash_settleIdle (s : State) : (s.settleIdle).cash = s.cash := rfl
@[simp] theorem State.dct_settleIdle (s : State) : (s.settleIdle).dct = s.dct := rfl
@[simp] theorem State.bal_settleIdle (s : State) : (s.settleIdle).bal = s.bal := rfl
@[simp] theorem State.jnl_settleIdle (s : State) : (s.settleIdle).jnl = s.jnl := rfl
@[simp] theorem State.pbu_settleIdle (s : State) : (s.settleIdle).pbu = s.pbu := rfl
@[simp] theorem State.windows_settleIdle (s : State) : (s.settleIdle).windows = s.windows := rfl
@[simp] theorem State.ulc_settleIdle (s : State) : (s.settleIdle).ulc = s.ulc := rfl

/-! ### settleWindows -/

@[simp] theorem State.pending_settleWindows (s : State) : (s.settleWindows).pending = s.pending := rfl
@[simp] theorem State.supply_settleWindows (s : State) : (s.settleWindows).supply = s.supply := rfl
@[simp] theorem State.links_settleWindows (s : State) : (s.settleWindows).links = s.links := rfl
@[simp] theorem State.day_settleWindows (s : State) : (s.settleWindows).day = s.day := rfl
@[simp] theorem State.settings_settleWindows (s : State) : (s.settleWindows).settings = s.settings := rfl
@[simp] theorem State.positions_settleWindows (s : State) : (s.settleWindows).positions = s.positions := rfl
@[simp] theorem State.cash_settleWindows (s : State) : (s.settleWindows).cash = s.cash := rfl
@[simp] theorem State.dct_settleWindows (s : State) : (s.settleWindows).dct = s.dct := rfl
@[simp] theorem State.bal_settleWindows (s : State) : (s.settleWindows).bal = s.bal := rfl
@[simp] theorem State.jnl_settleWindows (s : State) : (s.settleWindows).jnl = s.jnl := rfl
@[simp] theorem State.pbu_settleWindows (s : State) : (s.settleWindows).pbu = s.pbu := rfl
@[simp] theorem State.ulc_settleWindows (s : State) : (s.settleWindows).ulc = s.ulc := rfl

/-! ### settle -/

@[simp] theorem State.pending_settle (s : State) : (s.settle).pending = s.pending :=
  by unfold State.settle State.whenAlive; split <;> rfl
@[simp] theorem State.supply_settle (s : State) : (s.settle).supply = s.supply :=
  by unfold State.settle State.whenAlive; split <;> rfl
@[simp] theorem State.links_settle (s : State) : (s.settle).links = s.links :=
  by unfold State.settle State.whenAlive; split <;> rfl
@[simp] theorem State.day_settle (s : State) : (s.settle).day = s.day :=
  by unfold State.settle State.whenAlive; split <;> rfl
@[simp] theorem State.settings_settle (s : State) : (s.settle).settings = s.settings :=
  by unfold State.settle State.whenAlive; split <;> rfl
@[simp] theorem State.cash_settle (s : State) : (s.settle).cash = s.cash :=
  by unfold State.settle State.whenAlive; split <;> rfl
@[simp] theorem State.dct_settle (s : State) : (s.settle).dct = s.dct :=
  by unfold State.settle State.whenAlive; split <;> rfl
@[simp] theorem State.bal_settle (s : State) : (s.settle).bal = s.bal :=
  by unfold State.settle State.whenAlive; split <;> rfl
@[simp] theorem State.jnl_settle (s : State) : (s.settle).jnl = s.jnl :=
  by unfold State.settle State.whenAlive; split <;> rfl
@[simp] theorem State.pbu_settle (s : State) : (s.settle).pbu = s.pbu :=
  by unfold State.settle State.whenAlive; split <;> rfl
@[simp] theorem State.ulc_settle (s : State) : (s.settle).ulc = s.ulc :=
  by unfold State.settle State.whenAlive; split <;> rfl

/-! ### darken -/

@[simp] theorem State.pending_darken (s : State) : (s.darken).pending = s.pending := rfl
@[simp] theorem State.supply_darken (s : State) : (s.darken).supply = s.supply := rfl
@[simp] theorem State.links_darken (s : State) : (s.darken).links = s.links := rfl
@[simp] theorem State.day_darken (s : State) : (s.darken).day = s.day := rfl
@[simp] theorem State.settings_darken (s : State) : (s.darken).settings = s.settings := rfl
@[simp] theorem State.positions_darken (s : State) : (s.darken).positions = s.positions := rfl
@[simp] theorem State.cash_darken (s : State) : (s.darken).cash = s.cash := rfl
@[simp] theorem State.dct_darken (s : State) : (s.darken).dct = s.dct := rfl
@[simp] theorem State.bal_darken (s : State) : (s.darken).bal = s.bal := rfl
@[simp] theorem State.jnl_darken (s : State) : (s.darken).jnl = s.jnl := rfl
@[simp] theorem State.pbu_darken (s : State) : (s.darken).pbu = s.pbu := rfl
@[simp] theorem State.ulc_darken (s : State) : (s.darken).ulc = s.ulc := rfl

/-! ### stopOutputs -/

@[simp] theorem State.pending_stopOutputs (s : State) : (s.stopOutputs).pending = s.pending := rfl
@[simp] theorem State.supply_stopOutputs (s : State) : (s.stopOutputs).supply = s.supply := rfl
@[simp] theorem State.links_stopOutputs (s : State) : (s.stopOutputs).links = s.links := rfl
@[simp] theorem State.day_stopOutputs (s : State) : (s.stopOutputs).day = s.day := rfl
@[simp] theorem State.settings_stopOutputs (s : State) : (s.stopOutputs).settings = s.settings := rfl
@[simp] theorem State.positions_stopOutputs (s : State) : (s.stopOutputs).positions = s.positions := rfl
@[simp] theorem State.cash_stopOutputs (s : State) : (s.stopOutputs).cash = s.cash := rfl
@[simp] theorem State.dct_stopOutputs (s : State) : (s.stopOutputs).dct = s.dct := rfl
@[simp] theorem State.bal_stopOutputs (s : State) : (s.stopOutputs).bal = s.bal := rfl
@[simp] theorem State.jnl_stopOutputs (s : State) : (s.stopOutputs).jnl = s.jnl := rfl
@[simp] theorem State.windows_stopOutputs (s : State) : (s.stopOutputs).windows = s.windows := rfl

/-! ### oneHz -/

@[simp] theorem State.pending_oneHz (s : State) : (s.oneHz).pending = s.pending := rfl
@[simp] theorem State.supply_oneHz (s : State) : (s.oneHz).supply = s.supply := rfl
@[simp] theorem State.links_oneHz (s : State) : (s.oneHz).links = s.links := rfl
@[simp] theorem State.settings_oneHz (s : State) : (s.oneHz).settings = s.settings := rfl
@[simp] theorem State.positions_oneHz (s : State) : (s.oneHz).positions = s.positions := rfl
@[simp] theorem State.cash_oneHz (s : State) : (s.oneHz).cash = s.cash := rfl
@[simp] theorem State.dct_oneHz (s : State) : (s.oneHz).dct = s.dct := rfl
@[simp] theorem State.bal_oneHz (s : State) : (s.oneHz).bal = s.bal := rfl
@[simp] theorem State.jnl_oneHz (s : State) : (s.oneHz).jnl = s.jnl := rfl
@[simp] theorem State.pbu_oneHz (s : State) : (s.oneHz).pbu = s.pbu := rfl
@[simp] theorem State.windows_oneHz (s : State) : (s.oneHz).windows = s.windows := rfl
@[simp] theorem State.ulc_oneHz (s : State) : (s.oneHz).ulc = s.ulc := rfl

/-! ### countAll -/

@[simp] theorem State.pending_countAll (s : State) : (s.countAll).pending = s.pending := rfl
@[simp] theorem State.supply_countAll (s : State) : (s.countAll).supply = s.supply := rfl
@[simp] theorem State.day_countAll (s : State) : (s.countAll).day = s.day := rfl
@[simp] theorem State.settings_countAll (s : State) : (s.countAll).settings = s.settings := rfl
@[simp] theorem State.cash_countAll (s : State) : (s.countAll).cash = s.cash := rfl
@[simp] theorem State.bal_countAll (s : State) : (s.countAll).bal = s.bal := rfl
@[simp] theorem State.jnl_countAll (s : State) : (s.countAll).jnl = s.jnl := rfl

end Sys2Proof.Machine
end

