-- ==== Sys2Proof/Laws/Ops.lean ====
section
/-! SUPPORT. For each shared operation, once, everything it can do: checks, notices, appended records, the taking of a
request, and the bytes of a number. -/

namespace Sys2Proof.Machine

/-! ### Checks -/

theorem check_eq_ok {α : Type} {p : Prop} [Decidable p] {c : Code} {k : Except Code α} {a : α} :
    check p c k = .ok a ↔ p ∧ k = .ok a := by
  unfold check; split <;> simp_all

theorem check_eq_error {α : Type} {p : Prop} [Decidable p] {c d : Code} {k : Except Code α} :
    check p c k = .error d ↔ (¬p ∧ d = c) ∨ (p ∧ k = .error d) := by
  unfold check; split <;> simp_all [eq_comm]

@[simp] theorem check_pos {α : Type} {p : Prop} [Decidable p] {c : Code} {k : Except Code α} (h : p) : check p c k = k := by
  simp [check, h]
@[simp] theorem check_neg {α : Type} {p : Prop} [Decidable p] {c : Code} {k : Except Code α} (h : ¬p) :
    check p c k = .error c := by
  simp [check, h]

/-! ### A part that takes no event -/

theorem whenAlive_alive {s : State} (f : State → State) (h : s.alive = true) : s.whenAlive f = f s := by
  simp [State.whenAlive, h]
theorem whenAlive_dead {s : State} (f : State → State) (h : s.alive = false) : s.whenAlive f = s := by
  simp [State.whenAlive, h]
theorem event_alive {s : State} (f : State → State) (h : s.alive = true) : event f s = (f s).settle := by
  simp [event, State.whenAlive, h]

/-! ### Notices -/

theorem link_notify_ne (s : State) (k : Notice) {l j : Link} (h : j ≠ l) : (s.notify k l).link j = s.link j := by
  unfold State.notify; split
  · exact State.link_onLink_ne _ _ h
  · rfl

theorem link_notify_self (s : State) (k : Notice) (l : Link) (h : k.carriedBy l = true) :
    (s.notify k l).link l = (s.link l).flag k := by
  simp [State.notify, h]

theorem notify_uncarried (s : State) (k : Notice) (l : Link) (h : k.carriedBy l = false) : s.notify k l = s := by
  simp [State.notify, h]

/-- The places of the notice kinds are distinct. -/
theorem Notice.idx_inj {j k : Notice} (h : j.idx = k.idx) : j = k := by revert h; cases j <;> cases k <;> decide

/-- A notice sets its own flag, on its own link, where the link carries it, and no other. -/
theorem notices_notify (s : State) (k j : Notice) (l m : Link) :
    ((s.notify k l).link m).notices.get j.idx =
      ((s.link m).notices.get j.idx || (decide (j = k) && decide (m = l) && k.carriedBy l)) := by
  by_cases hc : k.carriedBy l = true
  · by_cases hm : m = l
    · subst hm
      rw [link_notify_self s k m hc, LinkRec.flag, Vec.get_set]
      by_cases hj : j = k
      · simp [hj, hc]
      · simp [hj, show ¬j.idx = k.idx from fun e => hj (Notice.idx_inj e)]
    · simp [link_notify_ne s k hm, hm]
  · rw [notify_uncarried s k l (by simpa using hc)]
    simp [hc]

/-- A notice changes nothing of a link but its notices. -/
theorem link_notify_frame (s : State) (k : Notice) (l m : Link) :
    (s.notify k l).link m = { s.link m with notices := ((s.notify k l).link m).notices } := by
  by_cases hm : m = l
  · subst hm
    by_cases hc : k.carriedBy m = true
    · simp [link_notify_self s k m hc, LinkRec.flag]
    · rw [notify_uncarried s k m (by simpa using hc)]
  · rw [link_notify_ne s k hm]

/-! ### Records -/

theorem append_jnl (s : State) (r : Record) : (s.append r).jnl = s.jnl.withRecord s.day.seconds r := by
  have h : ∀ a b : Bool, (a || !a && b) = (a || b) := by decide
  unfold State.append
  simp only []
  split <;> simp [Journal.withRecord, Config.journalHigh, h]

theorem appendSystem_jnl (s : State) (r : Record) : (s.appendSystem r).jnl = s.jnl.withSystem s.day.seconds r := by
  unfold State.appendSystem Journal.withSystem
  by_cases h : s.jnl.records.length < 4096
  · simp [h, Config.journalRoom, append_jnl]
  · have e : holdAt 65535 (s.jnl.unjournaled + 1) = min 65535 (s.jnl.unjournaled + 1) := by
      unfold holdAt; split <;> omega
    simp [h, Config.journalRoom, Config.hold16, e]

/-! ### What composing leaves -/

theorem core_settle (s : State) (n : Fin 8) : (s.settle.pos n).core = (s.pos n).core := by
  unfold State.settle State.whenAlive
  split
  · simp [State.pos, State.settleIdle, State.settleWindows, Position.core]
  · rfl

theorem layers_settle (s : State) (m : Fin 8) : s.SameLayers s.settle m := by
  unfold State.settle State.whenAlive State.SameLayers
  split
  · simp [State.window, State.settleIdle, State.settleWindows, State.settleWindow]
  · simp

theorem link_settle (s : State) (l : Link) : s.settle.link l = s.link l := by simp [State.link]

/-! ### Requests -/

theorem requestWith_dead {l : Link} {kind tag : Byte} {acting : Bool} {judge : State → Judged} {s : State}
    (h : s.alive = false) : requestWith l kind tag acting judge s = s := by
  simp [requestWith, State.whenAlive, h]

/-- An accepted request that its judgement refuses changes nothing but its link and its silence. -/
theorem requestWith_error {l : Link} {kind tag : Byte} {acting : Bool} {judge : State → Judged} {s : State} {c : Code}
    (h : s.Accepts l) (hj : judge (s.accept l) = .error c) :
    requestWith l kind tag acting judge s = ((s.accept l).reply l kind tag c []).settle := by
  simp [requestWith, State.whenAlive, h.1, h.2, hj, answer]

/-- An accepted request that its judgement takes is answered from the state the judgement gives. -/
theorem requestWith_ok {l : Link} {kind tag : Byte} {acting : Bool} {judge : State → Judged} {s : State} {t : Taken}
    (h : s.Accepts l) (hj : judge (s.accept l) = .ok t) :
    requestWith l kind tag acting judge s =
      ((if acting then t.state.recordTag l tag else t.state).reply l kind tag t.code t.rest).settle := by
  simp [requestWith, State.whenAlive, h.1, h.2, hj, answer]

theorem judgeRequest_eq_ok {l : Link} {k : Kind} {body : Bytes} {h : State → Judged} {s : State} {t : Taken} :
    judgeRequest l k body h s = .ok t ↔ k.allows l = true ∧ k.admits l body.length = true ∧ h s = .ok t := by
  simp only [judgeRequest, check_eq_ok]

/-! ### Station lines -/

/-- The silence of a line leaves a receiver in HUNT, and abandons the frame of one in RECEIVING (01 R3). -/
theorem silent_hunt {r : LinkRec} (h : r.receiver = .hunt) : r.silent = r := by simp [LinkRec.silent, h]
theorem silent_receiving {r : LinkRec} (h : r.receiver = .receiving) : r.silent = r.abandon := by simp [LinkRec.silent, h]
theorem silent_skipping {r : LinkRec} (h : r.receiver = .skipping) :
    r.silent = { r with receiver := .hunt, frame := [], quiet := none } := by simp [LinkRec.silent, h]

/-- A request of the position's own link ends its silence, and no position is idle at once (03 R48). -/
@[simp] theorem core_hear (b : Nat) (p : Position) : (p.hear b).core = { p.core with silence := 0 } := rfl
theorem idle_hear {b : Nat} (p : Position) (h : 0 < b) : (p.hear b).idle = false := by
  simp [Position.hear, Position.isIdle]; omega

/-- The last byte of any reply but a pending RESTART's own leaves the line and nothing more; that one begins the reset
(01 R5, 02 R34). -/
theorem replySent_plain {s : State} {l : Link} (h : ¬(l = .sl ∧ s.supply.restartPending = true ∧ (s.link .sl).ownFirst = true)) :
    s.replySent l = s.onLink l LinkRec.replySent := by simp only [State.replySent, h, if_false]
theorem replySent_restart {s : State} (h : s.supply.restartPending = true) (own : (s.link .sl).ownFirst = true) :
    s.replySent .sl = (s.onLink .sl LinkRec.ownSent).warmReset .warmRestart := by
  simp [State.replySent, State.warmRestart, h, own]

/-! ### The uplink's line -/

theorem upLine_dead {s : State} (h : s.alive = false) : s.upLine = .nothing := by simp [State.upLine, h]
theorem upLine_idle {s : State} (h : s.alive = true) (f : s.ulc.sending = none) : s.upLine = .flags := by
  simp [State.upLine, h, f]
theorem upLine_sending {s : State} {f : UpFrame} (h : s.alive = true) (e : s.ulc.sending = some f) :
    s.upLine = .frame f.line := by simp [State.upLine, h, e]

/-! ### The end of an eject -/

/-- The end of an eject makes BOOK-LEFT given No but where the page is to be turned (08 R154). -/
theorem bookLeft_ejected (r : Printer) : r.ejected = if r.turnsPage then r else { r with bookLeft := false } := by
  unfold Printer.ejected
  cases h : r.turnsPage <;> simp

/-! ### Numbers as bytes -/

@[simp] theorem be_length (k n : Nat) : (be k n).length = k := by
  induction k with
  | zero => rfl
  | succ k ih => simp [be, ih]

theorem ofBytes_foldl (b : Bytes) (a : Nat) :
    b.foldl (fun a x => a * 256 + x.toNat) a = a * 256 ^ b.length + ofBytes b := by
  induction b generalizing a with
  | nil => simp [ofBytes]
  | cons x b ih =>
    simp only [List.foldl_cons, List.length_cons, ofBytes, Nat.zero_mul, Nat.zero_add]
    rw [ih, ih (x.toNat)]
    rw [Nat.pow_succ, Nat.add_mul, Nat.mul_assoc, Nat.mul_comm 256, Nat.add_assoc]

theorem ofBytes_cons (x : Byte) (b : Bytes) : ofBytes (x :: b) = x.toNat * 256 ^ b.length + ofBytes b := by
  simp only [ofBytes, List.foldl_cons, Nat.zero_mul, Nat.zero_add]
  exact ofBytes_foldl b _

theorem ofBytes_append (a b : Bytes) : ofBytes (a ++ b) = ofBytes a * 256 ^ b.length + ofBytes b := by
  rw [ofBytes, List.foldl_append, ofBytes_foldl]
  rfl

/-- The number that `k` bytes carry. -/
theorem ofBytes_be (k n : Nat) : ofBytes (be k n) = n % 256 ^ k := by
  induction k with
  | zero => simp [be, ofBytes, Nat.mod_one]
  | succ k ih =>
    have h : n % 256 ^ (k + 1) = n % 256 ^ k + 256 ^ k * (n / 256 ^ k % 256) := by rw [Nat.pow_succ, Nat.mod_mul]
    rw [be, ofBytes_cons, ih, be_length, BitVec.toNat_ofNat, h, Nat.add_comm, Nat.mul_comm]

end Sys2Proof.Machine
end

