-- ==== Sys2Proof/Laws/PerInstr.lean ====
section
/-! SUPPORT. Statements about every command as syntax, one lemma per constructor of `Instr`. -/

namespace Sys2Proof.Laws

/-- The body bytes of a request's frame: its own, or the two that a PRINTER-SERVICE row stands for. -/
def Frames.body : Instr → Option Bytes
  | .unknownKind _ _ _ body | .takeNotices _ _ body | .statusTeller _ _ body | .statusSupervisor _ body
  | .cutoff _ _ body | .reopenDay _ _ body | .send _ _ body | .resend _ _ body | .config _ _ body | .restart _ _ body
  | .signOn _ _ body | .openTxn _ _ body | .closeTxn _ _ body | .away _ _ body | .unlock _ _ body | .signOff _ _ body
  | .forceSignOff _ _ body | .readPosition _ _ body | .post _ _ body | .void _ _ body | .readCashTeller _ _ body
  | .readCashSupervisor _ body | .propose _ _ body | .confirm _ _ body | .decline _ _ body | .withdraw _ _ body
  | .beginBalance _ _ body | .declare _ _ body | .forceBalance _ _ body | .reopen _ _ body | .vaultDeclare _ _ body
  | .readProfile _ _ body | .readJournal _ _ body | .printBook _ _ body | .cancelPrint _ _ body | .showText _ _ body => some body
  | .printerServiceOffline _ _ printer => some [printer, 1]
  | .printerServiceOnline _ _ printer => some [printer, 2]
  | .printerServiceClear _ _ printer => some [printer, 3]
  | .lineFault _ | .lengthByteAbove250 _ _ | .interByteGap _ | .lineSilent _ | .frameCheckFailed _ | .replySent _
  | .warmRestart | .resetLineAsserted | .warmLine | .mainPowerFail | .backupLow | .mainPowerReturn | .oneHzTick
  | .eightHzTick | .idle _ | .sensorInputChange _ _ | .opening _ | .shutting _ | .releaseWindowEnd _ | .drawerLong _
  | .serviceLong _ | .expiry _ | .insertion _ | .removal _ | .noBook _ | .pageTimeout _ | .bookConfirmed _
  | .encoderStep _ _ | .jam _ | .strikeDone _ | .strikeTimeEnd _ | .bookLeft _ | .seeTellerTimeEnd _ | .textHoldEnd _
  | .uplinkFrameDiscarded _ | .pingReply | .dayOpen _ | .blockAck _ | .blockNak _ | .answerTimeEnd _ | .dayAccepted _
  | .dayRejected _ | .verdictWaitEnd | .uplinkFrameSent | .pingRound | .pingWaitEnd | .stationByteReceived _ _ => none

/-- A well-formed command's body, where it has one, fits a station frame: its length is a length byte that the receiver
does not abandon (01 R3). -/
def Frames.Statement (i : Instr) : Prop :=
  i.wellFormed = true → ∀ b, Frames.body i = some b → b.length ≤ 250

theorem Frames.of_none {i : Instr} (h : Frames.body i = none) : Frames.Statement i := by
  intro _ b hb
  rw [h] at hb
  cases hb

theorem Frames.of_fits {i : Instr} {body : Bytes} (h : Frames.body i = some body)
    (hw : i.wellFormed = true → bodyFits body = true) : Frames.Statement i := by
  intro w b hb
  rw [h] at hb
  cases hb
  simpa [bodyFits] using hw w

theorem Frames.lineFault (link : Link) : Frames.Statement (.lineFault link) := Frames.of_none rfl
theorem Frames.lengthByteAbove250 (link : Link) (byte : Byte) : Frames.Statement (.lengthByteAbove250 link byte) :=
  Frames.of_none rfl
theorem Frames.interByteGap (link : Link) : Frames.Statement (.interByteGap link) := Frames.of_none rfl
theorem Frames.lineSilent (link : Link) : Frames.Statement (.lineSilent link) := Frames.of_none rfl
theorem Frames.frameCheckFailed (link : Link) : Frames.Statement (.frameCheckFailed link) := Frames.of_none rfl
theorem Frames.unknownKind (link : Link) (kind tag : Byte) (body : Bytes) : Frames.Statement (.unknownKind link kind tag body) :=
  Frames.of_fits rfl (fun w => (Bool.and_eq_true _ _ ▸ w : _ ∧ _).2)
theorem Frames.replySent (link : Link) : Frames.Statement (.replySent link) := Frames.of_none rfl
theorem Frames.takeNotices (link : Link) (tag : Byte) (body : Bytes) : Frames.Statement (.takeNotices link tag body) :=
  Frames.of_fits rfl id
theorem Frames.statusTeller (n : Fin 8) (tag : Byte) (body : Bytes) : Frames.Statement (.statusTeller n tag body) :=
  Frames.of_fits rfl id
theorem Frames.statusSupervisor (tag : Byte) (body : Bytes) : Frames.Statement (.statusSupervisor tag body) :=
  Frames.of_fits rfl id
theorem Frames.cutoff (link : Link) (tag : Byte) (body : Bytes) : Frames.Statement (.cutoff link tag body) :=
  Frames.of_fits rfl id
theorem Frames.reopenDay (link : Link) (tag : Byte) (body : Bytes) : Frames.Statement (.reopenDay link tag body) :=
  Frames.of_fits rfl id
theorem Frames.send (link : Link) (tag : Byte) (body : Bytes) : Frames.Statement (.send link tag body) :=
  Frames.of_fits rfl id
theorem Frames.resend (link : Link) (tag : Byte) (body : Bytes) : Frames.Statement (.resend link tag body) :=
  Frames.of_fits rfl id
theorem Frames.config (link : Link) (tag : Byte) (body : Bytes) : Frames.Statement (.config link tag body) :=
  Frames.of_fits rfl id
theorem Frames.restart (link : Link) (tag : Byte) (body : Bytes) : Frames.Statement (.restart link tag body) :=
  Frames.of_fits rfl id
theorem Frames.warmRestart : Frames.Statement .warmRestart := Frames.of_none rfl
theorem Frames.resetLineAsserted : Frames.Statement .resetLineAsserted := Frames.of_none rfl
theorem Frames.warmLine : Frames.Statement .warmLine := Frames.of_none rfl
theorem Frames.mainPowerFail : Frames.Statement .mainPowerFail := Frames.of_none rfl
theorem Frames.backupLow : Frames.Statement .backupLow := Frames.of_none rfl
theorem Frames.mainPowerReturn : Frames.Statement .mainPowerReturn := Frames.of_none rfl
theorem Frames.oneHzTick : Frames.Statement .oneHzTick := Frames.of_none rfl
theorem Frames.eightHzTick : Frames.Statement .eightHzTick := Frames.of_none rfl
theorem Frames.signOn (link : Link) (tag : Byte) (body : Bytes) : Frames.Statement (.signOn link tag body) :=
  Frames.of_fits rfl id
theorem Frames.openTxn (link : Link) (tag : Byte) (body : Bytes) : Frames.Statement (.openTxn link tag body) :=
  Frames.of_fits rfl id
theorem Frames.closeTxn (link : Link) (tag : Byte) (body : Bytes) : Frames.Statement (.closeTxn link tag body) :=
  Frames.of_fits rfl id
theorem Frames.away (link : Link) (tag : Byte) (body : Bytes) : Frames.Statement (.away link tag body) :=
  Frames.of_fits rfl id
theorem Frames.unlock (link : Link) (tag : Byte) (body : Bytes) : Frames.Statement (.unlock link tag body) :=
  Frames.of_fits rfl id
theorem Frames.signOff (link : Link) (tag : Byte) (body : Bytes) : Frames.Statement (.signOff link tag body) :=
  Frames.of_fits rfl id
theorem Frames.forceSignOff (link : Link) (tag : Byte) (body : Bytes) : Frames.Statement (.forceSignOff link tag body) :=
  Frames.of_fits rfl id
theorem Frames.readPosition (link : Link) (tag : Byte) (body : Bytes) : Frames.Statement (.readPosition link tag body) :=
  Frames.of_fits rfl id
theorem Frames.idle (n : Fin 8) : Frames.Statement (.idle n) := Frames.of_none rfl
theorem Frames.sensorInputChange (n : Fin 8) (level : Sensor) : Frames.Statement (.sensorInputChange n level) :=
  Frames.of_none rfl
theorem Frames.opening (n : Fin 8) : Frames.Statement (.opening n) := Frames.of_none rfl
theorem Frames.shutting (n : Fin 8) : Frames.Statement (.shutting n) := Frames.of_none rfl
theorem Frames.releaseWindowEnd (n : Fin 8) : Frames.Statement (.releaseWindowEnd n) := Frames.of_none rfl
theorem Frames.drawerLong (n : Fin 8) : Frames.Statement (.drawerLong n) := Frames.of_none rfl
theorem Frames.serviceLong (n : Fin 8) : Frames.Statement (.serviceLong n) := Frames.of_none rfl
theorem Frames.post (link : Link) (tag : Byte) (body : Bytes) : Frames.Statement (.post link tag body) :=
  Frames.of_fits rfl id
theorem Frames.void (link : Link) (tag : Byte) (body : Bytes) : Frames.Statement (.void link tag body) :=
  Frames.of_fits rfl id
theorem Frames.readCashTeller (n : Fin 8) (tag : Byte) (body : Bytes) : Frames.Statement (.readCashTeller n tag body) :=
  Frames.of_fits rfl id
theorem Frames.readCashSupervisor (tag : Byte) (body : Bytes) : Frames.Statement (.readCashSupervisor tag body) :=
  Frames.of_fits rfl id
theorem Frames.propose (link : Link) (tag : Byte) (body : Bytes) : Frames.Statement (.propose link tag body) :=
  Frames.of_fits rfl id
theorem Frames.confirm (link : Link) (tag : Byte) (body : Bytes) : Frames.Statement (.confirm link tag body) :=
  Frames.of_fits rfl id
theorem Frames.decline (link : Link) (tag : Byte) (body : Bytes) : Frames.Statement (.decline link tag body) :=
  Frames.of_fits rfl id
theorem Frames.withdraw (link : Link) (tag : Byte) (body : Bytes) : Frames.Statement (.withdraw link tag body) :=
  Frames.of_fits rfl id
theorem Frames.expiry (id : Nat) : Frames.Statement (.expiry id) := Frames.of_none rfl
theorem Frames.beginBalance (link : Link) (tag : Byte) (body : Bytes) : Frames.Statement (.beginBalance link tag body) :=
  Frames.of_fits rfl id
theorem Frames.declare (link : Link) (tag : Byte) (body : Bytes) : Frames.Statement (.declare link tag body) :=
  Frames.of_fits rfl id
theorem Frames.forceBalance (link : Link) (tag : Byte) (body : Bytes) : Frames.Statement (.forceBalance link tag body) :=
  Frames.of_fits rfl id
theorem Frames.reopen (link : Link) (tag : Byte) (body : Bytes) : Frames.Statement (.reopen link tag body) :=
  Frames.of_fits rfl id
theorem Frames.vaultDeclare (link : Link) (tag : Byte) (body : Bytes) : Frames.Statement (.vaultDeclare link tag body) :=
  Frames.of_fits rfl id
theorem Frames.readProfile (link : Link) (tag : Byte) (body : Bytes) : Frames.Statement (.readProfile link tag body) :=
  Frames.of_fits rfl id
theorem Frames.readJournal (link : Link) (tag : Byte) (body : Bytes) : Frames.Statement (.readJournal link tag body) :=
  Frames.of_fits rfl id
theorem Frames.printBook (link : Link) (tag : Byte) (body : Bytes) : Frames.Statement (.printBook link tag body) :=
  Frames.of_fits rfl id
theorem Frames.cancelPrint (link : Link) (tag : Byte) (body : Bytes) : Frames.Statement (.cancelPrint link tag body) :=
  Frames.of_fits rfl id
theorem Frames.printerServiceOffline (link : Link) (tag printer : Byte) : Frames.Statement (.printerServiceOffline link tag printer) :=
  Frames.of_fits rfl (fun _ => rfl)
theorem Frames.printerServiceOnline (link : Link) (tag printer : Byte) : Frames.Statement (.printerServiceOnline link tag printer) :=
  Frames.of_fits rfl (fun _ => rfl)
theorem Frames.printerServiceClear (link : Link) (tag printer : Byte) : Frames.Statement (.printerServiceClear link tag printer) :=
  Frames.of_fits rfl (fun _ => rfl)
theorem Frames.insertion (p : Fin 2) : Frames.Statement (.insertion p) := Frames.of_none rfl
theorem Frames.removal (p : Fin 2) : Frames.Statement (.removal p) := Frames.of_none rfl
theorem Frames.noBook (p : Fin 2) : Frames.Statement (.noBook p) := Frames.of_none rfl
theorem Frames.pageTimeout (p : Fin 2) : Frames.Statement (.pageTimeout p) := Frames.of_none rfl
theorem Frames.bookConfirmed (p : Fin 2) : Frames.Statement (.bookConfirmed p) := Frames.of_none rfl
theorem Frames.encoderStep (p : Fin 2) (dir : Direction) : Frames.Statement (.encoderStep p dir) := Frames.of_none rfl
theorem Frames.jam (p : Fin 2) : Frames.Statement (.jam p) := Frames.of_none rfl
theorem Frames.strikeDone (p : Fin 2) : Frames.Statement (.strikeDone p) := Frames.of_none rfl
theorem Frames.strikeTimeEnd (p : Fin 2) : Frames.Statement (.strikeTimeEnd p) := Frames.of_none rfl
theorem Frames.bookLeft (p : Fin 2) : Frames.Statement (.bookLeft p) := Frames.of_none rfl
theorem Frames.seeTellerTimeEnd (n : Fin 8) : Frames.Statement (.seeTellerTimeEnd n) := Frames.of_none rfl
theorem Frames.showText (link : Link) (tag : Byte) (body : Bytes) : Frames.Statement (.showText link tag body) :=
  Frames.of_fits rfl id
theorem Frames.textHoldEnd (n : Fin 8) : Frames.Statement (.textHoldEnd n) := Frames.of_none rfl
theorem Frames.uplinkFrameDiscarded (bits : List Bool) : Frames.Statement (.uplinkFrameDiscarded bits) :=
  Frames.of_none rfl
theorem Frames.pingReply : Frames.Statement .pingReply := Frames.of_none rfl
theorem Frames.dayOpen (fields : DayOpenFields) : Frames.Statement (.dayOpen fields) := Frames.of_none rfl
theorem Frames.blockAck (number : Nat) : Frames.Statement (.blockAck number) := Frames.of_none rfl
theorem Frames.blockNak (number : Nat) : Frames.Statement (.blockNak number) := Frames.of_none rfl
theorem Frames.answerTimeEnd (buffer : Fin 2) : Frames.Statement (.answerTimeEnd buffer) := Frames.of_none rfl
theorem Frames.dayAccepted (totals : Totals) : Frames.Statement (.dayAccepted totals) := Frames.of_none rfl
theorem Frames.dayRejected (reason : Nat) : Frames.Statement (.dayRejected reason) := Frames.of_none rfl
theorem Frames.verdictWaitEnd : Frames.Statement .verdictWaitEnd := Frames.of_none rfl
theorem Frames.uplinkFrameSent : Frames.Statement .uplinkFrameSent := Frames.of_none rfl
theorem Frames.pingRound : Frames.Statement .pingRound := Frames.of_none rfl
theorem Frames.pingWaitEnd : Frames.Statement .pingWaitEnd := Frames.of_none rfl
theorem Frames.stationByteReceived (link : Link) (byte : Byte) : Frames.Statement (.stationByteReceived link byte) :=
  Frames.of_none rfl

end Sys2Proof.Laws
end

