-- ==== Sys2Proof/Tests/Slice0.lean ====
section
/-! SUPPORT. Tests. First the checks of WellFormed, each refusing an ill-formed term; then the worked figures of the spec's
chapters, one step each; then, for every statement with hypotheses, a `witness_` theorem: concrete states and operands that
meet them, one for each clause, at a boundary of its range. -/

namespace Sys2Proof.Tests

open Sys2Proof Sys2Proof.Machine

/-! ### Small states -/

/-- A business day in state `d`, 17 March 2025, at two minor digits, with four denominations. -/
def branch (d : DayState) : State :=
  { State.reset with
    day := { Day.cold with
      state := d, date := some ⟨17, 3, 25⟩, clockSet := true, postingLimit := 50000, itemization := 2000
      drawerMax := 1000000, tolerance := 50 }
    cash := { Cash.cold with
      faces := ⟨[some 5, some 10, some 100, some 500, none, none, none, none, none, none, none, none], rfl⟩ } }

/-- Small changes of one place. -/
def tune (n : Fin 8) (f : Position → Position) (s : State) : State := { s with positions := s.positions.modify n f }
/-- Position `n` in state `p`, its teller 7, 8, …, a transaction open from record 1 where the state has one. -/
def stand (n : Fin 8) (p : PosState) (s : State) : State :=
  tune n (fun _ => { Position.cold .shut with
    state := p
    teller := if p = .closed then none else some (7 + n.val)
    txnStart := if p.inTxn then some 1 else none
    running := p.inTxn }) s

/-- An open day with position 0 in state `p`. -/
def teller (p : PosState) : State := stand 0 p (branch .opened)

/-- More of them. -/
def wire (l : Link) (f : LinkRec → LinkRec) (s : State) : State := { s with links := s.links.modify l.idx f }
def fund (n : Fin 8) (counts : Vec 12 Nat) (u : Int) (c : Cash) : Cash :=
  { c with drawers := c.drawers.set n (CashRecord.make c.faces counts u) }
def till (n : Fin 8) (a b c d : Nat) (s : State) : State :=
  { s with cash := fund n ⟨[a, b, c, d, 0, 0, 0, 0, 0, 0, 0, 0], rfl⟩ 0 s.cash }
def loose (n : Fin 8) (u : Int) (s : State) : State := { s with cash := fund n (Vec.fill 0) u s.cash }
def file (rs : List Record) (s : State) : State :=
  { s with jnl := { s.jnl with records := rs, next := rs.length + 1 } }
def hold (es : List Entry) (s : State) : State := { s with dct := { s.dct with entries := es } }
def print (p : Fin 2) (f : Printer → Printer) (s : State) : State :=
  { s with pbu := { s.pbu with printers := s.pbu.printers.modify p f } }
def uplink (f : Ulc → Ulc) (s : State) : State := { s with ulc := f s.ulc }

/-- A deposit of 100 as record `q` of position 0, and records 1 to `k` of that kind. -/
def deposit (q : Nat) : Record := { Record.plain .deposit (.position 0) 7 100 with seq := q, effect := .credit }
def deposits (k : Nat) : List Record := (List.range k).map (fun i => deposit (i + 1))

/-- A transfer and an override of position 0, under id `i`. -/
def transfer (i : Nat) : Entry := ⟨i, .tl 0, .tl 1, 5, 100, .transfer (.drawer 0) (.drawer 1) [⟨0, 1, true⟩]⟩
def override (i : Nat) (x : Posting) : Entry := ⟨i, .tl 0, .sl, x.amount, 100, .override 0 x⟩
def credit : Posting := ⟨.credit, 60000, 1, false, []⟩

/-- A job of position 0 with two records, on line `l` of page 3. -/
def work (l : Nat) : Job :=
  { position := 0, account := 9, items := [.record 1, .record 2], more := false, next := 1, page := 3, line := l
    balance := 1250000, overflow := false, printed := 0, printer := some 0, geometry := some ⟨24, 8, 12, 36⟩ }

/-- Printer 0 in state `q` with a job, its book present. -/
def printing (q : PrinterState) (f : Printer → Printer) : State :=
  print 0 (fun r => f { r with state := q, book := true, input := true, job := some (work 24) }) (file (deposits 2) (teller .serving))

/-- The last reply placed on a link, and a figure of the state that follows. -/
def reply (l : Link) : Host.Outcome State Fault Refusal → Option (Code × Bytes)
  | .next t => (t.link l).transmit.getLast?.map (fun a => (a.code, a.rest))
  | _ => none
def after {α : Type} (f : State → α) : Host.Outcome State Fault Refusal → Option α
  | .next t => some (f t)
  | _ => none

/-! ### WellFormed refuses -/

theorem test_wf_body_over_250 : (Instr.config .sl 0 (List.replicate 251 0)).wellFormed = false := by
  simp only [Instr.wellFormed, bodyFits, List.length_replicate]; decide
theorem test_wf_body_of_250 : (Instr.config .sl 0 (List.replicate 250 0)).wellFormed = true := by
  simp only [Instr.wellFormed, bodyFits, List.length_replicate]; decide
theorem test_wf_length_byte_of_250 : (Instr.lengthByteAbove250 .sl 250).wellFormed = false := by decide
theorem test_wf_unknown_kind_known : (Instr.unknownKind .sl 34 0 []).wellFormed = false := by decide
theorem test_wf_unknown_kind_body : (Instr.unknownKind .sl 35 0 (List.replicate 251 0)).wellFormed = false := by
  simp only [Instr.wellFormed, bodyFits, List.length_replicate]; decide
theorem test_wf_expiry_ids : (Instr.expiry 0).wellFormed = false ∧ (Instr.expiry 256).wellFormed = false := by decide
theorem test_wf_block_numbers :
    (Instr.blockAck 65536).wellFormed = false ∧ (Instr.blockNak 65536).wellFormed = false := by decide
theorem test_wf_totals : (Instr.dayAccepted ⟨65536, 0, 0, 0⟩).wellFormed = false ∧
    (Instr.dayAccepted ⟨0, 256 ^ 6, 0, 0⟩).wellFormed = false ∧ (Instr.dayAccepted ⟨0, 0, 0, 256 ^ 5⟩).wellFormed = false := by
  decide
theorem test_wf_rejection : (Instr.dayRejected 256).wellFormed = false := by decide
/-- The fields of a DAY-OPEN that passes every check on the cold state. -/
def opening : DayOpenFields :=
  { day := 17, month := 3, year := 25, seconds := 30600, minorDigits := 2
    faces := ⟨[5, 10, 100, 500, 0, 0, 0, 0, 0, 0, 0, 0], rfl⟩, postingLimit := 50000, itemization := 2000
    drawerMax := 1000000, tolerance := 50 }
theorem test_wf_day_open : (Instr.dayOpen opening).wellFormed = true ∧
    (Instr.dayOpen { opening with seconds := 256 ^ 3 }).wellFormed = false ∧
    (Instr.dayOpen { opening with faces := opening.faces.set 3 (256 ^ 3) }).wellFormed = false ∧
    (Instr.dayOpen { opening with drawerMax := 256 ^ 5 }).wellFormed = false := by decide
theorem test_wf_frame_discarded :
    (Instr.uplinkFrameDiscarded (frameBits [65])).wellFormed = false ∧ (Instr.uplinkFrameDiscarded []).wellFormed = true := by
  decide

/-! ### Words of the formats -/

/-- 01 R4: over the nine digits the remainder is 29B1. -/
theorem test_crc_of_nine_digits : crc16 [0x31, 0x32, 0x33, 0x34, 0x35, 0x36, 0x37, 0x38, 0x39] = 0x29B1 := by decide +kernel
/-- 00 R1's table. -/
theorem test_rendering_of_the_table :
    render 0 17550 = codes ['1', '7', ',', '5', '5', '0'] ∧ render 2 5 = codes ['0', '.', '0', '5'] ∧
    render 3 1267550 = codes ['1', ',', '2', '6', '7', '.', '5', '5', '0'] ∧ render 3 (-100) = codes ['-', '0', '.', '1', '0', '0'] ∧
    render 2 1267550 = codes ['1', '2', ',', '6', '7', '5', '.', '5', '0'] := by decide
/-- No row of the table gives bits. -/
theorem test_no_word_spells_a_command : decodeTableWord 0 0 = none ∧ decodeTableWord 16 0xA500 = none := by decide

/-! ### Requests: one step each -/

theorem test_take_notices_after_reset : reply (.tl 3) (exec (.takeNotices (.tl 3) 9 []) State.reset) = some (.ok, [1, 10]) := by
  decide
theorem test_status_repeats_last_tag :
    (after (fun t => ((t.link (.tl 0)).transmit.map (fun a => a.rest.drop 43)))
      (exec (.statusTeller 0 1 []) (wire (.tl 0) (fun r => { r with lastTag := some 77 }) State.reset))) = some [[1, 77]] := by
  decide
/-- 03 R48: the request itself ends the silence of an idle position. -/
theorem test_status_of_an_idle_position_answers_no :
    (reply (.tl 0) (exec (.statusTeller 0 1 []) (tune 0 (fun p => { p with idle := true, silence := 90000 }) (teller .ready)))).map
      (fun r => r.2.take 20 |>.drop 19) = some [0] := by decide
theorem test_status_on_sl_ends_with_no_tag :
    (after (fun t => ((t.link .sl).transmit.map (fun a => a.rest.drop 43))) (exec (.statusSupervisor 1 []) State.reset)) =
      some [[0, 0]] := by decide
theorem test_unknown_kind_is_bad_form : reply .sl (exec (.unknownKind .sl 65 1 []) State.reset) = some (.badForm, []) := by decide
theorem test_post_on_sl_is_not_allowed : reply .sl (exec (.post .sl 1 []) State.reset) = some (.notAllowed, []) := by decide
theorem test_second_request_is_busy :
    reply .sl (exec (.cutoff .sl 2 []) (wire .sl (fun r => { r with inWork := true }) (branch .opened))) = some (.busy, []) := by
  decide
theorem test_cutoff : after (fun t => t.day.state) (exec (.cutoff .sl 1 []) (branch .opened)) = some .cutoff := by decide
theorem test_reopen_day_clears_sent : after (fun t => (t.day.state, t.jnl.records.map Record.sent))
    (exec (.reopenDay .sl 1 []) (file [{ deposit 1 with sent := true }] (branch .rejected))) = some (.opened, [false]) := by decide
/-- 10, a worked transmission, time 0: blocks 1 and 2 hold records 1 to 16 and 17 to 32. -/
theorem test_send_fills_both_buffers :
    after (fun t => (t.day.state, heldSeqs (t.ulc.buffers.get 0), (heldSeqs (t.ulc.buffers.get 1)).length, t.ulc.nextBlock))
      (exec (.send .sl 1 []) (uplink (fun u => { u with up := true }) (file (deposits 37) (branch .cutoff)))) =
    some (.sending, List.range' 1 16, 16, 3) := by decide +kernel
theorem test_resend_clears_the_reason :
    after (fun t => (t.day.state, t.day.rejection))
      (exec (.resend .sl 1 []) { branch .rejected with day := { (branch .rejected).day with rejection := .code 4 } }) =
    some (.sending, .none) := by decide
/-- 02 R28's worked values of the ping period: item 12. -/
theorem test_config_ping_period :
    reply .sl (exec (.config .sl 1 ([12, 0] ++ be 2 1023)) State.reset) = some (.ok, [1, 12, 0] ++ be 2 1020) ∧
    reply .sl (exec (.config .sl 1 ([12, 0] ++ be 2 7)) State.reset) = some (.ok, [1, 12, 0] ++ be 2 4) ∧
    reply .sl (exec (.config .sl 1 ([12, 0] ++ be 2 2)) State.reset) = some (.ok, [1, 12, 0] ++ be 2 4) ∧
    reply .sl (exec (.config .sl 1 ([12, 0] ++ be 2 61)) State.reset) = some (.ok, [1, 12, 0] ++ be 2 60) ∧
    reply .sl (exec (.config .sl 1 ([12, 0] ++ be 2 60)) State.reset) = some (.ok, [0]) := by decide
theorem test_restart_then_reset :
    after (fun t => t.supply.restartPending) (exec (.restart .sl 1 []) State.reset) = some true ∧
    after (fun t => (t.day.cause, t.day.warmCount)) (exec .warmRestart
      { State.reset with supply := { State.reset.supply with restartPending := true } }) = some (.warmRestart, 1) ∧
    after (fun t => (t.day.cause, (t.link .sl).transmit)) (exec (.replySent .sl) (wire .sl (fun r => { r with
      inWork := true, transmit := [⟨8, 1, .ok, false, [], true⟩, ⟨3, 2, .busy, false, [], false⟩] })
      { State.reset with supply := { State.reset.supply with restartPending := true } })) = some (.warmRestart, []) := by decide
theorem test_sign_on : after (fun t => ((t.pos 0).state, (t.pos 0).teller, t.jnl.next))
    (exec (.signOn (.tl 0) 1 (be 2 9999)) (branch .opened)) = some (.ready, some 9999, 2) := by decide
theorem test_sign_on_of_one_id_twice :
    reply (.tl 1) (exec (.signOn (.tl 1) 1 (be 2 7)) (teller .ready)) = some (.tellerInUse, []) := by decide
theorem test_open_txn_with_drawer_open :
    reply (.tl 0) (exec (.openTxn (.tl 0) 1 []) (tune 0 (fun p => { p with sensor := .opened }) (teller .ready))) =
      some (.drawerOpen, []) := by decide
theorem test_close_txn_returns_the_duration :
    reply (.tl 0) (exec (.closeTxn (.tl 0) 1 []) (tune 0 (fun p => { p with stopwatch := 70000 }) (teller .serving))) =
      some (.ok, be 3 70000) := by decide
theorem test_away_and_unlock :
    after (fun t => (t.pos 0).state) (exec (.away (.tl 0) 1 []) (teller .ready)) = some .away ∧
    reply (.tl 0) (exec (.unlock (.tl 0) 1 (be 2 8)) (teller .away)) = some (.notAllowed, []) := by decide
theorem test_sign_off_moves_the_drawer : after (fun t => (t.cash.vault.total, (t.drawer 0).total, (t.pos 0).state))
    (exec (.signOff (.tl 0) 1 []) (till 0 1 0 0 2 (teller .balanced))) = some (1005, 0, .closed) := by decide
theorem test_force_sign_off : after (fun t => ((t.pos 0).state, t.dct.entries.length, t.dct.outcomes.get 0))
    (exec (.forceSignOff .sl 1 [0]) (hold [override 1 credit] (teller .held))) = some (.closed, 0, .dropped) := by decide
theorem test_read_position_names_no_position :
    reply .sl (exec (.readPosition .sl 1 [8]) State.reset) = some (.badForm, []) := by decide

/-! ### The worked posting of 04 -/

/-- Drawer 3's holding before step 1, and after it. -/
def before : Vec 12 Nat := ⟨[0, 0, 0, 40, 100, 0, 20, 50, 30, 40, 0, 0], rfl⟩
def afterDeposit : Vec 12 Nat := ⟨[0, 0, 0, 39, 96, 0, 20, 49, 30, 42, 0, 0], rfl⟩
def workedFaces : Vec 12 (Option Nat) :=
  ⟨[some 1, some 5, some 10, some 50, some 100, some 500, some 1000, some 2000, some 5000, some 10000, some 20000, none], rfl⟩
/-- Position 3 in a transaction from record 304, next record 311. -/
def worked (counts : Vec 12 Nat) (cashIn : Nat) (j : Journal) : State :=
  let s := tune 3 (fun p => { p with txnStart := some 304 }) (stand 3 .serving (branch .opened))
  { s with
    day := { s.day with postingLimit := 5000000, itemization := 10000, drawerMax := 2000000 }
    cash := { s.cash with
      faces := workedFaces, drawers := s.cash.drawers.set 3 (CashRecord.make workedFaces counts 0)
      cashIn := cashIn, cashOut := 388000 }
    jnl := j }
def lineBytes (slot count way : Nat) : Bytes := be 1 slot ++ be 2 count ++ be 1 way
def depositBody : Bytes :=
  be 1 1 ++ be 5 17550 ++ be 5 400000000123 ++ be 1 1 ++ lineBytes 9 2 1 ++ lineBytes 7 1 2 ++ lineBytes 4 4 2 ++ lineBytes 3 1 2
def record311 : Record :=
  { Record.plain .deposit (.position 3) 10 17550 with
    seq := 311, account := some 400000000123, book := true, pending := true, effect := .credit }
/-- Step 1. -/
theorem test_worked_deposit :
    after (fun t => (t.drawer 3, t.cash.cashIn, t.jnl.records, (t.window 3).cells, (t.pos 3).window))
      (exec (.post (.tl 3) 1 depositBody) (worked before 1204300 { Journal.cold with next := 311 })) =
    some (⟨afterDeposit, 0, 699550⟩, 1221850, [record311],
      codes [' ', ' ', ' ', ' ', ' ', ' ', ' ', ' ', ' ', ' ', '1', '7', '5', '.', '5', '0'], some 1000) := by decide
/-- Step 2: without coin in slot 4. -/
theorem test_worked_deposit_without_coin :
    reply (.tl 3) (exec (.post (.tl 3) 1 depositBody) (worked (before.set 4 0) 1204300 Journal.cold)) = some (.shortfall, []) := by
  decide
/-- Step 3. -/
theorem test_worked_void :
    let t := exec (.void (.tl 3) 1 (be 2 311 ++ lineBytes 9 2 2 ++ lineBytes 7 1 1 ++ lineBytes 4 4 1 ++ lineBytes 3 1 1))
      (worked afterDeposit 1221850 { Journal.cold with next := 312, records := [record311] })
    after (fun t => (t.drawer 3, t.cash.cashIn, t.cash.cashOut)) t = some (⟨before, 0, 682000⟩, 1221850, 405550) ∧
    after (fun t => t.jnl.records) t = some
      [{ record311 with link := .voidedBy 312, pending := false },
       { record311 with seq := 312, kind := .reversal, effect := .debit, link := .reversed 311, pending := false }] := by decide
/-- Step 4: refused for its pieces, then held. -/
theorem test_worked_withdrawal_is_held :
    let body := be 1 2 ++ be 5 6000000 ++ be 5 0 ++ be 1 0 ++ lineBytes 10 300 2
    reply (.tl 3) (exec (.post (.tl 3) 1 body) (worked before 0 Journal.cold)) = some (.shortfall, []) ∧
    reply (.tl 3) (exec (.post (.tl 3) 1 body) (worked (before.set 10 300) 0 Journal.cold)) = some (.held, [1]) := by decide

/-! ### Cash, dual control, balancing: one step each -/

theorem test_read_cash_selectors : reply .sl (exec (.readCashSupervisor 1 [10]) State.reset) = some (.badForm, []) ∧
    (reply (.tl 0) (exec (.readCashTeller 0 1 []) State.reset)).map (fun r => r.2.length) = some 77 := by decide
theorem test_propose_to_the_vault : reply (.tl 0) (exec (.propose (.tl 0) 1 ([0, 8] ++ be 5 500 ++ lineBytes 3 1 1))
    (till 0 0 0 0 1 (teller .ready))) = some (.ok, [1]) := by decide
theorem test_confirm_by_its_proposer : reply (.tl 0) (exec (.confirm (.tl 0) 1 [4]) (hold [transfer 4] (teller .ready))) =
    some (.notAllowed, []) := by decide
theorem test_confirm_moves_the_pieces : after (fun t => ((t.drawer 0).total, (t.drawer 1).total, t.dct.entries.length))
    (exec (.confirm (.tl 1) 1 [4]) (hold [transfer 4] (till 0 1 0 0 0 (stand 1 .ready (teller .ready))))) = some (0, 5, 0) := by decide
theorem test_decline_and_withdraw : after (fun t => (t.pos 0).state) (exec (.decline .sl 1 [2]) (hold [override 2 credit] (teller .held))) =
      some .serving ∧
    after (fun t => t.dct.outcomes.get 0) (exec (.withdraw (.tl 0) 1 [2]) (hold [override 2 credit] (teller .held))) =
      some .withdrawn := by decide
theorem test_expiry : after (fun t => (t.dct.entries.length, t.dct.outcomes.get 0)) (exec (.expiry 2)
    (hold [override 2 credit] (teller .held))) = some (0, .expired) := by decide
theorem test_begin_balance_releases : after (fun t => ((t.pos 0).state, (t.pos 0).window))
    (exec (.beginBalance (.tl 0) 1 []) (teller .ready)) = some (.balancing, some 1000) := by decide
theorem test_declare_over : after (fun t => ((t.drawer 0).total, t.cash.dayOver, (t.pos 0).state))
    (exec (.declare (.tl 0) 1 ([0] ++ be 2 1)) (teller .balancing)) = some (5, 5, .balanced) := by decide
theorem test_third_miss_waits : after (fun t => ((t.pos 0).state, (t.drawer 0).total)) (exec (.declare (.tl 0) 1 ([3] ++ be 2 1))
    { teller .outOfBalance with bal := { Bal.cold with contexts := Bal.cold.contexts.set 0 ⟨2, none, none⟩ } }) =
    some (.forceWait, 0) := by decide
theorem test_force_balance : after (fun t => ((t.drawer 0).total, (t.pos 0).state)) (exec (.forceBalance .sl 1 [0])
    { teller .forceWait with bal := { Bal.cold with contexts := Bal.cold.contexts.set 0 ⟨3, some ((Vec.fill 0).set 3 1), none⟩ } }) =
    some (500, .balanced) := by decide
theorem test_reopen : after (fun t => (t.pos 0).state) (exec (.reopen (.tl 0) 1 []) (teller .balanced)) = some .ready := by decide
theorem test_vault_declare : after (fun t => (t.cash.vault.total, t.cash.dayOver, t.jnl.records.map Record.kind))
    (exec (.vaultDeclare .sl 1 ([3] ++ be 3 2)) (branch .cutoff)) = some (1000, 1000, [.vaultCount, .cashOver]) := by decide
/-- 06 R116: 5 over 2 is 2.5, rounded half up. -/
theorem test_average_rounds_half_up : Profile.average { Profile.empty with transactions := 2, serviceSum := 5 } = 3 := by decide
theorem test_read_profile_and_journal :
    (reply .sl (exec (.readProfile .sl 1 [7]) State.reset)).map (fun r => r.2.length) = some 46 ∧
    reply .sl (exec (.readJournal .sl 1 (be 2 4097)) State.reset) = some (.range, []) := by decide

/-! ### The worked print job of 08 -/

/-- Records 212, 219 and 226 of account 520,000,000,077, position 2 serving. -/
def printRecords : List Record :=
  [{ record311 with seq := 212, place := .position 2, account := some 520000000077 },
   { record311 with seq := 219, kind := .withdrawal, effect := .debit, amount := 40000, account := some 520000000077 },
   { record311 with seq := 226, kind := .credit, amount := 5000, account := some 520000000077 }]
def printJob : Job :=
  { position := 2, account := 520000000077, items := [.record 212, .record 219, .record 226], more := false, next := 1
    page := 3, line := 24, balance := 1250000, overflow := false, printed := 0, printer := some 0, geometry := some ⟨24, 8, 12, 36⟩ }
def printBranch : State := file printRecords (stand 2 .serving (branch .opened))
def printState (f : Printer → Printer) : State :=
  print 0 (fun r => f { r with book := true, input := true, job := some printJob }) printBranch
theorem test_print_book_is_assigned : after (fun t => ((t.printer 0).state, (t.printer 0).job, (t.window 2).cells))
    (exec (.printBook (.tl 2) 1 (be 5 520000000077 ++ [3, 24] ++ beInt 5 1250000)) printBranch) =
    some (.waitBook, some printJob, codes ['I', 'N', 'S', 'E', 'R', 'T', ' ', 'B', 'O', 'O', 'K', ' ', 'P', '0', ' ', ' ']) := by
  decide
theorem test_book_confirmed_aligns : after (fun t => ((t.printer 0).state, (t.printer 0).target, (t.printer 0).motor))
    (exec (.bookConfirmed 0) (printState (fun r => { r with state := .confirming, confirmReturn := some .waitBook }))) =
    some (.aligning, some 312, .forward) := by decide
/-- The first line, with its blanks: `170325 DEP        175.50       12,675.50`. -/
theorem test_count_reaches_the_line : after (fun t => ((t.printer 0).state, (t.printer 0).head)) (exec (.encoderStep 0 .forward)
    (printState (fun r => { r with
      state := .aligning, count := 311, target := some 312, furthest := some 311, direction := some .forward }))) =
    some (.striking, codes ['1', '7', '0', '3', '2', '5', ' ', 'D', 'E', 'P', ' ', ' ', ' ', ' ', ' ', ' ', ' ', ' ', '1', '7', '5', '.',
      '5', '0', ' ', ' ', ' ', ' ', ' ', ' ', ' ', '1', '2', ',', '6', '7', '5', '.', '5', '0']) := by decide
theorem test_strike_done_ends_the_page :
    let t := exec (.strikeDone 0) (printState (fun r => { r with state := .striking, count := 312 }))
    after (fun t => ((t.printer 0).state, (t.printer 0).stage, (t.printer 0).job)) t = some (.ejecting, some .pageEnd,
      some { printJob with page := 4, line := 1, next := 2, balance := 1267550, printed := 1 }) ∧
    after (fun t => t.jnl.records.map Record.printed) t = some [some (3, 24), none, none] := by decide
theorem test_insertion_and_removal :
    after (fun t => (t.printer 0).state) (exec (.insertion 0) (printState (fun r => { r with state := .pageTurn, book := false }))) =
      some .confirming ∧
    after (fun t => (t.pbu.results.get 2).outcome) (exec (.removal 0) (printState (fun r => { r with state := .striking }))) =
      some .incomplete ∧
    after (fun t => ((t.printer 0).state, (t.printer 0).bookLeft)) (exec (.removal 0)
      (printState (fun r => { r with state := .ejecting, stage := some .final, target := some 0, bookLeft := true }))) =
      some (.idle, false) := by decide
theorem test_printer_times :
    after (fun t => (t.pbu.results.get 2).outcome) (exec (.noBook 0) (printState (fun r => { r with state := .waitBook, book := false }))) =
      some .noBook ∧
    after (fun t => (t.pbu.results.get 2).outcome)
      (exec (.pageTimeout 0) (printState (fun r => { r with state := .pageTurn, book := false }))) = some .pageTimeout ∧
    after (fun t => (t.printer 0).fault) (exec (.strikeTimeEnd 0) (printState (fun r => { r with state := .striking }))) =
      some (some .head) ∧
    after (fun t => (t.printer 0).fault)
      (exec (.jam 0) (printState (fun r => { r with state := .feeding, target := some 48 }))) = some (some .jam) ∧
    after (fun t => (t.printer 0).bookLeft)
      (exec (.bookLeft 0) (printState (fun r => { r with state := .waitRemoval, timer := some 1 }))) = some true := by decide
theorem test_cancel_print_and_service :
    after (fun t => (t.pbu.results.get 2).outcome) (exec (.cancelPrint (.tl 2) 1 []) (printState (fun r => { r with state := .striking }))) =
      some .cancelled ∧
    reply .sl (exec (.printerServiceOffline .sl 1 1) State.reset) = some (.ok, [10, 0]) ∧
    reply .sl (exec (.printerServiceOnline .sl 1 2) State.reset) = some (.badForm, []) ∧
    reply .sl (exec (.printerServiceClear .sl 1 0) State.reset) = some (.wrongState, []) := by decide
theorem test_see_teller_time_end : after (fun t => t.pbu.seeTeller.get 4) (exec (.seeTellerTimeEnd 4)
    { State.reset with pbu := { State.reset.pbu with seeTeller := Vec.fill (some 5) } }) = some none := by decide

/-! ### Lines, positions, displays, ticks -/

theorem test_receiver :
    after (fun t => (t.link .sl).receiver) (exec (.lineSilent .sl) State.reset) = some .hunt ∧
    after (fun t => (t.link .sl).receiver) (exec (.stationByteReceived .sl 0xA5) (wire .sl (fun r => { r with receiver := .hunt }) State.reset)) =
      some .receiving ∧
    after (fun t => (t.link .sl).receiver)
      (exec (.lengthByteAbove250 .sl 251) (wire .sl (fun r => { r with receiver := .receiving }) State.reset)) = some .skipping ∧
    after (fun t => (t.link .sl).receiver) (exec (.interByteGap .sl) (wire .sl (fun r => { r with receiver := .receiving }) State.reset)) =
      some .skipping ∧
    after (fun t => ((t.link .sl).receiver, (t.link .sl).frame))
      (exec (.lineSilent .sl) (wire .sl (fun r => { r with receiver := .receiving, frame := [2, 8] }) State.reset)) =
      some (.skipping, []) := by decide
theorem test_line_faults :
    after (fun t => (t.link .sl).receiver) (exec (.lineFault .sl) (wire .sl (fun r => { r with receiver := .hunt }) State.reset)) =
      some .skipping ∧
    after (fun t => (t.link .sl).receiver) (exec (.frameCheckFailed .sl) (wire .sl (fun r => { r with receiver := .hunt }) State.reset)) =
      some .skipping ∧
    after (fun t => (t.link .sl).inWork) (exec (.replySent .sl) (wire .sl (fun r => { r with
      inWork := true, transmit := [⟨2, 1, .ok, false, [], true⟩] }) State.reset)) = some false := by decide
theorem test_drawers :
    after (fun t => ((t.pos 0).forced, (t.jnl.records.map Record.kind))) (exec (.opening 0) (teller .ready)) =
      some (true, [.drawerForced]) ∧
    after (fun t => (t.pos 0).lock) (exec (.shutting 0) (tune 0 (fun p => { p with sensor := .opened, lock := .released }) (teller .ready))) =
      some .locked ∧
    after (fun t => (t.pos 0).lock) (exec (.releaseWindowEnd 0) (tune 0 (fun p => { p with window := some 3, lock := .released }) (teller .ready))) =
      some .locked ∧
    after (fun t => (t.pos 0).hold) (exec (.sensorInputChange 0 .opened) (teller .ready)) = some (some 5) := by decide
theorem test_position_watches :
    after (fun t => (t.pos 0).longRaised) (exec (.drawerLong 0) (tune 0 (fun p => { p with sensor := .opened }) (teller .ready))) =
      some true ∧
    after (fun t => (t.window 0).pattern) (exec (.serviceLong 0) (teller .serving)) = some .fast ∧
    after (fun t => ((t.window 0).blank, (t.window 0).target)) (exec (.idle 0) (teller .ready)) = some (true, 0) := by decide
theorem test_show_and_its_end :
    after (fun t => (t.window 0).cells.take 2) (exec (.showText (.tl 0) 1 [1, 0x48, 0x69]) (teller .ready)) = some [0x48, 0x20] ∧
    after (fun t => (t.window 0).text) (exec (.textHoldEnd 0) State.reset) = some none := by decide
theorem test_ticks :
    after (fun t => (t.day.hundredths, t.day.seconds))
      (exec .oneHzTick { State.reset with day := { Day.cold with seconds := 86399, hundredths := 99 } }) = some (0, 0) ∧
    after (fun t => (t.day.phase, (t.window 0).current)) (exec .eightHzTick State.reset) = some (1, 1) ∧
    after (fun t => (t.day.hundredths, t.day.seconds)) (step { State.reset with day := { Day.cold with hundredths := 99 } }) =
      some (0, 1) := by decide +kernel
theorem test_supply :
    after (fun t => t.alive) (exec .mainPowerFail State.reset) = some false ∧
    after (fun t => t.day.intact) (exec .backupLow State.reset) = some true ∧
    after (fun t => t.day.cause) (exec .mainPowerReturn (branch .opened)) = some .powerUp ∧
    after (fun t => (t.pos 0).lock) (exec .resetLineAsserted (tune 0 (fun p => { p with lock := .released }) State.reset)) = some .locked ∧
    after (fun t => (t.day.cause, (t.pos 0).state)) (exec .warmLine (teller .ready)) = some (.warmLine, .away) := by decide

/-! ### The uplink -/

/-- 10, worked control totals: the three records. -/
def totalRecords : List Record :=
  [{ record311 with seq := 1, pending := false, book := false }, { record311 with
      seq := 2, kind := .withdrawal, effect := .debit, amount := 40000, account := some 700000000456, pending := false, book := false },
   { Record.plain .cashOver (.position 0) 7 100 with seq := 3 }]
/-- The day SENDING, its SUMMARY held. -/
def verdictState (rs : List Record) : State :=
  let s := file (rs.map (fun r => { r with sent := true })) (branch .sending)
  uplink (fun u => { u with
    up := true, sending := none, round := none, verdict := some 29000
    buffers := u.buffers.set 0 (some ⟨5, .summary s.summary, true, 0, none⟩) }) s
theorem test_worked_totals :
    (file totalRecords (branch .sending)).summary.totals = ⟨3, 17650, 40000, 100000000579⟩ := by decide
theorem test_worked_verdicts :
    after (fun t => t.day.state) (exec (.dayAccepted ⟨3, 17650, 40000, 100000000579⟩) (verdictState totalRecords)) = some .closed ∧
    after (fun t => (t.day.state, t.day.rejection)) (exec (.dayAccepted ⟨3, 17650, 39000, 100000000579⟩) (verdictState totalRecords)) =
      some (.rejected, .mismatch) ∧
    after (fun t => t.day.rejection) (exec (.dayRejected 9) (verdictState totalRecords)) = some (.code 9) := by decide
theorem test_day_open : after (fun t => (t.day.state, t.cash.faces.get 3, t.ulc.up)) (exec (.dayOpen opening) State.reset) =
    some (.opened, some 500, true) := by decide
/-- 10, a worked transmission: blocks 1 and 2 outstanding. -/
def sending37 : State :=
  uplink (fun u => { u with
    up := true, sending := none, nextBlock := 3
    buffers := ⟨[some ⟨1, .records (List.range' 1 16), false, 0, some 900⟩, some ⟨2, .records (List.range' 17 16), false, 5, some 900⟩], rfl⟩ })
    (file (deposits 37) (branch .sending))
theorem test_worked_block_ack :
    after (fun t => ((t.jnl.records.filter Record.sent).length, heldSeqs (t.ulc.buffers.get 0), t.ulc.nextBlock))
      (exec (.blockAck 1) sending37) = some (16, List.range' 33 5, 4) := by decide +kernel
theorem test_worked_retries :
    after (fun t => (t.ulc.buffers.get 0).map Block.retries) (exec (.blockNak 1) sending37) = some (some 1) ∧
    after (fun t => (t.ulc.up, t.ulc.buffers.get 0)) (exec (.answerTimeEnd 1) sending37) = some (false, none) ∧
    after (fun t => t.ulc.verdict) (exec .verdictWaitEnd (verdictState totalRecords)) = some none := by decide +kernel
theorem test_pings :
    after (fun t => (t.ulc.round, t.ulc.sending)) (exec .uplinkFrameSent State.reset) = some (some ⟨1, 3, some 300⟩, none) ∧
    after (fun t => t.ulc.round.map Round.sent)
      (exec .pingWaitEnd (uplink (fun u => { u with round := some ⟨1, 3, some 1⟩ }) State.reset)) = some (some 2) ∧
    after (fun t => t.ulc.round.isSome) (exec .pingRound (uplink (fun u => { u with round := none }) State.reset)) = some true ∧
    after (fun t => (t.ulc.up, t.ulc.round)) (exec .pingReply State.reset) = some (true, none) ∧
    after (fun t => t.ulc) (exec (.uplinkFrameDiscarded [true, false]) State.reset) = some State.reset.ulc := by decide
/-- 10 R178: five ones are followed by an inserted zero, and taken back. -/
theorem test_stuffing : stuff 0 (octetBits 0xFF) = [true, true, true, true, true, false, true, true, true] := by decide

/-! ### Witnesses: one step, links -/

theorem witness_StepRunsTheFrontCommand :
    ({ State.reset with pending := [.oneHzTick, .pingRound] } : State).pending = .oneHzTick :: [.pingRound] := by decide

/-- The last hundredth of a day with a transaction open and two entries, one about to expire. -/
def midnight : State :=
  let s := hold [{ transfer 1 with remaining := 1 }, transfer 2] (tune 0 (fun p => { p with stopwatch := 999999 }) (teller .serving))
  { s with day := { s.day with hundredths := 99, seconds := 86399 } }
/-- A part without main power, and one that its reset line holds. -/
def dark : State := { State.reset with supply := ⟨false, false, false⟩ }
def held : State := { State.reset with supply := ⟨true, true, false⟩ }
/-- The last hundredth of a drawer's hold. -/
def shoving : State := tune 0 (fun p => { p with input := .opened, hold := some 1 }) (branch .opened)
theorem witness_IdleStepCountsOneHundredth :
    (midnight.pending = [] ∧ midnight.day.hundredths ≤ 99 ∧ midnight.alive = true ∧ midnight.settings = Settings.cold ∧
      (midnight.dct.entries.map Entry.id).Nodup ∧ (midnight.pos 0).running = true ∧
      (midnight.pos 0).serviceLimit * 100 ≤ 999999 ∧ (midnight.pos 1).running = false) ∧
    (held.pending = [] ∧ held.alive = false ∧ held.day.hundredths ≤ 99) ∧
    ((branch .opened).alive = true ∧ (branch .opened).settings.InRange ∧ (branch .opened).passed.dueNow = []) ∧
    (shoving.alive = true ∧ shoving.settings.InRange ∧ shoving.passed.dueNow = [.opening 0] ∧
      ∃ u, exec (.opening 0) shoving.passed = .next u) := by
  unfold Settings.InRange
  exact ⟨by decide, by decide, ⟨by decide, by decide, by decide⟩, by decide, by decide, by decide, _, rfl⟩
theorem witness_HeldPartTakesNothing : held.alive = false ∧ dark.alive = false ∧ outsideCommand .pingRound = false := by decide

def hunting (l : Link) : State := wire l (fun r => { r with receiver := .hunt }) State.reset
def receiving (f : Bytes) : State := wire .sl (fun r => { r with receiver := .receiving, frame := f }) State.reset
theorem witness_ReceiverTakesBytes :
    ((hunting .sl).alive = true ∧ ((hunting .sl).link .sl).receiver = .hunt ∧ (0xA5 : Byte) = 0xA5 ∧ (0xA4 : Byte) ≠ 0xA5) ∧
    ((receiving []).alive = true ∧ ((receiving []).link .sl).receiver = .receiving ∧ ((receiving []).link .sl).frame = [] ∧
      250 < (251 : Byte).toNat ∧ ¬(((receiving []).link .sl).frame = [] ∧ 250 < (250 : Byte).toNat)) ∧
    (∀ len rest, ((receiving []).link .sl).frame ++ [250] = len :: rest → rest.length ≠ len.toNat + 4) ∧
    (State.reset.alive = true ∧ (State.reset.link .sl).receiver = .skipping) := by
  refine ⟨by decide, by decide, ?_, by decide⟩
  intro len rest h
  rw [show ((receiving []).link .sl).frame = [] from rfl] at h
  cases h
  decide
def queued (w : Bool) : State :=
  wire .sl (fun r => { r with inWork := w, transmit := [⟨2, 1, .ok, false, [], w⟩] }) (branch .opened)
theorem witness_LinkTakesLineEvents : (State.reset.alive = true ∧ (State.reset.link .sl).transmit = []) ∧
    ((queued true).alive = true ∧ ((queued true).link .sl).transmit = ⟨2, 1, .ok, false, [], true⟩ :: [] ∧
      (queued true).supply.restartPending = false) ∧
    ((queued false).alive = true ∧ ((queued false).link .sl).transmit = ⟨2, 1, .ok, false, [], false⟩ :: []) := by decide
theorem witness_FrameBytesAreTheRequest :
    (hunting (.tl 7)).alive = true ∧ ((hunting (.tl 7)).link (.tl 7)).receiver = .hunt ∧ ([] : Bytes).length ≤ 250 ∧
    (List.replicate 250 (0 : Byte)).length ≤ 250 ∧ [0x3B#8, 0xD7#8] = checkBytes [0, 2, 9] ∧
    [0x3B#8, 0xD6#8] ≠ checkBytes [0, 2, 9] := by
  refine ⟨by decide, by decide, by decide, ?_, by decide +kernel, by decide +kernel⟩
  rw [List.length_replicate]
theorem witness_RequestRowsAreTheirFrames : ((0 : Byte) = 0 ∨ 34 < (0 : Byte).toNat) ∧ ((35 : Byte) = 0 ∨ 34 < (35 : Byte).toNat) := by
  decide
theorem witness_RequestInWorkIsBusyOrDiscarded : (queued true).alive = true ∧ ((queued true).link .sl).inWork = true := by decide
theorem witness_RequestIsRefusedByKindRoleAndLength :
    (State.reset.Accepts .sl ∧ State.reset.Accepts (.tl 0)) ∧
    (¬(1 ≤ (0 : Byte).toNat ∧ (0 : Byte).toNat ≤ 34) ∧ ¬(1 ≤ (35 : Byte).toNat ∧ (35 : Byte).toNat ≤ 34)) ∧
    ((1 ≤ (34 : Byte).toNat ∧ (34 : Byte).toNat ≤ 34) ∧
      ¬((34 : Byte).toNat ∈ [9, 10, 11, 12, 13, 14, 17, 18, 24, 25, 26, 31, 32, 34] → Link.sl ≠ .sl)) ∧
    (¬LengthAdmitted 1 false 1 ∧ ¬LengthAdmitted 7 true 0 ∧ ¬LengthAdmitted 7 true 92 ∧ ¬LengthAdmitted 34 false 0) := by
  unfold State.Accepts
  refine ⟨by decide, by decide, by decide, ?_, ?_, ?_, ?_⟩ <;> (simp [LengthAdmitted]; try omega)
theorem witness_TakeNoticesReturnsAndClears : State.reset.Accepts .sl ∧ State.reset.Accepts (.tl 7) := by
  unfold State.Accepts; decide

/-! ### Witnesses: the day -/

abbrev openInRange (f : DayOpenFields) : Prop :=
  (1 ≤ f.day ∧ f.day ≤ 31 ∧ 1 ≤ f.month ∧ f.month ≤ 12 ∧ f.year ≤ 99 ∧ f.seconds ≤ 86399) ∧
  (f.minorDigits = 0 ∨ f.minorDigits = 2 ∨ f.minorDigits = 3) ∧ (∀ i, f.faces.get i ≤ 10000000) ∧
  f.postingLimit ≤ 9999999999 ∧ f.itemization ≤ 9999999999 ∧ 1 ≤ f.drawerMax ∧ f.drawerMax ≤ 99999999999 ∧ f.tolerance ≤ 99999
abbrev openOrdered (f : DayOpenFields) : Prop :=
  ∀ i j, i < j → f.faces.get i ≠ 0 → f.faces.get j ≠ 0 → f.faces.get i < f.faces.get j
abbrev openKeepsVault (f : DayOpenFields) (s : State) : Prop :=
  ∀ i, s.cash.vault.counts.get i ≠ 0 → f.faces.get i ≠ 0 ∧ s.cash.faces.get i = some (f.faces.get i)
/-- Every figure at its greatest. -/
def greatest : DayOpenFields :=
  { day := 31, month := 12, year := 99, seconds := 86399, minorDigits := 3, faces := ⟨[0, 0, 0, 0, 0, 0, 0, 0, 0, 0, 0, 10000000], rfl⟩
    postingLimit := 9999999999, itemization := 9999999999, drawerMax := 99999999999, tolerance := 99999 }
def vaulted : State :=
  { branch .closed with cash := { (branch .closed).cash with vault := ⟨(Vec.fill 0).set 0 1, 0, 5⟩ } }
theorem witness_DayOpenIsJudgedAndOpensTheDay :
    (State.reset.alive = true ∧ State.reset.day.state = .closed ∧ (branch .opened).day.state ≠ .closed) ∧
    (¬openInRange { greatest with day := 32 } ∧ ¬openInRange { greatest with drawerMax := 0 } ∧
      ¬openInRange { greatest with minorDigits := 1 }) ∧
    (openInRange { greatest with faces := ⟨[5, 5, 0, 0, 0, 0, 0, 0, 0, 0, 0, 0], rfl⟩ } ∧
      ¬openOrdered { greatest with faces := ⟨[5, 5, 0, 0, 0, 0, 0, 0, 0, 0, 0, 0], rfl⟩ }) ∧
    (vaulted.day.state = .closed ∧ openInRange greatest ∧ ¬openKeepsVault greatest vaulted) ∧
    (openInRange greatest ∧ openOrdered greatest ∧ openKeepsVault greatest State.reset) ∧
    (openInRange opening ∧ openOrdered opening ∧ openKeepsVault opening vaulted) := by
  and_intros <;> decide
theorem witness_CutoffReopenDayAndRestart : ((branch .opened).Accepts .sl ∧ (branch .opened).day.state = .opened) ∧
    ((branch .cutoff).Accepts .sl ∧ (branch .cutoff).day.state = .cutoff ∧ (branch .cutoff).day.state ≠ .opened) ∧
    ((branch .rejected).Accepts .sl ∧ (branch .rejected).day.state = .rejected) ∧
    ((branch .sending).Accepts .sl ∧ (branch .sending).day.state ≠ .cutoff ∧ (branch .sending).day.state ≠ .rejected) := by
  unfold State.Accepts; decide
def ready2 (d : DayState) : State := uplink (fun u => { u with up := true }) (file (deposits 2) (branch d))
theorem witness_SendAndResendStartTheTransmission :
    ((ready2 .opened).Accepts .sl ∧ (ready2 .opened).day.state ≠ .cutoff ∧ (ready2 .opened).day.state ≠ .rejected) ∧
    ((stand 7 .away (branch .cutoff)).Accepts .sl ∧ (stand 7 .away (branch .cutoff)).day.state = .cutoff ∧
      ∃ n, ((stand 7 .away (branch .cutoff)).pos n).state ≠ .closed) ∧
    ((hold [transfer 1] (branch .cutoff)).Accepts .sl ∧ (hold [transfer 1] (branch .cutoff)).dct.entries ≠ []) ∧
    ((ready2 .cutoff).Accepts .sl ∧ (ready2 .cutoff).day.state = .cutoff ∧ (∀ n, ((ready2 .cutoff).pos n).state = .closed) ∧
      (ready2 .cutoff).dct.entries = [] ∧ (ready2 .cutoff).ulc.up = true ∧ (ready2 .cutoff).jnl.records ≠ []) ∧
    (State.reset.ulc.up = false ∧ (ready2 .rejected).Accepts .sl ∧ (ready2 .rejected).day.state = .rejected ∧
      ∀ r ∈ (ready2 .rejected).jnl.records, r.sent = false) := by unfold State.Accepts; decide
theorem witness_VerdictEndsOrReturnsTheDay : (branch .sending).ulc.verdict = none ∧
    let s := verdictState totalRecords
    let m := (file (totalRecords.map (fun r => { r with sent := true })) (branch .sending)).summary
    s.alive = true ∧ s.ulc.up = true ∧ s.ulc.verdict ≠ none ∧ s.ulc.buffers.get 0 = some ⟨5, .summary m, true, 0, none⟩ ∧
    s.day.date = some ⟨17, 3, 25⟩ ∧ (⟨4, 17650, 40000, 100000000579⟩ : Totals) ≠ m.totals ∧ 1 ≠ 0 ∧ 255 ≠ 0 := by decide +kernel
abbrev configSound (lines : List ConfigLine) : Prop :=
  (∀ c ∈ lines, 1 ≤ c.item ∧ c.item ≤ 15 ∧ (c.item = 15 → c.position ≤ 7 ∧ c.value ≤ 1) ∧ (c.item = 7 → c.value ≤ 1)) ∧
  lines.Pairwise (fun a b => a.item ≠ b.item ∨ a.item = 15 ∧ a.position ≠ b.position)
abbrev configFits (lines : List ConfigLine) : Prop :=
  1 ≤ lines.length ∧ lines.length ≤ 22 ∧ ∀ c ∈ lines, c.item < 256 ∧ c.position < 256 ∧ c.value < 65536
/-- Every item once. -/
def everyItem : List ConfigLine :=
  [⟨1, 0, 65535⟩, ⟨2, 0, 65535⟩, ⟨3, 0, 0⟩, ⟨4, 0, 0⟩, ⟨5, 0, 0⟩, ⟨6, 0, 0⟩, ⟨7, 0, 1⟩, ⟨8, 0, 0⟩, ⟨9, 0, 0⟩, ⟨10, 0, 0⟩, ⟨11, 0, 256⟩,
   ⟨12, 0, 1023⟩, ⟨13, 0, 8⟩, ⟨14, 0, 16⟩, ⟨15, 0, 1⟩, ⟨15, 1, 1⟩, ⟨15, 2, 1⟩, ⟨15, 3, 1⟩, ⟨15, 4, 0⟩, ⟨15, 5, 0⟩, ⟨15, 6, 0⟩,
   ⟨15, 7, 0⟩]
theorem witness_ConfigStoresValuesBroughtIntoRange : State.reset.Accepts .sl ∧ (configFits everyItem ∧ configSound everyItem) ∧
    (configFits [⟨0, 0, 0⟩] ∧ ¬configSound [⟨0, 0, 0⟩]) ∧ (configFits [⟨16, 0, 0⟩] ∧ ¬configSound [⟨16, 0, 0⟩]) ∧
    (configFits [⟨15, 8, 0⟩] ∧ ¬configSound [⟨15, 8, 0⟩]) ∧ (configFits [⟨7, 0, 2⟩] ∧ ¬configSound [⟨7, 0, 2⟩]) ∧
    (configFits [⟨1, 0, 10⟩, ⟨1, 1, 10⟩] ∧ ¬configSound [⟨1, 0, 10⟩, ⟨1, 1, 10⟩]) := by unfold State.Accepts; and_intros <;> decide

/-! ### Witnesses: positions -/

/-- A journal of `k` customer records. -/
def filled (k : Nat) (s : State) : State := file (List.replicate k (deposit 1)) s
theorem filled_customers (k : Nat) (s : State) :
    ((filled k s).jnl.records.filter (fun r => r.kind.customer)).length = k := by
  simp [filled, file, deposit, Record.plain, RecordKind.customer]
theorem filled_records (k : Nat) (s : State) : (filled k s).jnl.records.length = k := by simp [filled, file]
theorem witness_SignOnIsJudgedAndTaken :
    ((branch .opened).Accepts (.tl 0) ∧ ¬(1 ≤ 0 ∧ 0 ≤ 9999) ∧ ¬(1 ≤ 10000 ∧ 10000 ≤ 9999) ∧ 10000 < 65536) ∧
    ((branch .cutoff).Accepts (.tl 0) ∧ (1 ≤ 1 ∧ 1 ≤ 9999) ∧ (branch .cutoff).day.state ≠ .opened) ∧
    ((teller .ready).Accepts (.tl 0) ∧ (teller .ready).day.state = .opened ∧ ((teller .ready).pos 0).state ≠ .closed) ∧
    ((teller .ready).Accepts (.tl 1) ∧ ((teller .ready).pos 1).state = .closed ∧ ¬∀ m, ((teller .ready).pos m).teller ≠ some 7) ∧
    ((filled 4032 (branch .opened)).Accepts (.tl 0) ∧ (∀ m, ((filled 4032 (branch .opened)).pos m).teller ≠ some 9999) ∧
      ¬((filled 4032 (branch .opened)).jnl.records.filter (fun r => r.kind.customer)).length < 4032) ∧
    ((filled 4031 (branch .opened)).Accepts (.tl 0) ∧ (∀ m, ((filled 4031 (branch .opened)).pos m).teller ≠ some 9999) ∧
      ((filled 4031 (branch .opened)).jnl.records.filter (fun r => r.kind.customer)).length < 4032 ∧
      (filled 4031 (branch .opened)).jnl.records.length < 4096) := by
  rw [filled_customers, filled_customers, filled_records]
  unfold State.Accepts; decide
/-- A drawer open under a READY teller. -/
def ajar : State := tune 0 (fun p => { p with sensor := .opened, input := .opened }) (teller .ready)
theorem witness_TransactionsOpenAndClose :
    ((stand 0 .ready (branch .cutoff)).Accepts (.tl 0) ∧ (stand 0 .ready (branch .cutoff)).day.state ≠ .opened) ∧
    ((teller .held).Accepts (.tl 0) ∧ (teller .held).day.state = .opened ∧ ((teller .held).pos 0).state ≠ .ready ∧
      ((teller .held).pos 0).state ≠ .serving) ∧
    (ajar.Accepts (.tl 0) ∧ ajar.day.state = .opened ∧ (ajar.pos 0).state = .ready ∧ (ajar.pos 0).sensor = .opened) ∧
    ((teller .ready).Accepts (.tl 0) ∧ ((teller .ready).pos 0).state = .ready ∧ ((teller .ready).pos 0).sensor = .shut) ∧
    ((teller .serving).Accepts (.tl 0) ∧ ((teller .serving).pos 0).state = .serving) := by unfold State.Accepts; decide
theorem witness_ProfileAverageLiesBetweenItsBounds : ([0, 999999] : List Nat) ≠ [] ∧ ∀ d ∈ [0, 999999], d ≤ 999999 := by decide
theorem witness_AwayAndUnlockMoveThePosition :
    ((teller .serving).Accepts (.tl 0) ∧ ((teller .serving).pos 0).state ≠ .ready ∧ ((teller .serving).pos 0).state ≠ .away) ∧
    (ajar.Accepts (.tl 0) ∧ (ajar.pos 0).state = .ready ∧ (ajar.pos 0).sensor = .opened) ∧
    ((teller .ready).Accepts (.tl 0) ∧ ((teller .ready).pos 0).state = .ready ∧ ((teller .ready).pos 0).sensor = .shut) ∧
    (¬(1 ≤ 0 ∧ 0 ≤ 9999) ∧ ¬(1 ≤ 10000 ∧ 10000 ≤ 9999) ∧ 10000 < 65536) ∧
    ((teller .away).Accepts (.tl 0) ∧ ((teller .away).pos 0).state = .away ∧ (1 ≤ 9999 ∧ 9999 ≤ 9999) ∧
      ((teller .away).pos 0).teller ≠ some 9999 ∧ ((teller .away).pos 0).teller = some 7) := by unfold State.Accepts; decide

abbrev emptyDrawer (s : State) : Prop := (∀ i, (s.drawer 0).counts.get i = 0) ∧ (s.drawer 0).unitemized = 0
abbrev maySignOff (s : State) : Prop := (s.pos 0).state = .balanced ∨ (s.pos 0).state = .ready ∧ emptyDrawer s
abbrev putAway (s : State) : CashRecord :=
  CashRecord.make s.cash.faces (Vec.tab fun i => s.cash.vault.counts.get i + (s.drawer 0).counts.get i)
    (s.cash.vault.unitemized + (s.drawer 0).unitemized)
abbrev fitsVault (r : CashRecord) : Prop :=
  (∀ i, r.counts.get i ≤ 16777215) ∧ -9999999999 ≤ r.unitemized ∧ r.unitemized ≤ 9999999999 ∧ 0 ≤ r.total ∧ r.total ≤ 99999999999
/-- A vault that holds `k` pieces of the lowest face value. -/
def vaultOf (k : Nat) (s : State) : State :=
  { s with cash := { s.cash with vault := CashRecord.make s.cash.faces ((Vec.fill 0).set 0 k) 0 } }
/-- A BALANCED position with one piece. -/
def balanced1 : State := till 0 1 0 0 0 (teller .balanced)
def withJob (s : State) : State := { s with pbu := { s.pbu with queue := [{ work 1 with printer := none, geometry := none }] } }
theorem witness_SignOffPutsTheDrawerAway :
    ((till 0 1 0 0 0 (teller .ready)).Accepts (.tl 0) ∧ ((till 0 1 0 0 0 (teller .ready)).dct.entries.map Entry.id).Nodup ∧
      (till 0 1 0 0 0 (teller .ready)).dct.overrides 0 = 0 ∧ ¬maySignOff (till 0 1 0 0 0 (teller .ready))) ∧
    ((withJob balanced1).Accepts (.tl 0) ∧ maySignOff (withJob balanced1) ∧ (withJob balanced1).pbu.hasJob 0 = true) ∧
    (ajar.Accepts (.tl 0) ∧ maySignOff ajar ∧ ajar.pbu.hasJob 0 = false ∧ (ajar.pos 0).sensor = .opened) ∧
    ((vaultOf 16777215 balanced1).Accepts (.tl 0) ∧ maySignOff (vaultOf 16777215 balanced1) ∧
      ((vaultOf 16777215 balanced1).pos 0).sensor = .shut ∧ ¬fitsVault (putAway (vaultOf 16777215 balanced1))) ∧
    ((vaultOf 16777214 balanced1).Accepts (.tl 0) ∧ maySignOff (vaultOf 16777214 balanced1) ∧
      (vaultOf 16777214 balanced1).pbu.hasJob 0 = false ∧ fitsVault (putAway (vaultOf 16777214 balanced1)) ∧
      ¬emptyDrawer (vaultOf 16777214 balanced1)) ∧
    (maySignOff (teller .ready) ∧ emptyDrawer (teller .ready)) := by
  unfold State.Accepts; decide
theorem witness_ForceSignOffClosesThePosition : ((teller .held).Accepts .sl ∧ 8 ≤ 8 ∧ 8 ≤ 255 ∧ 255 < 256) ∧
    ((vaultOf 16777215 balanced1).Accepts .sl ∧ (0 : Fin 8).val = 0 ∧ ((vaultOf 16777215 balanced1).dct.entries.map Entry.id).Nodup ∧
      (vaultOf 16777215 balanced1).pbu.jobPositions.Nodup ∧ ((vaultOf 16777215 balanced1).pos 0).state ≠ .closed ∧
      ¬fitsVault (putAway (vaultOf 16777215 balanced1))) ∧
    ((branch .opened).Accepts .sl ∧ ((branch .opened).pos 7).state = .closed) ∧
    ((hold [override 1 credit] (teller .held)).Accepts .sl ∧ ((hold [override 1 credit] (teller .held)).dct.entries.map Entry.id).Nodup ∧
      fitsVault (putAway (teller .held)) ∧ (hold [override 1 credit] (teller .held)).dct.overrides 0 ≠ 0 ∧
      (hold [override 1 credit] (teller .held)).pbu.hasJob 0 = false) ∧
    ((withJob balanced1).pbu.jobPositions.Nodup ∧ fitsVault (putAway (withJob balanced1)) ∧ (withJob balanced1).pbu.hasJob 0 = true ∧
      ((withJob balanced1).pos 0).state = .balanced) := by unfold State.Accepts; decide
theorem witness_DrawerOpensShutsAndLocks :
    ((teller .ready).alive = true ∧ ((teller .ready).pos 0).sensor = .shut ∧ ((teller .ready).pos 0).lock = .locked ∧
      ((teller .ready).pos 0).window = none) ∧
    ((tune 0 (fun p => { p with lock := .released, window := some 1 }) (teller .ready)).alive = true ∧
      ((tune 0 (fun p => { p with lock := .released, window := some 1 }) (teller .ready)).pos 0).window ≠ none ∧
      ((tune 0 (fun p => { p with lock := .released, window := some 1 }) (teller .ready)).pos 0).lock = .released) ∧
    (ajar.alive = true ∧ (ajar.pos 0).sensor = .opened) := by decide
theorem witness_DrawerAndServiceWatchesRun :
    (ajar.alive = true ∧ (ajar.pos 0).sensor = .opened ∧ (ajar.pos 0).longRaised = false ∧ (ajar.pos 0).state = .ready ∧
      ¬((ajar.pos 0).running = true ∧ (ajar.pos 0).serviceRaised = false)) ∧
    ((teller .serving).alive = true ∧ ((teller .serving).pos 0).running = true ∧ ((teller .serving).pos 0).serviceRaised = false ∧
      ¬(((teller .serving).pos 0).sensor = .opened ∧ ((teller .serving).pos 0).longRaised = false) ∧
      ((teller .serving).pos 0).state ≠ .ready ∧ ((teller .serving).pos 0).state ≠ .closed ∧
      ((teller .serving).pos 0).state ≠ .away) := by decide
/-- A position whose silence has made it idle. -/
def quiet : State := tune 0 (fun p => { p with idle := true, silence := 90000 }) (teller .ready)
theorem witness_PositionReadingsReturnTheRecord :
    ((teller .serving).Accepts (.tl 0) ∧ (teller .serving).Accepts .sl ∧ (teller .serving).settings.InRange ∧ 8 ≤ 8 ∧ 255 < 256) ∧
    (quiet.Accepts (.tl 0) ∧ quiet.settings.InRange) := by unfold State.Accepts Settings.InRange; decide

/-! ### Witnesses: cash -/

def lineOf (x : Line) : Bytes := lineBytes x.slot x.count (if x.isIn then 1 else 2)
def bodyOf (x : Posting) : Bytes :=
  be 1 (match x.kind with | .deposit => 1 | .withdrawal => 2 | .credit => 3 | .debit => 4) ++ be 5 x.amount ++ be 5 x.account ++
    be 1 (if x.book then 1 else 0) ++ x.lines.flatMap lineOf
/-- A deposit at the limit with its breakdown, a withdrawal without one at the itemization threshold, and a credit. -/
def depositAtLimit : Posting := ⟨.deposit, 50000, 999999999999, true, [⟨3, 101, true⟩, ⟨2, 5, false⟩]⟩
def withdrawal2000 : Posting := ⟨.withdrawal, 2000, 0, false, []⟩
def credit1 : Posting := ⟨.credit, 1, 0, false, []⟩
/-- A drawer with five pieces of 100, and one with 2,000 loose. -/
def coined : State := till 0 0 0 5 0 (teller .serving)
def loose2000 : State := loose 0 2000 (teller .serving)
theorem witness_PostWithinTheLimitIsMade :
    (coined.Accepts (.tl 0) ∧ (coined.pos 0).state = .serving ∧ readPosting (bodyOf depositAtLimit) = some depositAtLimit ∧
      (bodyOf depositAtLimit).length = 12 + 4 * 2 ∧
      worth coined.cash.faces (pieces true depositAtLimit.lines) - worth coined.cash.faces (pieces false depositAtLimit.lines) = 50000 ∧
      (∀ i, (pieces false depositAtLimit.lines).get i ≤ (coined.drawer 0).counts.get i + (pieces true depositAtLimit.lines).get i) ∧
      (coined.drawer 0).total + 50000 ≤ 99999999999 ∧ coined.cash.cashIn + 50000 ≤ 999999999999 ∧
      (coined.jnl.records.filter (fun r => r.kind.customer)).length < 4032 ∧ 50000 ≤ coined.day.postingLimit) ∧
    (loose2000.Accepts (.tl 0) ∧ readPosting (bodyOf withdrawal2000) = some withdrawal2000 ∧ withdrawal2000.lines = [] ∧
      2000 ≤ loose2000.day.itemization ∧ (2000 : Int) ≤ (loose2000.drawer 0).total) ∧
    ((teller .serving).Accepts (.tl 0) ∧ readPosting (bodyOf credit1) = some credit1 ∧ 1 ≤ credit1.amount) := by
  unfold State.Accepts; and_intros <;> decide
/-- A drawer of `k` pieces in slot 3, and a counter of cash taken in. -/
def pile (k : Nat) : State := till 0 0 0 0 k (teller .serving)
def counted (k : Nat) (s : State) : State := { s with cash := { s.cash with cashIn := k } }
/-- A drawer far below its pieces in its unitemized balance. -/
def owing (u : Int) : State := loose 0 u (teller .serving)
abbrev posts (x : Posting) : Prop := readPosting (bodyOf x) = some x
theorem witness_PostIsRefusedByItsFirstCheck :
    ((teller .ready).Accepts (.tl 0) ∧ ((teller .ready).pos 0).state ≠ .serving ∧ LengthAdmitted 17 false 12 ∧ LengthAdmitted 17 false 60) ∧
    (coined.Accepts (.tl 0) ∧ (coined.pos 0).state = .serving ∧ readPosting (List.replicate 12 0) = none) ∧
    (posts { credit1 with amount := 0 } ∧ posts { credit1 with account := 1000000000000 } ∧ posts { credit1 with book := true } ∧
      posts { credit1 with lines := [⟨0, 1, true⟩] }) ∧
    (posts ⟨.deposit, 5, 0, false, [⟨0, 2, true⟩]⟩ ∧ ¬coined.cash.LinesMove true 5 [⟨0, 2, true⟩] ∧
      ¬coined.cash.LinesMove true 5 [⟨12, 1, true⟩, ⟨0, 1, true⟩] ∧ ¬coined.cash.LinesMove true 5 [⟨4, 1, true⟩, ⟨0, 1, true⟩] ∧
      ¬coined.cash.LinesMove true 10 [⟨0, 1, true⟩, ⟨0, 1, true⟩] ∧ ¬coined.cash.LinesMove true 5000 [⟨0, 1000, true⟩] ∧
      coined.cash.LinesMove true 4995 [⟨0, 999, true⟩]) ∧
    (posts { withdrawal2000 with amount := 2001 } ∧ coined.day.itemization < 2001) ∧
    (coined.cash.LinesMove false 3000 [⟨3, 6, false⟩] ∧
      coined.cash.effectFails (coined.drawer 0) false 3000 [⟨3, 6, false⟩] = some .shortfall ∧
      coined.cash.effectFails (owing 1999 |>.drawer 0) false 2000 [] = some .shortfall) ∧
    (coined.cash.LinesMove true 500 [⟨3, 1, true⟩] ∧
      (pile 65535).cash.effectFails ((pile 65535).drawer 0) true 500 [⟨3, 1, true⟩] = some .range ∧
      (pile 65534).cash.effectFails ((pile 65534).drawer 0) true 500 [⟨3, 1, true⟩] = none ∧
      (owing 9999999999).cash.effectFails ((owing 9999999999).drawer 0) true 1 [] = some .range ∧
      (owing 0).cash.effectFails ((owing (-600)).drawer 0) true 500 [⟨3, 1, true⟩] = some .range ∧
      (counted 999999999999 (owing 0)).cash.effectFails ((owing 0).drawer 0) true 1 [] = some .range) ∧
    ((filled 4032 coined).Accepts (.tl 0) ∧ ((filled 4032 coined).pos 0).state = .serving ∧
      ¬((filled 4032 coined).jnl.records.filter (fun r => r.kind.customer)).length < 4032 ∧
      (filled 4032 coined).cash.effectFails (coined.drawer 0) false 500 [⟨2, 5, false⟩] = none) ∧
    (posts credit ∧ coined.day.postingLimit < credit.amount ∧
      6 ≤ (hold ((List.range 6).map (fun i => transfer (i + 1))) (teller .serving)).dct.entries.length) := by
  rw [filled_customers]
  have h : LengthAdmitted 17 false 12 ∧ LengthAdmitted 17 false 60 := by
    constructor
    · simp [LengthAdmitted]
    · simp only [LengthAdmitted]; right; right; right; right; right; right; left; exact ⟨trivial, 12, by decide, by decide⟩
  unfold State.Accepts Cash.LinesMove
  refine ⟨⟨by decide, by decide, h.1, h.2⟩, ?_⟩
  and_intros <;> decide
theorem witness_PostAboveTheLimitIsHeld : LengthAdmitted 17 false (bodyOf credit).length ∧
    (teller .serving).Accepts (.tl 0) ∧ ((teller .serving).pos 0).state = .serving ∧ readPosting (bodyOf credit) = some credit ∧
    credit.lines = [] ∧ (teller .serving).cash.breakdownOk credit.kind.dir credit.amount credit.lines = true ∧
    itemizationOk (teller .serving).day.itemization credit.kind.dir credit.amount credit.lines = true ∧
    credit.recheck 0 (teller .serving) (.ok ()) = .ok () ∧ (teller .serving).day.postingLimit < credit.amount ∧
    (teller .serving).dct.entries.length < 6 ∧ (teller .serving).dct.cursor ≤ 255 ∧
    ∀ e ∈ (teller .serving).dct.entries, 1 ≤ e.id ∧ e.id ≤ 255 := by
  refine ⟨by simp only [LengthAdmitted]; right; right; right; right; right; right; left; exact ⟨trivial, 0, by decide, by decide⟩, ?_⟩
  unfold State.Accepts
  and_intros <;> decide
/-- A serving position with one record of a deposit of 100, and its drawer. -/
def voiding (r : Record) : State := till 0 0 0 1 0 (file [r] (teller .serving))
abbrev mayVoid (r : Record) : Prop := r.place = .position 0 ∧ 1 ≤ r.seq ∧ r.link = .absent ∧
  r.kind ∈ [.deposit, .withdrawal, .credit, .debit] ∧ r.claimed = none
theorem witness_VoidReversesThePosting :
    ((teller .ready).Accepts (.tl 0) ∧ ((teller .ready).pos 0).state ≠ .serving ∧ LengthAdmitted 18 false (2 + 0) ∧
      LengthAdmitted 18 false (2 + (lineBytes 2 1 2).length)) ∧
    ((voiding (deposit 1)).Accepts (.tl 0) ∧ ((voiding (deposit 1)).pos 0).state = .serving ∧
      (∀ r ∈ (voiding (deposit 1)).jnl.records, r.seq ≠ 65535) ∧
      ((voiding (deposit 1)).pos 0).txnStart = some 1 ∧ deposit 1 ∈ (voiding (deposit 1)).jnl.records ∧
      ((voiding (deposit 1)).jnl.records.map Record.seq).Nodup ∧ (deposit 1).seq < 65536) ∧
    (mayVoid (deposit 1) ∧ ¬mayVoid { deposit 1 with place := .position 1 } ∧ ¬mayVoid { deposit 1 with kind := .reversal } ∧
      ({ deposit 1 with claimed := some 3 } : Record).claimed ≠ none ∧ 0 < (lineBytes 2 1 3).length / 4 ∧
      (lineBytes 2 1 3).getD (4 * 0 + 3) 0 ≠ 1 ∧ (lineBytes 2 1 3).getD (4 * 0 + 3) 0 ≠ 2) ∧
    (readLines (lineBytes 2 1 2) = some [⟨2, 1, false⟩] ∧ (voiding (deposit 1)).cash.LinesMove false 100 [⟨2, 1, false⟩] ∧
      (voiding (deposit 1)).cash.effectFails ((voiding (deposit 1)).drawer 0) false 100 [⟨2, 1, false⟩] = none ∧
      (voiding (deposit 1)).cash.effectFails ((voiding (deposit 1)).drawer 1) false 100 [⟨2, 1, false⟩] = some .shortfall) ∧
    (¬(voiding (deposit 1)).cash.LinesMove false 100 [⟨2, 2, false⟩] ∧ readLines [] = some [] ∧
      (voiding (deposit 1)).day.itemization < 2001) ∧
    (mayVoid { deposit 1 with kind := .credit } ∧ ¬RecordKind.credit = .deposit ∧ ¬RecordKind.credit = .withdrawal) ∧
    ¬((filled 4032 coined).jnl.records.filter (fun r => r.kind.customer)).length < 4032 := by
  rw [filled_customers]
  have h : LengthAdmitted 18 false (2 + 0) ∧ LengthAdmitted 18 false (2 + (lineBytes 2 1 2).length) := by
    constructor
    · simp [LengthAdmitted]
    · simp [LengthAdmitted, lineBytes, be]; exact ⟨1, by decide, by decide⟩
  unfold State.Accepts Cash.LinesMove
  refine ⟨⟨by decide, by decide, h.1, h.2⟩, ?_⟩
  and_intros <;> decide
theorem witness_ReadCashReturnsTheFigures : coined.RecordsLaw ∧ coined.FacesLaw ∧ coined.cash.CountersInRange ∧
    coined.day.ParametersInRange ∧ coined.Accepts (.tl 0) ∧ coined.Accepts .sl ∧ 10 ≤ 10 ∧ 255 < 256 := by
  refine ⟨?_, ⟨by decide, ?_⟩, ?_⟩
  · unfold State.RecordsLaw CashRecord.Law; decide
  · intro i v h
    revert h; fin_cases i <;> intro h <;> first | (injection h with h; subst h; decide) | cases h
  · unfold Cash.CountersInRange Day.ParametersInRange State.Accepts; decide

/-! ### Witnesses: dual control -/

/-- Two READY positions, drawer 0 with a piece of 500. -/
def pair : State := till 0 0 0 0 1 (stand 1 .ready (teller .ready))
abbrev proposalSound (lines : List Line) (amount : Nat) (s : State) : Prop := lines ≠ [] ∧
  (∀ x ∈ lines, x.isIn = true ∧ (∃ h : x.slot < 12, s.cash.faces.get ⟨x.slot, h⟩ ≠ none) ∧ 1 ≤ x.count ∧ x.count ≤ 999) ∧
  (lines.map Line.slot).Nodup ∧ worth s.cash.faces (pieces true lines) = amount
abbrev covers (lines : List Line) (amount : Nat) (h : Holder) (s : State) : Prop :=
  (∀ i, (pieces true lines).get i ≤ (s.holding h).counts.get i) ∧ (amount : Int) ≤ (s.holding h).total
/-- 05 R87's table. -/
abbrev listed (l : Link) (src dst : Holder) (k : Link) : Prop :=
  (∃ n m : Fin 8, m ≠ n ∧ l = .tl n ∧ src = .drawer n ∧ dst = .drawer m ∧ k = .tl m) ∨
  (∃ n : Fin 8, l = .tl n ∧ src = .drawer n ∧ dst = .vault ∧ k = .sl) ∨
  (∃ n : Fin 8, l = .tl n ∧ src = .vault ∧ dst = .drawer n ∧ k = .sl) ∨
  (∃ n : Fin 8, l = .sl ∧ src = .drawer n ∧ dst = .vault ∧ k = .tl n) ∨
  (∃ n : Fin 8, l = .sl ∧ src = .vault ∧ dst = .drawer n ∧ k = .tl n)
def six (s : State) : State := hold ((List.range 6).map (fun i => transfer (i + 1))) s
theorem unlisted (l : Link) (src dst : Holder) (h : confirmingParty l src dst = none) : ∀ k, ¬listed l src dst k := by
  rintro k (⟨n, m, ne, rfl, rfl, rfl, -⟩ | ⟨n, rfl, rfl, rfl, -⟩ | ⟨n, rfl, rfl, rfl, -⟩ | ⟨n, rfl, rfl, rfl, -⟩ | ⟨n, rfl, rfl, rfl, -⟩) <;>
    simp_all [confirmingParty]
theorem witness_ProposeIsJudgedAndTaken :
    (pair.Accepts (.tl 0) ∧ pair.Accepts .sl ∧ 500 < 256 ^ 5 ∧ readLines (lineBytes 3 1 1) = some [⟨3, 1, true⟩] ∧
      (lineBytes 3 1 1).length = 4 * 1 ∧ pair.dct.cursor ≤ 255 ∧ (∀ e ∈ (six pair).dct.entries, 1 ≤ e.id ∧ e.id ≤ 255)) ∧
    (Holder.vault = .vault ∧ Holder.drawer 1 ≠ .drawer 0 ∧ (∀ k, ¬listed (.tl 0) (.drawer 1) (.drawer 0) k) ∧
      (∀ k, ¬listed .sl (.drawer 0) (.drawer 1) k) ∧ ∀ k, ¬listed (.tl 0) .vault (.drawer 1) k) ∧
    (∃ n m : Fin 8, m ≠ n ∧ Link.tl 0 = .tl n ∧ Holder.drawer 0 = .drawer n ∧ Holder.drawer 7 = .drawer m ∧ Link.tl 7 = .tl m) ∧
    (∃ n : Fin 8, Link.tl 0 = .tl n ∧ Holder.drawer 0 = .drawer n) ∧
    ¬((branch .closed).day.state = .opened ∨ (branch .closed).day.state = .cutoff) ∧
    (¬(1 ≤ 0 ∧ 0 ≤ 9999999999) ∧ ¬(1 ≤ 10000000000 ∧ 10000000000 ≤ 9999999999) ∧ 10000000000 < 256 ^ 5) ∧
    (((teller .away).pos 0).state ≠ .ready ∧ ((teller .ready).pos 1).state ≠ .ready) ∧
    (¬proposalSound [] 500 pair ∧ ¬proposalSound [⟨3, 1, true⟩] 499 pair ∧ ¬proposalSound [⟨3, 1, false⟩] 500 pair) ∧
    ((pair.pos 0).state = .ready ∧ (pair.pos 1).state = .ready ∧ proposalSound [⟨3, 2, true⟩] 1000 pair ∧
      ¬covers [⟨3, 2, true⟩] 1000 (.drawer 0) pair) ∧
    (proposalSound [⟨3, 1, true⟩] 500 pair ∧ covers [⟨3, 1, true⟩] 500 (.drawer 0) pair ∧ pair.dct.entries.length < 6 ∧
      6 ≤ (six pair).dct.entries.length) := by
  unfold State.Accepts
  and_intros <;> first | decide | exact unlisted _ _ _ rfl
/-- A transfer of drawer 0's piece to drawer 1 stands. -/
def moving : Entry := ⟨4, .tl 0, .tl 1, 500, 100, .transfer (.drawer 0) (.drawer 1) [⟨3, 1, true⟩]⟩
def offered : State := hold [moving] pair
theorem witness_ConfirmMovesATransfersPieces :
    (offered.Accepts (.tl 1) ∧ offered.Accepts (.tl 0) ∧ moving ∈ offered.dct.entries ∧ (offered.dct.entries.map Entry.id).Nodup ∧
      moving.id < 256 ∧ moving.proposal = .transfer (.drawer 0) (.drawer 1) [⟨3, 1, true⟩] ∧ Holder.drawer 0 ≠ .drawer 1 ∧
      Link.tl 0 ≠ moving.confirmer ∧ Link.tl 1 = moving.confirmer) ∧
    ((stand 0 .away offered).Accepts (.tl 1) ∧ ((stand 0 .away offered).pos 0).state ≠ .ready) ∧
    ((offered.pos 0).state = .ready ∧ (offered.pos 1).state = .ready ∧ ¬covers [⟨3, 1, true⟩] 500 (.drawer 0) (till 0 0 0 0 0 offered) ∧
      covers [⟨3, 1, true⟩] 500 (.drawer 0) offered) ∧
    (¬((till 1 0 0 0 65535 offered).holding (.drawer 1)).counts.get 3 + 1 ≤ 65535 ∧
      ((till 1 0 0 0 65534 offered).holding (.drawer 1)).counts.get 3 + 1 ≤ 65535 ∧
      ((till 1 0 0 0 65534 offered).holding (.drawer 1)).total + 500 ≤ 99999999999) := by
  unfold State.Accepts; and_intros <;> decide
/-- A deposit above the limit stands as an override of position 0. -/
def bigDeposit : Posting := ⟨.deposit, 50500, 0, false, [⟨3, 101, true⟩]⟩
def heldState (x : Posting) : State := hold [override 9 x] (teller .held)
theorem witness_ConfirmMakesOrFailsAnOverride :
    ((heldState bigDeposit).Accepts .sl ∧ (heldState bigDeposit).Accepts (.tl 0) ∧
      override 9 bigDeposit ∈ (heldState bigDeposit).dct.entries ∧ ((heldState bigDeposit).dct.entries.map Entry.id).Nodup ∧
      (override 9 bigDeposit).id < 256 ∧ (override 9 bigDeposit).proposal = .override 0 bigDeposit ∧
      Link.tl 0 ≠ (override 9 bigDeposit).confirmer ∧ Link.sl = (override 9 bigDeposit).confirmer) ∧
    bigDeposit.recheck 0 (heldState bigDeposit) (.ok ()) = .ok () ∧
    (withdrawal2000.recheck 0 (heldState withdrawal2000) (.ok ()) = .error .shortfall ∧
      override 9 withdrawal2000 ∈ (heldState withdrawal2000).dct.entries) ∧
    credit.recheck 0 (heldState credit) (.ok ()) = .ok () := by
  unfold State.Accepts; and_intros <;> decide
theorem witness_EntriesAreDeclinedWithdrawnOrExpire :
    (offered.alive = true ∧ (offered.dct.entries.map Entry.id).Nodup ∧ (∀ e ∈ offered.dct.entries, e.id ≠ 0) ∧
      (∀ e ∈ offered.dct.entries, e.id ≠ 255) ∧ 255 < 256 ∧ offered.Accepts (.tl 0) ∧ offered.Accepts (.tl 1)) ∧
    (moving ∈ offered.dct.entries ∧ moving.id = 4 ∧ Link.tl 1 = moving.confirmer ∧ Link.tl 0 = moving.proposer ∧
      Link.tl 0 ≠ moving.confirmer ∧ Link.tl 1 ≠ moving.proposer) ∧
    ((heldState credit).Accepts .sl ∧ (heldState credit).Accepts (.tl 0) ∧ override 9 credit ∈ (heldState credit).dct.entries ∧
      (override 9 credit).proposal = .override 0 credit ∧ (override 9 credit).confirmer = .sl ∧ (override 9 credit).proposer = .tl 0) := by
  unfold State.Accepts; and_intros <;> decide

/-! ### Witnesses: balancing, profiles, the journal's reading -/

theorem witness_BeginBalanceAndReopenMoveThePosition :
    ((teller .serving).Accepts (.tl 0) ∧ ((teller .serving).pos 0).state ≠ .ready ∧ ((teller .serving).pos 0).state ≠ .balanced) ∧
    (offered.Accepts (.tl 1) ∧ (offered.pos 1).state = .ready ∧ ∃ e ∈ offered.dct.entries, match e.proposal with
      | .transfer src dst _ => src = .drawer 1 ∨ dst = .drawer 1
      | .override m _ => m = 1) ∧
    (pair.Accepts (.tl 0) ∧ (pair.pos 0).state = .ready ∧ pair.dct.entries = []) ∧
    ((teller .balanced).Accepts (.tl 0) ∧ ((teller .balanced).pos 0).state = .balanced) := by
  unfold State.Accepts
  refine ⟨by decide, ⟨by decide, by decide, moving, by decide, Or.inr rfl⟩, by decide, by decide⟩
abbrev countSound (lines : List CountLine) (s : State) : Prop :=
  (∀ x ∈ lines, ∃ h : x.slot < 12, s.cash.faces.get ⟨x.slot, h⟩ ≠ none) ∧ (lines.map CountLine.slot).Nodup
abbrev counted' (lines : List CountLine) : Vec 12 Nat := Vec.tab fun i =>
  match lines.find? (fun x => x.slot == i.val) with | some x => x.count | none => 0
/-- Day over at its bound. -/
def overfull (s : State) : State := { s with cash := { s.cash with dayOver := 999999999999 } }
/-- Faces so great that a count leaves the range of a total. -/
def golden (s : State) : State := { s with cash := { s.cash with faces := (Vec.fill none).set 11 (some 10000000) } }
theorem witness_DeclareAppliesACountOrCountsAMiss :
    ((teller .ready).Accepts (.tl 0) ∧ ¬(((teller .ready).pos 0).state = .balancing ∨ ((teller .ready).pos 0).state = .outOfBalance)) ∧
    ((teller .balancing).Accepts (.tl 0) ∧ (teller .outOfBalance).Accepts (.tl 0) ∧
      (∀ x ∈ [(⟨255, 65535⟩ : CountLine)], x.slot < 256 ∧ x.count < 65536) ∧ ¬countSound [⟨4, 1⟩] (teller .balancing) ∧
      ¬countSound [⟨12, 1⟩] (teller .balancing) ∧ ¬countSound [⟨0, 1⟩, ⟨0, 1⟩] (teller .balancing)) ∧
    (countSound [⟨11, 65535⟩] (golden (teller .balancing)) ∧
      99999999999 < worth (golden (teller .balancing)).cash.faces (counted' [⟨11, 65535⟩])) ∧
    (countSound [⟨1, 5⟩] (overfull (teller .balancing)) ∧
      worth (overfull (teller .balancing)).cash.faces (counted' [⟨1, 5⟩]) - ((overfull (teller .balancing)).drawer 0).total = 50 ∧
      (50 : Int).natAbs ≤ (overfull (teller .balancing)).day.tolerance ∧ ¬(overfull (teller .balancing)).cash.dayOver + 50 ≤ 999999999999) ∧
    (countSound [] (teller .balancing) ∧ worth (teller .balancing).cash.faces (counted' []) = 0 ∧
      countSound [⟨1, 5⟩] (teller .balancing) ∧ (teller .balancing).cash.dayOver + 50 ≤ 999999999999) ∧
    (countSound [⟨1, 5⟩, ⟨0, 1⟩] (teller .balancing) ∧
      ¬(worth (teller .balancing).cash.faces (counted' [⟨1, 5⟩, ⟨0, 1⟩])).natAbs ≤ (teller .balancing).day.tolerance) := by
  unfold State.Accepts; and_intros <;> decide
/-- A position in FORCE-WAIT, its last declaration one piece of 500. -/
def waiting : State :=
  { teller .forceWait with bal := { Bal.cold with contexts := Bal.cold.contexts.set 0 ⟨3, some ((Vec.fill 0).set 3 1), some 500⟩ } }
theorem witness_ForceBalanceAppliesTheLastDeclaration : (waiting.Accepts .sl ∧ 8 ≤ 8 ∧ 255 < 256) ∧
    ((teller .balancing).Accepts .sl ∧ ((teller .balancing).pos 0).state ≠ .forceWait) ∧
    ((waiting.pos 0).state = .forceWait ∧ (waiting.context 0).declaration = some ((Vec.fill 0).set 3 1) ∧
      worth waiting.cash.faces ((Vec.fill 0).set 3 1) - (waiting.drawer 0).total = 500 ∧ waiting.cash.dayOver + 500 ≤ 999999999999) ∧
    (((overfull waiting).pos 0).state = .forceWait ∧ ¬(overfull waiting).cash.dayOver + 500 ≤ 999999999999) := by
  unfold State.Accepts; decide
theorem witness_VaultDeclareCountsTheVault :
    ((branch .sending).Accepts .sl ∧ ¬((branch .sending).day.state = .opened ∨ (branch .sending).day.state = .cutoff)) ∧
    ((branch .cutoff).Accepts .sl ∧ (∀ x ∈ [(⟨12, 16777215⟩ : CountLine)], x.slot < 256 ∧ x.count ≤ 16777215) ∧
      ¬countSound [⟨12, 16777215⟩] (branch .cutoff)) ∧
    (countSound [⟨11, 16777215⟩] (golden (branch .cutoff)) ∧
      ¬worth (golden (branch .cutoff)).cash.faces (counted' [⟨11, 16777215⟩]) ≤ 99999999999) ∧
    (countSound [⟨0, 1⟩] (overfull (branch .opened)) ∧ ¬(overfull (branch .opened)).cash.dayOver + 5 ≤ 999999999999) ∧
    (countSound [⟨3, 16777215⟩] (branch .opened) ∧ worth (branch .opened).cash.faces (counted' [⟨3, 16777215⟩]) ≤ 99999999999) := by
  unfold State.Accepts; and_intros <;> decide
theorem witness_ReadProfileReturnsTheProfile : (branch .opened).Accepts .sl ∧ 8 ≤ 8 ∧ 255 < 256 ∧
    (let f : Profile := ⟨65535, 999999 * 65535, 0, 999999, 65535, 999999999999, 999999999999, 9999999999, 65535, 999999999999, 999999999999⟩
     f.transactions ≤ 65535 ∧ f.serviceSum ≤ 99999999999 ∧ f.serviceMin ≤ f.serviceMax ∧ f.serviceMax ≤ 999999 ∧
     f.serviceSum ≤ f.serviceMax * f.transactions) ∧
    ((branch .opened).profile 0).transactions = 0 ∧ ((branch .opened).profile 0).serviceSum = 0 := by
  unfold State.Accepts; refine ⟨by decide, by decide, by decide, ?_, by decide, by decide⟩; intro f; decide
theorem witness_ReadJournalReturnsFiveRecords :
    let s := file (deposits 6) (branch .opened)
    (s.alive = true ∧ (s.link .sl).inWork = false ∧ s.jnl.records.map Record.seq = List.range' 1 s.jnl.records.length ∧
      s.jnl.next = s.jnl.records.length + 1 ∧ s.jnl.records.length ≤ 4096 ∧ s.jnl.unjournaled ≤ 65535 ∧ s.jnl.carry.length ≤ 512) ∧
    (¬(1 ≤ 0 ∧ 0 ≤ 4096) ∧ ¬(1 ≤ 4097 ∧ 4097 ≤ 4096) ∧ 1 ≤ 4096 ∧ 4096 < 65536) ∧
    s.jnl.records[1 - 1 + 4]? = some (deposit 5) ∧ (deposit 5).time ≤ 86399 := by intro s; and_intros <;> decide

/-! ### Witnesses: printers -/

/-- A job of position 0 waiting, its line `l` of page `g`. -/
def lined (g l : Nat) (s : State) : State :=
  { s with pbu := { s.pbu with queue := [{ work l with page := g, printer := none, geometry := none }] } }
/-- Printer `p` held by a job of position 5, and printer sharing off. -/
def taken (p : Fin 2) (s : State) : State :=
  print p (fun r => { r with state := .waitBook, job := some { work 1 with position := 5, printer := some p } }) s
def alone (s : State) : State := { s with settings := { s.settings with sharing := false } }
abbrev isFree (s : State) (p : Fin 2) : Prop := (s.printer p).state = .idle ∧ (s.printer p).book = false
theorem witness_WaitingJobsAreTakenOldestFirst :
    (((lined 8 24 (branch .opened)).pbu.queue.map Job.position).Nodup ∧ isFree (lined 8 24 (branch .opened)) 0 ∧
      (lined 8 24 (branch .opened)).settings.home.get 0 = 0 ∧
      (lined 8 24 (branch .opened)).pbu.queue = [] ++ { work 24 with page := 8, printer := none, geometry := none } :: []) ∧
    (isFree (taken 0 (lined 8 1 (branch .opened))) 1 ∧ ¬isFree (taken 0 (lined 8 1 (branch .opened))) 0 ∧
      (taken 0 (lined 8 1 (branch .opened))).settings.sharing = true) ∧
    (24 < (work 25).line ∧ 8 < 8 + 1 ∧ isFree (lined 8 25 (branch .opened)) 0) := by decide
abbrev printInRange (account page line : Nat) (balance : Int) (g : Settings) : Prop :=
  (1 ≤ account ∧ account ≤ 999999999999) ∧ (1 ≤ page ∧ page ≤ g.pagesPerBook) ∧ (1 ≤ line ∧ line ≤ g.linesPerPage) ∧
  -99999999999 ≤ balance ∧ balance ≤ 99999999999
abbrev eligible (account : Nat) (s : State) : Nat :=
  (s.jnl.carry.filter (fun i => i.account == account && i.heldBy == none)).length +
    (s.jnl.records.filter (fun r => r.pending && r.claimed == none && r.account == some account)).length
theorem witness_PrintBookGathersAndQueuesAJob :
    ((stand 2 .held printBranch).Accepts (.tl 2) ∧
      ¬(((stand 2 .held printBranch).pos 2).state = .ready ∨ ((stand 2 .held printBranch).pos 2).state = .serving)) ∧
    ((printState (fun r => { r with state := .striking })).Accepts (.tl 2) ∧
      ∃ p j, ((printState (fun r => { r with state := .striking })).printer p).job = some j ∧ j.position = 2) ∧
    (printBranch.Accepts (.tl 2) ∧ (printBranch.pos 2).state = .serving ∧ printBranch.pbu.queue = [] ∧
      ¬printInRange 0 1 1 0 printBranch.settings ∧ ¬printInRange 1 9 1 0 printBranch.settings ∧
      ¬printInRange 1 1 25 0 printBranch.settings ∧ ¬printInRange 1 1 1 100000000000 printBranch.settings ∧
      (100000000000 : Int) < 549755813888 ∧ 0 < 256 ^ 5) ∧
    (printInRange 999999999999 8 24 (-99999999999) printBranch.settings ∧ eligible 999999999999 printBranch = 0) ∧
    (printInRange 520000000077 3 24 1250000 printBranch.settings ∧ eligible 520000000077 printBranch = 3 ∧
      printBranch.settings.home.get 2 = 0 ∧ isFree printBranch 0) ∧
    (¬isFree (taken 0 printBranch) 0 ∧ (taken 0 printBranch).settings.sharing = true ∧ isFree (taken 0 printBranch) 1) ∧
    (¬isFree (alone (taken 0 printBranch)) 0 ∧ (alone (taken 0 printBranch)).settings.sharing = false) := by
  unfold State.Accepts
  refine ⟨by decide, ⟨by decide, 0, printJob, by decide, by decide⟩, ?_⟩
  and_intros <;> decide
/-- Printer 0 out of service, or in FAULT, its book present or not. -/
def offline : State := print 0 (fun r => { r with state := .offline, online := false }) (teller .ready)
def broken (b : Bool) : State := print 0 (fun r => { r with state := .fault, fault := some .jam, book := b, input := b }) (teller .ready)
theorem witness_CancelPrintAndPrinterService :
    ((teller .ready).Accepts (.tl 0) ∧ (teller .ready).Accepts .sl ∧ (teller .ready).pbu.jobPositions.Nodup ∧
      (teller .ready).pbu.queue = [] ∧ (∀ q j, ((teller .ready).printer q).job = some j → j.position ≠ 0)) ∧
    ((lined 1 1 (teller .ready)).Accepts (.tl 0) ∧ (lined 1 1 (teller .ready)).pbu.jobPositions.Nodup ∧
      ∃ j ∈ (lined 1 1 (teller .ready)).pbu.queue, j.position = 0) ∧
    ((printing .striking id).Accepts (.tl 0) ∧ (printing .striking id).Accepts .sl ∧ (printing .striking id).pbu.jobPositions.Nodup ∧
      ((printing .striking id).printer 0).job = some (work 24) ∧ (work 24).position = 0 ∧ ((printing .striking id).printer 0).online = true ∧
      (printing .striking id).pbu.queue = []) ∧
    (((printing .waitBook (fun r => { r with book := false })).printer 0).state ∈ [.waitBook, .pageTurn] ∧
      (printing .waitBook (fun r => { r with book := false })).QueueStays 0) ∧
    (2 ≤ (2 : Byte).toNat ∧ 2 ≤ (255 : Byte).toNat) ∧
    (offline.Accepts .sl ∧ (offline.printer 0).online = false ∧ (offline.printer 0).state = .offline ∧ (offline.printer 0).book = false ∧
      offline.QueueStays 0) ∧
    (((teller .ready).printer 0).online = true ∧ ((teller .ready).printer 0).job = none ∧ ((teller .ready).printer 0).state ≠ .offline ∧
      ((teller .ready).printer 0).state ≠ .fault) ∧
    ((broken true).Accepts .sl ∧ ((broken true).printer 0).state = .fault ∧ ((broken true).printer 0).book = true) ∧
    ((broken false).Accepts .sl ∧ ((broken false).printer 0).state = .fault ∧ ((broken false).printer 0).book = false ∧
      (broken false).QueueStays 0) := by
  unfold State.Accepts State.QueueStays
  refine ⟨⟨by decide, by decide, by decide, by decide, ?_⟩, ?_⟩
  · intro q j h; revert h; fin_cases q <;> intro h <;> cases h
  · and_intros <;> decide
theorem witness_InsertionAndRemovalMoveThePrinter :
    (State.reset.alive = true ∧ (State.reset.printer 0).book = false ∧ (State.reset.printer 0).state ≠ .waitBook ∧
      (State.reset.printer 0).state ≠ .pageTurn) ∧
    (((printing .waitBook (fun r => { r with book := false })).printer 0).book = false ∧
      ((printing .waitBook (fun r => { r with book := false })).printer 0).state = .waitBook ∧
      ((printing .pageTurn (fun r => { r with book := false })).printer 0).state = .pageTurn) ∧
    (((print 0 (fun r => { r with book := true }) State.reset).printer 0).book = true ∧
      ((print 0 (fun r => { r with book := true }) State.reset).printer 0).state = .idle ∧
      (print 0 (fun r => { r with book := true }) State.reset).QueueStays 0) ∧
    (((printing .confirming id).printer 0).book = true ∧ ((printing .confirming id).printer 0).state = .confirming) ∧
    (((printing .feeding id).printer 0).state ∈ [.aligning, .striking, .feeding] ∧
      ((printing .feeding id).printer 0).job = some (work 24) ∧ (printing .feeding id).QueueStays 0) ∧
    (((printing .ejecting (fun r => { r with job := none })).printer 0).state ∈ [.ejecting, .waitRemoval] ∧
      ((printing .ejecting (fun r => { r with job := none })).printer 0).job = none) ∧
    (((printing .waitRemoval (fun r => { r with stage := some .final })).printer 0).stage = some .final ∧
      ((printing .waitRemoval (fun r => { r with stage := some .final })).printer 0).job = some (work 24)) ∧
    (((printing .waitRemoval (fun r => { r with stage := some .pageEnd })).printer 0).stage ≠ some .final ∧
      (work 24).geometry = some ⟨24, 8, 12, 36⟩ ∧ (work 24).page ≤ 8 ∧ 8 < ({ work 24 with page := 9 } : Job).page ∧
      ((printing .waitRemoval (fun r => { r with job := some { work 24 with page := 9 } })).printer 0).stage ≠ some .final) ∧
    (((broken true).printer 0).book = true ∧ ((broken true).printer 0).state ∈ [.waitBook, .pageTurn, .fault, .offline]) := by
  unfold State.QueueStays; and_intros <;> decide
theorem witness_PrinterTimesEnd :
    (State.reset.alive = true ∧ (State.reset.printer 0).state ≠ .waitBook ∧ (State.reset.printer 0).state ≠ .pageTurn ∧
      (State.reset.printer 0).state ≠ .confirming ∧ (State.reset.printer 0).state ≠ .striking ∧
      ¬((State.reset.printer 0).target ≠ none ∧ (State.reset.printer 0).state ∈ [.aligning, .feeding, .ejecting]) ∧
      ¬((State.reset.printer 0).state = .waitRemoval ∧ (State.reset.printer 0).book = true ∧ (State.reset.printer 0).timer ≠ none)) ∧
    ((printing .waitBook (fun r => { r with book := false })).alive = true ∧
      ((printing .waitBook (fun r => { r with book := false })).printer 0).job = some (work 24) ∧
      (printing .waitBook (fun r => { r with book := false })).QueueStays 0 ∧
      ((printing .pageTurn (fun r => { r with book := false })).printer 0).state = .pageTurn) ∧
    (((printing .confirming id).printer 0).state = .confirming ∧ (work 24).geometry = some ⟨24, 8, 12, 36⟩ ∧
      36 + ((work 24).line - 1) * 12 ≠ 0 ∧ 0 + (({ work 1 with geometry := some ⟨24, 8, 12, 0⟩ } : Job).line - 1) * 12 = 0 ∧
      ((printing .confirming id).nextItem (work 1)).isSome = true) ∧
    (((printing .ejecting (fun r => { r with target := some 0, job := none })).printer 0).target ≠ none ∧
      ((printing .ejecting (fun r => { r with target := some 0, job := none })).printer 0).job = none ∧
      ((printing .feeding (fun r => { r with target := some 48 })).printer 0).target ≠ none) ∧
    (((printing .striking id).printer 0).state = .striking ∧ ((printing .striking id).printer 0).job = some (work 24)) ∧
    (((printing .waitRemoval (fun r => { r with timer := some 1 })).printer 0).state = .waitRemoval ∧
      ((printing .waitRemoval (fun r => { r with timer := some 1 })).printer 0).book = true ∧
      ((printing .waitRemoval (fun r => { r with timer := some 1 })).printer 0).timer ≠ none) := by
  unfold State.QueueStays; and_intros <;> decide
/-- A feed of printer 0 from count `c` toward `t`. -/
def feed (q : PrinterState) (c far t : Int) (d : Direction) (j : Option Job) (g : Option Stage) : State :=
  printing q (fun r => { r with count := c, furthest := some far, target := some t, direction := some d, job := j, stage := g })
theorem witness_EncoderStepsCountAndEndFeeds :
    (State.reset.alive = true ∧ (State.reset.printer 0).book = false ∧ (State.reset.printer 0).state ≠ .fault) ∧
    (((broken false).printer 0).state = .fault ∧ ((broken false).printer 0).target = none) ∧
    ((feed .feeding 46 46 48 .forward (some (work 1)) none).alive = true ∧
      ((feed .feeding 46 46 48 .forward (some (work 1)) none).printer 0).target = some 48 ∧
      ((feed .feeding 46 46 48 .forward (some (work 1)) none).printer 0).furthest = some 46 ∧ (47 : Int) ≠ 48 ∧ max 46 47 - 47 < (3 : Int)) ∧
    ((43 : Int) ≠ 48 ∧ (3 : Int) ≤ max 46 43 - 43 ∧ ((feed .feeding 44 46 48 .forward (some (work 1)) none).printer 0).count - 1 = 43 ∧
      ((feed .ejecting 2 0 0 .reverse none none).printer 0).job = none ∧ (3 : Int) ≤ 3 - min 0 3) ∧
    (((feed .feeding 47 47 48 .forward (some (work 1)) none).printer 0).count + 1 = 48 ∧
      ((feed .feeding 47 47 48 .forward (some (work 1)) none).nextItem (work 1)).isSome = true) ∧
    (((feed .ejecting 1 1 0 .reverse none none).printer 0).count - 1 = 0 ∧
      ((feed .ejecting 1 1 0 .reverse none none).printer 0).state = .ejecting) ∧
    (((feed .ejecting 1 1 0 .reverse (some (work 1)) (some .final)).printer 0).stage = some .final ∧
      ((feed .ejecting 1 1 0 .reverse (some (work 1)) (some .pageEnd)).printer 0).stage ≠ some .final ∧ (work 1).page ≤ 8 ∧
      8 < ({ work 1 with page := 9 } : Job).page) := by and_intros <;> decide
theorem witness_StrikeDonePrintsTheItem : (State.reset.alive = true ∧ (State.reset.printer 0).state ≠ .striking) ∧
    ((printing .striking id).alive = true ∧ ((printing .striking id).printer 0).state = .striking ∧
      ((printing .striking id).printer 0).job = some (work 24) ∧ (work 24).geometry = some ⟨24, 8, 12, 36⟩ ∧
      ((printing .striking id).nextItem (work 24)).isSome = true ∧ 1 ≤ (work 24).line) ∧
    (({ work 24 with next := 2 } : Job).items.length ≤ 2 ∧ (work 24).next < (work 24).items.length ∧ 24 ≤ (work 24).line ∧
      ¬24 ≤ (work 23).line) ∧
    (({ work 24 with page := 7 } : Job).page + 1 ≤ 8 ∧ 8 < ({ work 24 with page := 8 } : Job).page + 1) ∧
    (((printing .striking id).printer 0).count = 0 ∧ ((printing .striking (fun r => { r with count := 312 })).printer 0).count ≠ 0 ∧
      ((printing .striking (fun r => { r with count := 312 })).printer 0).count = (36 + (work 23).line * 12 : Nat)) := by
  and_intros <;> decide

/-! ### Witnesses: displays -/

theorem witness_ShowAndTheEndOfATextsHold : (State.reset.Accepts (.tl 0) ∧ State.reset.alive = true) ∧
    (¬(1 ≤ 0 ∧ 0 ≤ 60) ∧ ¬(1 ≤ 61 ∧ 61 ≤ 60) ∧ (1 ≤ 1 ∧ 60 ≤ 60)) ∧
    (([] : Bytes).length ≤ 16 ∧ (List.replicate 16 (0x41 : Byte)).length ≤ 16) := by unfold State.Accepts; decide
/-- A window with a text and an amount. -/
def shown (s : State) : State :=
  { s with windows := s.windows.modify 0 (fun w => { w with text := some ⟨[0x41], 5⟩, amount := some 9999999999 }) }
theorem witness_DisplaysShowTheFirstLayer :
    (State.reset.alive = true ∧ State.reset.day.state = .closed ∧ State.reset.pbu.overlay 0 = none) ∧
    ((branch .opened).alive = true ∧ ((branch .opened).settle.pos 0).state = .closed ∧ (branch .opened).day.state ≠ .closed) ∧
    ((teller .away).settle.pos 0).state = .away ∧
    ((printing .waitBook id).alive = true ∧ ((printing .waitBook id).pbu.overlay 0).isSome = true) ∧
    ((shown (teller .serving)).alive = true ∧ (shown (teller .serving)).pbu.overlay 0 = none ∧
      ((shown (teller .serving)).settle.pos 0).state = .serving ∧ ((shown (teller .serving)).settle.window 0).text = some ⟨[0x41], 5⟩ ∧
      ((shown (teller .serving)).settle.window 0).amount = some 9999999999) ∧
    (((teller .serving).settle.window 0).text = none ∧ ((teller .serving).settle.window 0).amount = none) := by
  and_intros <;> decide

/-! ### Witnesses: the uplink -/

theorem witness_FrameBitsAreTheMessage : Instr.pingReply.wellFormed = true ∧ (Instr.dayOpen opening).wellFormed = true ∧
    (Instr.blockAck 65535).wellFormed = true ∧ (Instr.blockNak 0).wellFormed = true ∧
    (Instr.dayAccepted ⟨65535, 256 ^ 6 - 1, 0, 256 ^ 5 - 1⟩).wellFormed = true ∧ (Instr.dayRejected 255).wellFormed = true ∧
    State.reset.alive = true ∧ (Instr.uplinkFrameDiscarded [true]).wellFormed = true := by decide
/-- A day SENDING with `k` unsent records, the link DOWN or UP. -/
def sendingDay (k : Nat) (up : Bool) : State := uplink (fun u => { u with up := up }) (file (deposits k) (branch .sending))
theorem witness_PingReplyBringsTheLinkUp :
    ((sendingDay 0 true).alive = true ∧ (sendingDay 0 true).ulc.up = true) ∧
    ((branch .opened).alive = true ∧ (branch .opened).ulc.up = false ∧ (branch .opened).day.state ≠ .sending) ∧
    ((sendingDay 17 false).alive = true ∧ (sendingDay 17 false).ulc.up = false ∧ (sendingDay 17 false).day.state = .sending ∧
      ((sendingDay 17 false).jnl.records.map Record.seq).Nodup ∧ (sendingDay 17 false).ulc.buffers = Vec.fill none ∧
      (sendingDay 17 false).ulc.verdict = none) := by and_intros <;> decide
/-- Block 1 of records outstanding in buffer A, buffer B as given. -/
def blocked (b : Option Block) : State :=
  uplink (fun u => { u with buffers := ⟨[some ⟨1, .records [1, 2], false, 4, some 1⟩, b], rfl⟩ }) (sendingDay 2 true)
def summaryOut : State :=
  uplink (fun u => { u with buffers := ⟨[some ⟨65535, .summary (branch .sending).summary, false, 255, some 1⟩, none], rfl⟩ }) (sendingDay 0 true)
theorem witness_BlockAckMarksAndFillsOrHolds :
    ((sendingDay 2 true).alive = true ∧ (sendingDay 2 true).ulc.up = true ∧ (sendingDay 2 true).ulc.buffers = Vec.fill none) ∧
    ((blocked none).alive = true ∧ (blocked none).ulc.up = true ∧
      (blocked none).ulc.buffers.get 0 = some ⟨1, .records [1, 2], false, 4, some 1⟩ ∧ (blocked none).ulc.buffers.get 1 = none ∧
      (blocked none).day.state = .sending ∧ (blocked none).ulc.verdict = none ∧ ((blocked none).jnl.records.map Record.seq).Nodup) ∧
    ((blocked (some ⟨2, .records [3], false, 0, none⟩)).ulc.buffers.get 1 = some ⟨2, .records [3], false, 0, none⟩ ∧ 2 ≠ 1) ∧
    (summaryOut.alive = true ∧ summaryOut.ulc.up = true ∧
      summaryOut.ulc.buffers.get 0 = some ⟨65535, .summary (branch .sending).summary, false, 255, some 1⟩ ∧
      summaryOut.ulc.buffers.get 1 = none) := by and_intros <;> decide
theorem witness_RetriesAreDecidedByTheLimit :
    ((sendingDay 2 true).alive = true ∧ (sendingDay 2 true).ulc.up = true ∧ (sendingDay 2 true).ulc.buffers = Vec.fill none ∧
      (sendingDay 2 true).ulc.verdict = none) ∧
    ((blocked none).ulc.up = true ∧ (blocked none).ulc.buffers.get 0 = some ⟨1, .records [1, 2], false, 4, some 1⟩ ∧
      (blocked none).ulc.buffers.get 1 = none ∧ 4 < (blocked none).settings.blockRetryLimit) ∧
    (summaryOut.ulc.buffers.get 0 = some ⟨65535, .summary (branch .sending).summary, false, 255, some 1⟩ ∧
      ¬255 < summaryOut.settings.blockRetryLimit) ∧
    ((verdictState []).alive = true ∧ (verdictState []).ulc.verdict ≠ none ∧ ((verdictState []).ulc.buffers.get 0).map Block.held = some true ∧
      (verdictState []).ulc.buffers.get 1 = none) := by and_intros <;> decide
/-- The uplink sending frame `f` of block 1, its buffer as it is. -/
def onLine (f : UpFrame) (s : State) : State := uplink (fun u => { u with sending := some f }) s
theorem witness_FramesSentAndPingRounds :
    (State.reset.ulc.sending ≠ none ∧ (∀ g ∈ State.reset.ulc.waiting, g.purpose ≠ 1) ∧ (blocked none).alive = true ∧
      State.reset.alive = true ∧ dark.alive = false ∧ (uplink (fun u => { u with sending := none }) State.reset).ulc.waiting = [] ∧
      (UpFrame.ping .opened none).octets.length ≤ 468 ∧ (UpFrame.summary 0 65535 (branch .sending).summary).octets.length = 468 ∧
      (uplink (fun u => { u with waiting := [.ping .closed none, .block 0 1 []] }) State.reset).ulc.waiting =
        [] ++ .ping .closed none :: [.block 0 1 []] ∧
      (∀ x ∈ ([] : List UpFrame) ++ [.block 0 1 []], x.purpose ≠ 0)) ∧
    (State.reset.alive = true ∧ State.reset.ulc.sending = some (.ping .closed none) ∧ State.reset.ulc.round = some ⟨1, 3, none⟩ ∧
      ¬∃ g ∈ State.reset.ulc.waiting, g.purpose = 0) ∧
    ((uplink (fun u => { u with sending := none, round := none }) State.reset).ulc.sending = none ∧
      (uplink (fun u => { u with sending := none, round := none }) State.reset).ulc.round = none) ∧
    ((uplink (fun u => { u with waiting := [.ping .closed none] }) State.reset).alive = true ∧
      ∃ g ∈ (uplink (fun u => { u with waiting := [.ping .closed none] }) State.reset).ulc.waiting, g.purpose = 0) ∧
    ((onLine (.dayOpenReply .accepted .opened none) State.reset).ulc.sending = some (.dayOpenReply .accepted .opened none)) ∧
    ((onLine (.block 0 1 (deposits 2)) (blocked none)).alive = true ∧
      (onLine (.block 0 1 (deposits 2)) (blocked none)).ulc.buffers.get 0 = some ⟨1, .records [1, 2], false, 4, some 1⟩ ∧
      ¬∃ g ∈ (onLine (.block 0 1 (deposits 2)) (blocked none)).ulc.waiting, g.purpose = 2 + 0) ∧
    ((onLine (.block 0 2 []) (blocked none)).ulc.sending = some (.block 0 2 []) ∧ 1 ≠ 2 ∧
      (onLine (.block 1 2 []) (blocked none)).ulc.buffers.get 1 = none) ∧
    ((uplink (fun u => { u with round := some ⟨2, 3, some 0⟩ }) State.reset).ulc.round = some ⟨2, 3, some 0⟩ ∧ 2 < 3 ∧
      (uplink (fun u => { u with round := some ⟨3, 3, some 0⟩ }) (sendingDay 0 true)).ulc.round = some ⟨3, 3, some 0⟩ ∧ 3 ≤ 3 ∧
      (sendingDay 0 true).ulc.up = true ∧ State.reset.ulc.up = false) := by and_intros <;> decide +kernel

/-! ### Witnesses: supply, resets, STATUS on SL, invariants -/

def latchClear (s : State) : State := { s with day := { s.day with intact := false } }
theorem witness_SupplyAndResetLine : (held.supply.mainPower = true ∧ State.reset.supply.mainPower = true) ∧ dark.supply.mainPower = false ∧
    ((latchClear dark).day.intact = false ∧ (latchClear dark).supply.resetLine = false) ∧
    ((latchClear held).day.intact = false ∧ (latchClear held).supply.resetLine = true) := by decide
/-- A part with a RESTART's reset pending. -/
def restarting : State := { teller .serving with supply := ⟨true, false, true⟩ }
/-- A part without main power, its reset line asserted. -/
def darkHeld : State := { teller .serving with supply := ⟨false, true, false⟩ }
/-- A RESTART's own reply on its last byte. -/
def ending : State := wire .sl (fun r => { r with inWork := true, transmit := [⟨8, 1, .ok, false, [], true⟩] }) restarting
theorem witness_ResetsKeepTheRetainedStore : held.supply.mainPower = true ∧
    (restarting.alive = true ∧ restarting.supply.restartPending = true) ∧
    (State.reset.alive = true ∧ State.reset.supply.restartPending = false) ∧
    (ending.alive = true ∧ ending.supply.restartPending = true ∧
      (ending.link .sl).transmit = ⟨8, 1, .ok, false, [], true⟩ :: [] ∧ (⟨8, 1, .ok, false, [], true⟩ : Reply).own = true) ∧
    (dark.day.intact = true ∧ dark.supply.resetLine = false) ∧
    (darkHeld.day.intact = true ∧ darkHeld.supply.resetLine = true) := by decide
/-- A rejected day, and a day with an override awaiting SL. -/
def refusedDay : State := { branch .rejected with day := { (branch .rejected).day with rejection := .code 255 } }
theorem witness_SupervisorStatusReturnsTheRecord :
    (refusedDay.Accepts .sl ∧ refusedDay.ClockLaw ∧ refusedDay.day.ParametersInRange ∧ refusedDay.jnl.records.length ≤ 4096 ∧
      refusedDay.jnl.unjournaled ≤ 65535 ∧ refusedDay.dct.entries.length ≤ 6 ∧ refusedDay.day.rejection = .code 255 ∧
      refusedDay.day.date = some ⟨17, 3, 25⟩) ∧
    ((heldState credit).Accepts .sl ∧ (heldState credit).ClockLaw ∧ (heldState credit).day.ParametersInRange ∧
      ((heldState credit).dct.entries.filter (fun e => e.confirmer == .sl))[0]? = some (override 9 credit) ∧ (override 9 credit).id < 256) ∧
    State.reset.day.date = none := by
  unfold State.Accepts State.ClockLaw Day.ParametersInRange; and_intros <;> decide

/-- The state after reset with a tick at the front of its queue. -/
def ticking : State := { State.reset with pending := [.oneHzTick] }
theorem witness_PlainLawsAreKept :
    (ticking.ClockLaw ∧ ticking.settings.InRange ∧ ticking.LinkLaw ∧ ticking.NoticeLaw ∧ ticking.LockLaw) ∧ ∃ t, step ticking = .next t := by
  refine ⟨⟨?_, ?_, ?_, ?_, ?_⟩, _, rfl⟩
  · unfold State.ClockLaw; decide
  · unfold Settings.InRange; decide
  · intro l; cases l with
    | tl n => revert n; unfold LinkRec.Law; decide
    | sl => unfold LinkRec.Law; decide
  · intro l k; cases l with
    | tl n => revert n; cases k <;> decide
    | sl => cases k <;> decide
  · unfold State.LockLaw; decide
/-- Every law of the ticking state, one by one. -/
theorem witness_EveryStepKeepsASoundState : ticking.Sound ∧ ∃ t, step ticking = .next t := by
  have ⟨⟨clock, settings, link, notice, lock⟩, next⟩ := witness_PlainLawsAreKept
  refine ⟨⟨clock, settings, ?_, ?_, ?_, lock, ?_, ?_, link, fun h => (nomatch h), notice, ?_, ?_, ?_, ?_, ?_, ?_, ?_, ?_, ?_⟩, next⟩
  · unfold Day.ParametersInRange; decide
  · refine ⟨by decide, ?_, ?_⟩
    · intro n; revert n; decide
    · have none' : ∀ n, (ticking.pos n).teller = none := by decide
      intro n m _ h; exact absurd (none' n) h
  · intro n; revert n; decide
  · intro n
    have h : (ticking.pos n) = Position.cold .shut := by revert n; decide
    rw [h]; exact ⟨fun _ h => (nomatch h), fun _ h => (nomatch h)⟩
  · intro n
    have h : (ticking.pos n) = Position.cold .shut := by revert n; decide
    rw [h]
    refine ⟨⟨fun _ h => (nomatch h), by decide⟩, by revert n; decide⟩
  · refine ⟨⟨by decide, ?_⟩, ?_, ?_, ?_, ?_⟩
    · have absent : ∀ i, ticking.cash.faces.get i = none := by decide
      intro i v h; rw [absent i] at h; cases h
    · unfold State.RecordsLaw CashRecord.Law; decide
    · unfold State.EmptyLaw; decide
    · unfold Cash.CountersInRange; decide
    · unfold Cash.Conserved; decide
  · refine ⟨by decide, by decide, fun e h => (nomatch h), by decide, by decide⟩
  · intro n
    have h : (ticking.pos n).state = .closed := by revert n; decide
    rw [h]
    exact ⟨by revert n; decide, trivial⟩
  · intro n; revert n; unfold Profile.Law; decide
  · refine ⟨rfl, rfl, by decide, by decide, fun _ => rfl, fun _ r h => (nomatch h), fun r h => (nomatch h), by decide, by decide⟩
  · refine ⟨?_, by decide⟩; unfold Printer.Law; decide
  · refine ⟨fun _ => ⟨rfl, rfl, rfl⟩, ?_, by decide, by decide, by decide, by decide⟩
    have free : ∀ b, ticking.ulc.buffers.get b = none := by decide
    intro b k h; rw [free b] at h; cases h
  · intro _; decide
  · intro _; decide

end Sys2Proof.Tests
end

section
/-! PROOF. Station lines and requests (01): what one step runs, how a receiver takes bytes, and what composing the
displays depends on. -/

namespace Sys2Proof.Machine

/-! ### One step -/

theorem step_cons {c : Instr} {rest : List Instr} {s : State} (h : s.pending = c :: rest) :
    step s = exec c { s with pending := rest } := by
  simp only [step, h]

theorem step_nil {s : State} (h : s.pending = []) : step s = .next s.tick := by
  simp only [step, h]

/-! ### Bytes on a station line (01 R3, R4) -/

@[simp] theorem State.onLink_onLink (s : State) (l : Link) (f g : LinkRec → LinkRec) :
    (s.onLink l f).onLink l g = s.onLink l (fun r => g (f r)) := by
  simp [State.onLink, Vec.modify]

theorem State.onLink_eq_set (s : State) (l : Link) (f : LinkRec → LinkRec) :
    s.onLink l f = { s with links := s.links.set l.idx (f (s.link l)) } := rfl

@[simp] theorem State.alive_onLink (s : State) (l : Link) (f : LinkRec → LinkRec) : (s.onLink l f).alive = s.alive := rfl

@[simp] theorem State.pos_onLink (s : State) (l : Link) (f : LinkRec → LinkRec) (n : Fin 8) : (s.onLink l f).pos n = s.pos n :=
  rfl

theorem onLink_unchanged {s : State} {l : Link} {f : LinkRec → LinkRec} (h : f (s.link l) = s.link l) : s.onLink l f = s := by
  rw [State.onLink_eq_set, h]
  simp [State.link]

theorem LinkRec.byte_hunt {r : LinkRec} {b : Byte} (h : r.receiver = .hunt) :
    r.byte b = if b = 0xA5 then { r with receiver := .receiving, frame := [], quiet := some 2 } else r.abandon := by
  simp only [LinkRec.byte, h]
  rfl

theorem LinkRec.byte_receiving {r : LinkRec} {b : Byte} (h : r.receiver = .receiving) :
    r.byte b =
      if r.frame = [] ∧ 250 < b.toNat then r.abandon else { r with frame := r.frame ++ [b], quiet := some 2 } := by
  simp [LinkRec.byte, h, Config.quietTime]

theorem LinkRec.byte_skipping {r : LinkRec} {b : Byte} (h : r.receiver = .skipping) :
    r.byte b = { r with quiet := some 2 } := by
  simp [LinkRec.byte, h, Config.quietTime]

/-- A frame is complete when its length byte counts the bytes after kind and tag and before the check. -/
theorem frameComplete_iff (f : Bytes) :
    frameComplete f = true ↔ ∃ len rest, f = len :: rest ∧ rest.length = len.toNat + 4 := by
  cases f with
  | nil => simp [frameComplete]
  | cons len rest => simp [frameComplete]

/-- A byte that does not complete a frame changes its link's receiver alone. -/
theorem receiveByte_incomplete {l : Link} {b : Byte} {s : State}
    (h : (s.link l).receiver = .receiving → ((s.link l).byte b).receiver = .receiving →
      frameComplete ((s.link l).byte b).frame = false) :
    receiveByte l b s = s.onLink l (fun r => r.byte b) := by
  have hc : ¬((s.link l).receiver = .receiving ∧ ((s.link l).byte b).receiver = .receiving ∧
      frameComplete ((s.link l).byte b).frame = true) := by
    rintro ⟨hr, hb, hf⟩
    simp [h hr hb] at hf
  simp only [receiveByte, hc, if_false]
  rfl

theorem exec_stationByteReceived {l : Link} {b : Byte} {s : State} (h : s.alive = true) :
    exec (.stationByteReceived l b) s = .next (receiveByte l b s) := by
  simp only [exec, execStationByteReceived, whenAlive_alive _ h]

theorem exec_lengthByteAbove250 {l : Link} {b : Byte} {s : State} (h : s.alive = true) :
    exec (.lengthByteAbove250 l b) s = .next (receiveByte l b s) := by
  simp only [exec, execLengthByteAbove250, whenAlive_alive _ h]

/-- A byte that finds the receiver outside RECEIVING completes no frame. -/
theorem receiveByte_of_not_receiving {l : Link} {b : Byte} {s : State} (h : (s.link l).receiver ≠ .receiving) :
    receiveByte l b s = { s with links := s.links.set l.idx ((s.link l).byte b) } :=
  receiveByte_incomplete fun hr => absurd hr h

/-- A length byte above 250 abandons the frame. -/
theorem receiveByte_lengthAbove {l : Link} {b : Byte} {s : State} (hr : (s.link l).receiver = .receiving)
    (hf : (s.link l).frame = []) (hb : 250 < b.toNat) :
    receiveByte l b s = { s with links := s.links.set l.idx (s.link l).abandon } := by
  have e : (s.link l).byte b = (s.link l).abandon := by rw [LinkRec.byte_receiving hr, if_pos ⟨hf, hb⟩]
  rw [receiveByte_incomplete (fun _ h => by rw [e] at h; cases h), State.onLink_eq_set, e]

/-- A byte inside a frame joins it. -/
theorem receiveByte_inside {l : Link} {b : Byte} {s : State} (hr : (s.link l).receiver = .receiving)
    (hb : ¬((s.link l).frame = [] ∧ 250 < b.toNat)) (hf : frameComplete ((s.link l).frame ++ [b]) = false) :
    receiveByte l b s =
      { s with links := s.links.set l.idx { s.link l with frame := (s.link l).frame ++ [b], quiet := some 2 } } := by
  have e : (s.link l).byte b = { s.link l with frame := (s.link l).frame ++ [b], quiet := some 2 } := by
    rw [LinkRec.byte_receiving hr, if_neg hb]
  rw [receiveByte_incomplete (fun _ _ => by rw [e]; exact hf), State.onLink_eq_set, e]

/-! ### Faults, silences and replies (01 R2 to R5, R8) -/

/-- What a reply's last byte leaves of its link (01 R5). -/
theorem LinkRec.replySent_cons {r : LinkRec} {a : Reply} {rest : List Reply} (h : r.transmit = a :: rest) :
    r.replySent = { r with transmit := rest, inWork := r.inWork && !a.own } := by
  simp only [LinkRec.replySent, h]
  cases a.own <;> simp

theorem LinkRec.replySent_nil {r : LinkRec} (h : r.transmit = []) : r.replySent = r := by
  simp only [LinkRec.replySent, h]

theorem LinkRec.ownFirst_cons {r : LinkRec} {a : Reply} {rest : List Reply} (h : r.transmit = a :: rest) :
    r.ownFirst = a.own := by
  simp only [LinkRec.ownFirst, h]

/-- A link event of a part that takes events changes its link alone. -/
theorem whenAlive_onLink {s : State} {l : Link} {f : LinkRec → LinkRec} {r : LinkRec} (alive : s.alive = true)
    (h : f (s.link l) = r) : s.whenAlive (fun s => s.onLink l f) = { s with links := s.links.set l.idx r } := by
  rw [whenAlive_alive _ alive, State.onLink_eq_set, h]

theorem silent_eq (r : LinkRec) :
    r.silent = match r.receiver with
      | .receiving => r.abandon
      | .skipping => { r with receiver := .hunt, frame := [], quiet := none }
      | .hunt => r := by
  cases h : r.receiver
  · exact silent_hunt h
  · exact silent_receiving h
  · exact silent_skipping h

/-- A reply's frame: the code, the notices-waiting byte and the rest of its body behind length, kind and tag. -/
theorem Reply.bytes_eq (a : Reply) :
    a.bytes = 0xA5 :: (BitVec.ofNat 8 (2 + a.rest.length) :: a.kind :: a.tag :: BitVec.ofNat 8 a.code.num ::
        (if a.waiting then 1 else 0) :: a.rest ++
      checkBytes (BitVec.ofNat 8 (2 + a.rest.length) :: a.kind :: a.tag :: BitVec.ofNat 8 a.code.num ::
        (if a.waiting then 1 else 0) :: a.rest)) := by
  have flag : BitVec.ofNat 8 (boolNum a.waiting) = if a.waiting then 1 else 0 := by cases a.waiting <;> rfl
  have count : ∀ x y : Byte, (x :: y :: a.rest).length = 2 + a.rest.length := fun _ _ => by
    simp only [List.length_cons]; omega
  simp only [Reply.bytes, frameBytes, frameTail, count, flag, startByte]

end Sys2Proof.Machine

open Sys2Proof Sys2Proof.Machine

/-- Settles O1: the definition of a step, by the shape of the queue. -/
theorem stepRunsTheFrontCommand : Obligations.StepRunsTheFrontCommand := fun _ _ _ h => step_cons h

/-- Settles O4, one receiver state at a time. -/
theorem receiverTakesBytes : Obligations.ReceiverTakesBytes := by
  intro l b s alive becomes r
  refine ⟨fun hr hb => ?_, fun hr hb => ?_, fun hr hf hb => ⟨?_, ?_⟩, fun hr hb hc => ?_, fun hr => ?_⟩
  · show exec _ s = _
    rw [exec_stationByteReceived alive, receiveByte_of_not_receiving (by rw [hr]; decide), LinkRec.byte_hunt hr, if_pos hb]
  · show exec _ s = _
    rw [exec_stationByteReceived alive, receiveByte_of_not_receiving (by rw [hr]; decide), LinkRec.byte_hunt hr, if_neg hb]
    rfl
  · show exec _ s = _
    rw [exec_stationByteReceived alive, receiveByte_lengthAbove hr hf hb]
    rfl
  · show exec _ s = _
    rw [exec_lengthByteAbove250 alive, receiveByte_lengthAbove hr hf hb]
    rfl
  · have incomplete : frameComplete (r.frame ++ [b]) = false := by
      rw [Bool.eq_false_iff, Ne, frameComplete_iff]
      rintro ⟨len, rest, e, hl⟩
      exact hc len rest e hl
    show exec _ s = _
    rw [exec_stationByteReceived alive, receiveByte_inside hr hb incomplete]
  · show exec _ s = _
    rw [exec_stationByteReceived alive, receiveByte_of_not_receiving (by rw [hr]; decide), LinkRec.byte_skipping hr]

/-- Settles O5: each event is its link's own change, and a reply's bytes are those of its frame. -/
theorem linkTakesLineEvents : Obligations.LinkTakesLineEvents := by
  constructor
  · intro l s alive becomes r skipping
    refine ⟨?_, ?_, ?_, ?_, fun h => ?_, fun a rest h plain => ?_⟩
    · exact congrArg _ (whenAlive_onLink alive rfl)
    · exact congrArg _ (whenAlive_onLink alive rfl)
    · exact congrArg _ (whenAlive_onLink alive rfl)
    · exact congrArg _ (whenAlive_onLink alive (silent_eq _))
    · have none_sent : ¬(l = .sl ∧ s.supply.restartPending = true ∧ (s.link .sl).ownFirst = true) := by
        rintro ⟨rfl, _, own⟩
        rw [LinkRec.ownFirst, show (s.link .sl).transmit = [] from h] at own
        cases own
      show Host.Outcome.next (s.whenAlive (fun s => s.replySent l)) = _
      rw [whenAlive_alive _ alive, replySent_plain none_sent, onLink_unchanged (LinkRec.replySent_nil h)]
    · have not_restart : ¬(l = .sl ∧ s.supply.restartPending = true ∧ (s.link .sl).ownFirst = true) := by
        rintro ⟨rfl, pending, own⟩
        exact plain ⟨rfl, pending, LinkRec.ownFirst_cons h ▸ own⟩
      show Host.Outcome.next (s.whenAlive (fun s => s.replySent l)) = _
      rw [whenAlive_alive _ alive, replySent_plain not_restart, State.onLink_eq_set, LinkRec.replySent_cons h]
  · intro a code covered
    have named : code = BitVec.ofNat 8 a.code.num := by
      simp only [code]
      cases a.code <;> rfl
    simp only [covered, named]
    exact a.bytes_eq
end

section
/-! PROOF. The bytes of a whole frame (01 R3, R4): one by one they are the request they spell. -/

namespace Sys2Proof.Machine

/-! ### A frame received byte by byte -/

/-- The state whose link `l` is receiving a frame, the bytes after the start byte so far being `f`. -/
def State.receiving (s : State) (l : Link) (f : Bytes) : State :=
  s.onLink l (fun r => { r with receiver := .receiving, frame := f, quiet := some 2 })

@[simp] theorem State.alive_receiving (s : State) (l : Link) (f : Bytes) : (s.receiving l f).alive = s.alive := rfl
@[simp] theorem State.link_receiving (s : State) (l : Link) (f : Bytes) :
    (s.receiving l f).link l = { s.link l with receiver := .receiving, frame := f, quiet := some 2 } := by
  simp [State.receiving]

/-- The start byte opens a frame. -/
theorem exec_startByte {s : State} {l : Link} (alive : s.alive = true) (hunt : (s.link l).receiver = .hunt) :
    exec (.stationByteReceived l 0xA5) s = .next (s.receiving l []) := by
  rw [exec_stationByteReceived alive, receiveByte_of_not_receiving (by rw [hunt]; decide), LinkRec.byte_hunt hunt, if_pos rfl]
  rfl

/-- A byte that neither is a length byte above 250 nor completes the frame joins it. -/
theorem exec_frameByte {s : State} {l : Link} {f : Bytes} {b : Byte} (alive : s.alive = true)
    (hb : ¬(f = [] ∧ 250 < b.toNat)) (hf : frameComplete (f ++ [b]) = false) :
    exec (.stationByteReceived l b) (s.receiving l f) = .next (s.receiving l (f ++ [b])) := by
  rw [exec_stationByteReceived (by simpa using alive), receiveByte_inside (by simp) (by simpa using hb) (by simpa using hf)]
  simp [State.receiving, State.onLink, Vec.modify, State.link]

/-- The byte that completes a frame hands it on. -/
theorem exec_lastByte {s : State} {l : Link} {f : Bytes} {b : Byte} (alive : s.alive = true)
    (hb : f ≠ []) (hf : frameComplete (f ++ [b]) = true) :
    exec (.stationByteReceived l b) (s.receiving l f) = .next (completeFrame l (f ++ [b]) (s.receiving l (f ++ [b]))) := by
  have e : (s.receiving l f).onLink l (fun _ => ((s.receiving l f).link l).byte b) = s.receiving l (f ++ [b]) := by
    simp [State.receiving, LinkRec.byte, hb, State.onLink, Vec.modify, State.link, Config.quietTime]
  have gathered : ((s.receiving l f).link l).byte b = (s.receiving l (f ++ [b])).link l := by rw [← e]; simp
  rw [exec_stationByteReceived (by simpa using alive)]
  simp only [receiveByte, e]
  rw [gathered, if_pos ⟨by simp, by simp, by simpa using hf⟩]
  simp

/-- A frame is not complete before its last byte. -/
theorem frameComplete_short {len : Byte} {f : Bytes} (h : f.length < len.toNat + 4) : frameComplete (len :: f) = false := by
  simp [frameComplete]; omega

/-- Bytes that leave a begun frame incomplete are gathered in order. -/
theorem runAll_frameBytes {s : State} {l : Link} (alive : s.alive = true) (len : Byte) (next : List Instr) (bs f : Bytes)
    (h : f.length + bs.length < len.toNat + 4) :
    runAll (bs.map (Instr.stationByteReceived l) ++ next) (s.receiving l (len :: f)) =
      runAll next (s.receiving l (len :: (f ++ bs))) := by
  induction bs generalizing f with
  | nil => simp
  | cons b bs ih =>
    simp only [List.length_cons] at h
    have short : frameComplete (len :: f ++ [b]) = false := by
      rw [List.cons_append]
      exact frameComplete_short (by simp only [List.length_append, List.length_singleton]; omega)
    have step := exec_frameByte (l := l) alive (by simp) short
    simp only [List.map_cons, List.cons_append, runAll, step]
    have rest := ih (f ++ [b]) (by simp only [List.length_append, List.length_singleton]; omega)
    simpa using rest

/-- The bytes of a whole frame, received in HUNT, hand on exactly the bytes after the start byte. -/
theorem runAll_wholeFrame {s : State} {l : Link} (alive : s.alive = true) (hunt : (s.link l).receiver = .hunt) {len : Byte}
    {bs : Bytes} {last : Byte} (hlen : len.toNat ≤ 250) (h : bs.length = len.toNat + 3) :
    runAll ((0xA5 :: len :: (bs ++ [last])).map (Instr.stationByteReceived l)) s =
      .next (completeFrame l (len :: (bs ++ [last])) (s.receiving l (len :: (bs ++ [last])))) := by
  have first := exec_frameByte (l := l) (f := []) (b := len) alive (by simp; omega) (frameComplete_short (by simp))
  have middle := runAll_frameBytes (l := l) alive len [.stationByteReceived l last] bs [] (by simp; omega)
  have final := exec_lastByte (l := l) (f := len :: bs) (b := last) alive (by simp) (by simp [frameComplete]; omega)
  simp only [List.map_cons, List.map_append, List.map_nil, runAll, exec_startByte alive hunt, List.nil_append] at first middle ⊢
  simp only [first, middle, final, List.cons_append]

/-! ### What a request does not read of its receiver -/

theorem arrive_receiving (s : State) (l : Link) (f : Bytes) : (s.receiving l f).arrive l = s.arrive l := by
  cases l <;> simp [State.arrive, State.receiving]

theorem requestWith_receiving (s : State) (l k : Link) (f : Bytes) (kind tag : Byte) (acting : Bool) (judge : State → Judged)
    (alive : s.alive = true) (hk : k = l) :
    requestWith k kind tag acting judge (s.receiving l f) = requestWith k kind tag acting judge s := by
  subst hk
  simp only [requestWith, whenAlive_alive _ alive, whenAlive_alive _ (show (s.receiving k f).alive = true from alive),
    State.accept, arrive_receiving, State.link_receiving]

/-- A whole frame does the same whatever its link's receiver had gathered. -/
theorem requestFrame_receiving {s : State} (l : Link) (f : Bytes) (kind tag : Byte) (body : Bytes) (alive : s.alive = true) :
    requestFrame l kind tag body (s.receiving l f) = requestFrame l kind tag body s := by
  unfold requestFrame
  split
  · exact requestWith_receiving s l l f _ _ _ _ alive rfl
  · exact requestWith_receiving s l l f _ _ _ _ alive rfl

/-! ### The frame that bytes spell -/

theorem frameSound_append (covered check : Bytes) (h : check.length = 2) :
    frameSound (covered ++ check) = decide (check = checkBytes covered) := by
  have hl : (covered ++ check).length - 2 = covered.length := by rw [List.length_append, h]; omega
  simp only [frameSound, hl, List.drop_left, List.take_left]
  exact beq_eq_decide _ _

/-- A complete frame is the request of its kind, tag and body where its check bytes are right, and is discarded otherwise. -/
theorem completeFrame_spelled {s : State} {l : Link} {len kind tag : Byte} {body check : Bytes} (h : check.length = 2) :
    completeFrame l (len :: kind :: tag :: (body ++ check)) s =
      if check = checkBytes (len :: kind :: tag :: body) then requestFrame l kind tag body s else s.onLink l LinkRec.abandon := by
  have hs := frameSound_append (len :: kind :: tag :: body) check h
  simp only [List.cons_append] at hs
  have hb : ((len :: kind :: tag :: (body ++ check)).drop 3).take ((len :: kind :: tag :: (body ++ check)).length - 5) = body := by
    simp [h]
  simp only [completeFrame, hs, hb, decide_eq_true_eq]
  rfl

theorem abandon_receiving (s : State) (l : Link) (f : Bytes) :
    (s.receiving l f).onLink l LinkRec.abandon = s.onLink l LinkRec.abandon := by
  simp only [State.receiving, State.onLink_onLink]
  rfl

end Sys2Proof.Machine

open Sys2Proof Sys2Proof.Machine

/-- Settles O6: the bytes are gathered one by one (`runAll_wholeFrame`), and what they spell is the request. -/
theorem frameBytesAreTheRequest : Obligations.FrameBytesAreTheRequest := by
  intro l kind tag high low body s alive hunt hbody covered received
  have hlen : (BitVec.ofNat 8 body.length).toNat = body.length := by
    rw [BitVec.toNat_ofNat]
    exact Nat.mod_eq_of_lt (by omega)
  have cut : (kind :: tag :: (body ++ [high])) ++ [low] = kind :: tag :: (body ++ [high, low]) := by simp
  have run := runAll_wholeFrame (s := s) (l := l) alive hunt (len := BitVec.ofNat 8 body.length)
    (bs := kind :: tag :: (body ++ [high])) (last := low) (by omega) (by simp [hlen])
  rw [cut] at run
  replace run : received = _ := run
  rw [completeFrame_spelled rfl, requestFrame_receiving _ _ _ _ _ alive, abandon_receiving] at run
  refine ⟨fun h => ?_, fun h => ?_⟩
  · rw [run, if_pos h]
  · rw [run, if_neg h]
    simp only [exec, execFrameCheckFailed, whenAlive_alive _ alive]
end

section
/-! PROOF. Composing the displays, and what an answered request leaves (01 R5 to R12): every request's frame in one lemma. -/

namespace Sys2Proof.Machine

/-! ### Composing (03 R48, 09 R165 to R176) -/

theorem settle_alive {s : State} (h : s.alive = true) : s.settle = s.settleIdle.settleWindows := by
  simp only [State.settle, whenAlive_alive _ h]

theorem settle_dead {s : State} (h : s.alive = false) : s.settle = s := by
  simp only [State.settle, whenAlive_dead _ h]

@[simp] theorem alive_settle (s : State) : s.settle.alive = s.alive := State.alive_of_supply (by simp)

theorem pos_settleIdle (s : State) (n : Fin 8) :
    s.settleIdle.pos n = { s.pos n with idle := (s.pos n).isIdle s.settings.idleBlank } := by
  simp [State.settleIdle, State.pos]

theorem window_settleWindows (s : State) (m : Fin 8) : s.settleWindows.window m = s.settleWindow m := by
  simp [State.settleWindows, State.window]

/-- A state is composed when every idle flag and every window is what the rest makes of it. -/
theorem settle_eq_self_iff {s : State} (h : s.alive = true) :
    s.settle = s ↔ (∀ n, (s.pos n).idle = (s.pos n).isIdle s.settings.idleBlank) ∧ ∀ m, s.settleWindow m = s.window m := by
  have idle : s.settleIdle = s ↔ ∀ n, (s.pos n).idle = (s.pos n).isIdle s.settings.idleBlank := by
    constructor
    · intro e n
      have same : (s.settleIdle.pos n).idle = (s.pos n).idle := by rw [e]
      rw [pos_settleIdle] at same
      exact same.symm
    · intro e
      have : s.positions.map (fun p => { p with idle := p.isIdle s.settings.idleBlank }) = s.positions := by
        ext n
        rw [Vec.get_map]
        exact congrArg (fun b => { s.pos n with idle := b }) (e n).symm
      simp only [State.settleIdle, this]
  have windows : s.settleWindows = s ↔ ∀ m, s.settleWindow m = s.window m := by
    constructor
    · intro e m
      rw [← window_settleWindows, e]
    · intro e
      have : Vec.tab s.settleWindow = s.windows := by
        ext m
        rw [Vec.get_tab]
        exact e m
      simp only [State.settleWindows, this]
  rw [settle_alive h]
  constructor
  · intro e
    have positions : s.settleIdle = s := by
      have same : s.settleIdle.positions = s.positions := by rw [← State.positions_settleWindows, e]
      exact congrArg (fun p => { s with positions := p }) same
    rw [positions] at e
    exact ⟨idle.1 positions, windows.1 e⟩
  · rintro ⟨hi, hw⟩
    rw [idle.2 hi, windows.2 hw]

theorem pos_settle {s : State} (h : s.alive = true) (n : Fin 8) :
    s.settle.pos n = { s.pos n with idle := (s.pos n).isIdle s.settings.idleBlank } := by
  rw [settle_alive h, ← pos_settleIdle]
  rfl

theorem window_settle {s : State} (h : s.alive = true) (m : Fin 8) : s.settle.window m = s.settleIdle.settleWindow m := by
  simp [settle_alive h, State.settleWindows, State.window]

/-- What composing a window again finds: nothing new. -/
theorem settleWindow_settleWindows (s : State) (m : Fin 8) : s.settleWindows.settleWindow m = s.settleWindow m := by
  have again : s.settleWindows.settleWindow m =
      { s.settleWindows.window m with
        cells := composeCells s.day.minorDigits (s.overlay m) (s.settleWindows.window m).text (s.settleWindows.window m).amount
        overlay := s.overlay m
        blank := (s.settleWindow m).blank
        target := (s.settleWindow m).target
        pattern := s.lampPattern m
        lamp := if s.lampPattern m = (s.settleWindows.window m).pattern then (s.settleWindows.window m).lamp
          else (s.lampPattern m).output s.day.phase } := rfl
  rw [again, window_settleWindows, if_pos (show s.lampPattern m = (s.settleWindow m).pattern from rfl)]
  rfl

/-- Composing twice is composing once. -/
theorem settle_settle (s : State) : s.settle.settle = s.settle := by
  cases h : s.alive
  · rw [settle_dead h, settle_dead h]
  · have alive : s.settle.alive = true := by rw [alive_settle, h]
    rw [settle_eq_self_iff alive]
    constructor
    · intro n
      rw [pos_settle h, State.settings_settle]
      rfl
    · intro m
      rw [window_settle h, settle_alive h, settleWindow_settleWindows]

theorem lampPattern_congr {s t : State} {m : Fin 8} (hp : t.pos m = s.pos m) (hb : t.pbu = s.pbu)
    (hc : t.cash.high = s.cash.high) : t.lampPattern m = s.lampPattern m := by
  unfold State.lampPattern
  rw [hp, hb, hc]

theorem overlay_congr {s t : State} {m : Fin 8} (hp : t.pos m = s.pos m) (hb : t.pbu = s.pbu)
    (hd : t.day.state = s.day.state) : t.overlay m = s.overlay m := by
  unfold State.overlay
  rw [hp, hb, hd]

/-- What composing reads: of the windows themselves neither the brightness nor, where the pattern stands, the lamp. -/
theorem settleWindow_congr {s t : State} {m : Fin 8} {c : Nat} {x : Bool} (hp : t.pos m = s.pos m) (hb : t.pbu = s.pbu)
    (hw : t.window m = { s.window m with current := c, lamp := x }) (hd : t.day.state = s.day.state)
    (hm : t.day.minorDigits = s.day.minorDigits) (hs : t.settings = s.settings) (hc : t.cash.high = s.cash.high)
    (composed : s.settleWindow m = s.window m) : t.settleWindow m = t.window m := by
  have pattern : s.lampPattern m = (s.window m).pattern := congrArg Window.pattern composed
  have lamp : ∀ phase : Nat,
      (if s.lampPattern m = (s.window m).pattern then x else (s.lampPattern m).output phase) = x := fun _ => if_pos pattern
  rw [hw]
  refine Eq.trans ?_ (congrArg (fun w : Window => { w with current := c, lamp := x }) composed)
  unfold State.settleWindow
  simp only [lampPattern_congr hp hb hc, overlay_congr hp hb hd, hp, hb, hw, hm, hs, lamp]

/-- A lamp's output is new only where its pattern is. -/
theorem shows_settle {s u : State} (alive : u.alive = true) (h : u.windows = s.windows) : s.Shows u.settle := by
  refine ⟨settle_settle u, fun m => ?_⟩
  have w : u.settleIdle.window m = s.window m := by simp only [State.window, State.windows_settleIdle, h]
  simp only [window_settle alive, State.settleWindow, w, State.day_settle, State.day_settleIdle]

/-! ### The arrival of a request (01 R4, 03 R48) -/

theorem link_arrive_self (s : State) (l : Link) :
    (s.arrive l).link l = { s.link l with receiver := .hunt, frame := [], quiet := none } := by
  cases l <;> simp [State.arrive, State.link, State.onLink]

theorem link_arrive_ne (s : State) {l k : Link} (h : k ≠ l) : (s.arrive l).link k = s.link k := by
  have e : (s.arrive l).link k =
      (s.onLink l (fun r => { r with receiver := .hunt, frame := [], quiet := none })).link k := by cases l <;> rfl
  rw [e, State.link_onLink_ne _ _ h]

/-- A request's arrival ends its own position's silence and touches no other position. -/
theorem core_arrive (s : State) (l : Link) (m : Fin 8) : ((s.arrive l).pos m).core = s.heardPos l m := by
  cases l with
  | sl => simp [State.arrive, State.heardPos, State.pos]
  | tl n =>
    by_cases h : m = n
    · subst h
      simp [State.arrive, State.heardPos]
    · have other : (s.arrive (.tl n)).pos m = s.pos m := State.pos_onPos_ne _ _ h
      simp [other, State.heardPos, Ne.symm h]

theorem link_accept_self (s : State) (l : Link) :
    (s.accept l).link l = { s.link l with receiver := .hunt, frame := [], quiet := none, inWork := true } := by
  simp [State.accept, link_arrive_self]

theorem link_accept_ne (s : State) {l k : Link} (h : k ≠ l) : (s.accept l).link k = s.link k := by
  rw [State.accept, State.link_onLink_ne _ _ h, link_arrive_ne s h]

@[simp] theorem positions_accept (s : State) (l : Link) : (s.accept l).positions = (s.arrive l).positions := rfl

@[simp] theorem alive_arrive (s : State) (l : Link) : (s.arrive l).alive = s.alive := State.alive_of_supply (by simp)
@[simp] theorem alive_accept (s : State) (l : Link) : (s.accept l).alive = s.alive := State.alive_of_supply (by simp)

theorem link_reply_self (s : State) (l : Link) (kind tag : Byte) (c : Code) (rest : Bytes) :
    (s.reply l kind tag c rest).link l = (s.link l).place kind tag c rest true := by
  simp [State.reply]

theorem link_reply_ne (s : State) {l k : Link} (kind tag : Byte) (c : Code) (rest : Bytes) (h : k ≠ l) :
    (s.reply l kind tag c rest).link k = s.link k := by
  rw [State.reply, State.link_onLink_ne _ _ h]

/-! ### A refused request (01 R6, R7) -/

/-- The parts of the state that a change of links and positions leaves. -/
theorem keeps_settle {s u : State} (c : Change) (pending : u.pending = s.pending) (parts : ∀ p, p ∉ c.parts → s.SamePart u p)
    (windows : ∀ m, m ∉ c.windows → s.SameLayers u m) : s.Keeps u.settle c := by
  refine ⟨by simp [pending], fun p hp => ?_, fun m hm => ?_⟩
  · have := parts p hp
    cases p <;> simpa [State.SamePart] using this
  · obtain ⟨ht, ha, hc⟩ := windows m hm
    obtain ⟨ht', ha', hc'⟩ := layers_settle u m
    exact ⟨ht'.trans ht, ha'.trans ha, hc'.trans hc⟩

/-- A request that its judgement refuses, and nothing else, is answered with the refusing code. -/
theorem refused_of_error {l : Link} {kind tag : Byte} {acting : Bool} {judge : State → Judged} {s : State} {c : Code}
    (h : s.Accepts l) (hj : judge (s.accept l) = .error c) :
    s.Refused (requestWith l kind tag acting judge s) l kind tag c := by
  rw [requestWith_error h hj]
  have alive : ((s.accept l).reply l kind tag c []).alive = true := by simpa [State.reply] using h.1
  refine ⟨keeps_settle _ (by simp) (fun p _ => ?_) (fun m _ => ?_), fun k n => ?_, ?_, fun k hk => ?_, fun m _ => ?_,
    shows_settle alive (by simp)⟩
  · cases p <;> simp [State.SamePart]
  · simp [State.SameLayers, State.window]
  · rw [link_settle]
    by_cases hk : k = l
    · subst hk
      simp [link_reply_self, LinkRec.place, link_accept_self]
    · simp [link_reply_ne _ _ _ _ _ hk, link_accept_ne _ hk]
  · simp only [State.Replied, link_settle]
    simp [link_reply_self, LinkRec.place, link_accept_self, LinkRec.waiting]
  · simp [State.SameLink, link_settle, link_reply_ne _ _ _ _ _ hk, link_accept_ne _ hk]
  · rw [core_settle, ← core_arrive]
    rfl

/-! ### The request kinds (01 R6, R9, 11 R198) -/

theorem readKind_eq_some {b : Byte} {k : Kind} (h : readKind b = some k) : k.byte = b := by
  simpa using List.find?_some h

theorem Kind.toNat_byte (k : Kind) : k.byte.toNat = k.num := by cases k <;> rfl

theorem Kind.byte_eq_iff (k : Kind) (b : Byte) : k.byte = b ↔ k.num = b.toNat := by
  rw [← Kind.toNat_byte, BitVec.toNat_inj]

/-- The catalogue has exactly the kinds 1 to 34. -/
theorem readKind_eq_none_iff (b : Byte) : readKind b = none ↔ ¬(1 ≤ b.toNat ∧ b.toNat ≤ 34) := by
  have named : b.toNat ∈ kinds.map Kind.num ↔ 1 ≤ b.toNat ∧ b.toNat ≤ 34 := by
    rw [show kinds.map Kind.num = List.range' 1 34 from rfl, List.mem_range'_1]
    omega
  rw [← named, readKind, List.find?_eq_none]
  simp [Kind.byte_eq_iff]

theorem Kind.allows_iff (k : Kind) (l : Link) :
    k.allows l = true ↔ (k.num ∈ [3, 4, 5, 6, 7, 8, 15, 16, 27, 28, 29, 30, 33] → l = .sl) ∧
      (k.num ∈ [9, 10, 11, 12, 13, 14, 17, 18, 24, 25, 26, 31, 32, 34] → l ≠ .sl) := by
  cases k <;> simp [Kind.allows, Kind.num]

theorem listLength_iff (fixed w low high len : Nat) (hw : 0 < w) :
    listLength fixed w low high len = true ↔ ∃ k, low ≤ k ∧ k ≤ high ∧ len = fixed + w * k := by
  simp only [listLength, Bool.and_eq_true, decide_eq_true_eq]
  constructor
  · rintro ⟨⟨hl, hh⟩, hm⟩
    obtain ⟨k, hk⟩ := Nat.dvd_of_mod_eq_zero hm
    have e : len = fixed + w * k := by have := Nat.le_trans (Nat.le_add_right _ _) hl; omega
    subst e
    exact ⟨k, Nat.le_of_mul_le_mul_left (by omega) hw, Nat.le_of_mul_le_mul_left (by omega) hw, rfl⟩
  · rintro ⟨k, hl, hh, rfl⟩
    have := Nat.mul_le_mul_left w hl
    have := Nat.mul_le_mul_left w hh
    exact ⟨⟨by omega, by omega⟩, by simp⟩

/-- The table of body lengths, kind by kind. -/
theorem Kind.admits_iff (k : Kind) (l : Link) (len : Nat) : k.admits l len = true ↔ LengthAdmitted k.num (l == .sl) len := by
  cases k
  case showText =>
    rw [Kind.admits, listLength_iff _ _ _ _ _ Nat.one_pos]
    simp only [Kind.num, LengthAdmitted]
    constructor
    · rintro ⟨k, _, _, rfl⟩
      simp
      omega
    · intro h
      exact ⟨len - 1, by simp at h; omega⟩
  all_goals cases l <;> simp [Kind.admits, Kind.num, LengthAdmitted, listLength_iff]

end Sys2Proof.Machine
end

section
/-! PROOF. Requests that find one in work, requests refused by kind, role and length, and TAKE-NOTICES (01 R5 to R12). -/

namespace Sys2Proof.Machine

/-- A request that finds one in work leaves its link's record and its silence alone changed (01 R5). -/
theorem requestWith_busy {l : Link} {kind tag : Byte} {acting : Bool} {judge : State → Judged} {s : State}
    (alive : s.alive = true) (h : (s.link l).inWork = true) :
    requestWith l kind tag acting judge s =
      ((s.arrive l).onLink l (fun r =>
        if (s.link l).transmit.length < 2 then r.place kind tag .busy [] false else r)).settle := by
  simp only [requestWith, whenAlive_alive _ alive, h, if_true, Config.transmitRoom]
  by_cases room : (s.link l).transmit.length < 2
  · simp only [room, if_true]
  · simp only [room, if_false, onLink_unchanged (f := fun r => r) rfl]

/-- A frame whose request finds one in work is that request, whatever its kind. -/
theorem requestFrame_busy {l : Link} {kind tag : Byte} {body : Bytes} {s : State} (alive : s.alive = true)
    (h : (s.link l).inWork = true) :
    requestFrame l kind tag body s =
      ((s.arrive l).onLink l (fun r =>
        if (s.link l).transmit.length < 2 then r.place kind tag .busy [] false else r)).settle := by
  unfold requestFrame
  split
  · next k hk =>
    rw [request, requestWith_busy alive h, readKind_eq_some hk]
  · rw [unknownRequest, requestWith_busy alive h]

/-- A frame of a known kind is the request of that kind. -/
theorem requestFrame_known {l : Link} {kind tag : Byte} {body : Bytes} {k : Kind} (s : State) (h : readKind kind = some k) :
    requestFrame l kind tag body s = requestWith l kind tag k.acting (judgeRequest l k body (handler l body k)) s := by
  simp only [requestFrame, h, request, readKind_eq_some h]

theorem requestFrame_unknown {l : Link} {kind tag : Byte} {body : Bytes} (s : State) (h : readKind kind = none) :
    requestFrame l kind tag body s = unknownRequest l kind tag s := by
  simp only [requestFrame, h]

/-- The codes that a reply to TAKE-NOTICES lists, one byte each, with their number before them. -/
theorem counted_noticeCodes (v : Vec 18 Bool) :
    counted ((noticeCodes v).map (be 1)) =
      BitVec.ofNat 8 (((List.finRange 18).filter (fun i => v.get i)).map (fun i => BitVec.ofNat 8 (i.val + 1))).length ::
        ((List.finRange 18).filter (fun i => v.get i)).map (fun i => BitVec.ofNat 8 (i.val + 1)) := by
  have one : ∀ n : Nat, be 1 n = [BitVec.ofNat 8 n] := fun n => by simp [be]
  have list : ((noticeCodes v).map (be 1)).flatten =
      ((List.finRange 18).filter (fun i => v.get i)).map (fun i => BitVec.ofNat 8 (i.val + 1)) := by
    rw [noticeCodes, List.map_map]
    induction (List.finRange 18).filter (fun i => v.get i) with
    | nil => rfl
    | cons i is ih => simpa [one] using ih
  rw [counted, list, one]
  simp [noticeCodes]

end Sys2Proof.Machine

open Sys2Proof Sys2Proof.Machine

/-- Settles O8: the one lemma on a request that finds one in work, read part by part. -/
theorem requestInWorkIsBusyOrDiscarded : Obligations.RequestInWorkIsBusyOrDiscarded := by
  intro l kind tag body s alive inWork t
  have ht : t = _ := requestFrame_busy alive inWork
  clear_value t
  subst ht
  refine ⟨keeps_settle _ (by simp) (fun p _ => by cases p <;> simp [State.SamePart])
      (fun m _ => by simp [State.SameLayers, State.window]), fun j k => ?_, fun k hk => ?_, fun m => ?_,
    shows_settle (by simpa using alive) (by simp), ?_⟩
  · rw [link_settle]
    by_cases hj : j = l
    · subst hj
      rw [State.link_onLink_self, link_arrive_self]
      split <;> simp [LinkRec.place]
    · simp [State.link_onLink_ne _ _ hj, link_arrive_ne _ hj]
  · simp [State.SameLink, link_settle, State.link_onLink_ne _ _ hk, link_arrive_ne _ hk]
  · rw [core_settle, ← core_arrive]
    rfl
  · rw [link_settle, State.link_onLink_self, link_arrive_self]
    split <;> rfl

/-- Settles O9: the three checks, in their order, each by the table that it looks up. -/
theorem requestIsRefusedByKindRoleAndLength : Obligations.RequestIsRefusedByKindRoleAndLength := by
  intro l kind tag body s accepts known slOnly tlOnly allowed t
  refine ⟨fun unknown => ⟨?_, ?_⟩, fun hknown hallowed => ?_, fun hknown hallowed hlength => ?_⟩
  · have hk := (readKind_eq_none_iff kind).2 unknown
    show s.Refused (requestFrame l kind tag body s) l kind tag .badForm
    rw [requestFrame_unknown s hk]
    exact refused_of_error accepts rfl
  · have hk := (readKind_eq_none_iff kind).2 unknown
    show Host.Outcome.next (unknownRequest l kind tag s) = .next (requestFrame l kind tag body s)
    rw [requestFrame_unknown s hk]
  all_goals
    obtain ⟨k, hk⟩ : ∃ k, readKind kind = some k := by
      rw [← Option.ne_none_iff_exists', Ne, readKind_eq_none_iff, not_not]
      exact hknown
    have num : kind.toNat = k.num := ((Kind.byte_eq_iff k kind).1 (readKind_eq_some hk)).symm
    have role : k.allows l = true ↔ allowed := by rw [Kind.allows_iff, ← num]
    show s.Refused (requestFrame l kind tag body s) l kind tag _
    rw [requestFrame_known s hk]
    refine refused_of_error accepts ?_
  · exact check_neg (role.not.2 hallowed)
  · have length : ¬k.admits l body.length = true := by rwa [Kind.admits_iff, ← num]
    rw [judgeRequest, check_pos (role.2 hallowed), check_neg length]

/-- Settles O10: TAKE-NOTICES always passes its checks, and its reply is placed after the set is cleared. -/
theorem takeNoticesReturnsAndClears : Obligations.TakeNoticesReturnsAndClears := by
  intro l tag s accepts set
  have judged : judgeRequest l .takeNotices [] (takeNotices l) (s.accept l) =
      .ok ⟨(s.accept l).onLink l (fun r => { r with notices := Vec.fill false }), .ok, BitVec.ofNat 8 set.length :: set⟩ := by
    have notices : ((s.accept l).link l).notices = (s.link l).notices := by rw [link_accept_self]
    rw [judgeRequest, check_pos (show Kind.takeNotices.allows l = true from rfl),
      check_pos (show Kind.takeNotices.admits l [].length = true from rfl), takeNotices, okReply, notices, counted_noticeCodes]
  have alive : (s.accept l).alive = true := by simpa using accepts.1
  refine ⟨_, rfl, ?_⟩
  rw [request, requestWith_ok accepts judged]
  simp only [Kind.acting, if_true, State.recordTag, State.onLink_onLink, State.reply]
  refine ⟨keeps_settle _ (by simp) (fun p _ => by cases p <;> simp [State.SamePart])
      (fun m _ => by simp [State.SameLayers, State.window]), shows_settle alive (by simp), fun k hk => ?_, fun m => ?_, ?_⟩
  · rw [link_settle, State.link_onLink_ne _ _ hk, link_accept_ne _ hk]
  · rw [core_settle, ← core_arrive]
    rfl
  · rw [link_settle, State.link_onLink_self, link_accept_self]
    simp [LinkRec.place, LinkRec.waiting, Vec.any, Vec.fill, Kind.byte, Kind.num]
end

section
/-! PROOF. What a WARM reset and a POWER-UP keep and clear (02 R33, 07 R134, 08 R164, 09 R177, 10 R197). -/

namespace Sys2Proof.Machine

/-! ### The parts that an operation can change -/

theorem notify_frame (s : State) (k : Notice) (l : Link) : s.notify k l = { s with links := (s.notify k l).links } := by
  unfold State.notify
  split <;> rfl

theorem append_frame (s : State) (r : Record) :
    s.append r = { s with jnl := (s.append r).jnl, links := (s.append r).links } := by
  simp only [State.append]
  split
  · rw [notify_frame]
  · rfl

theorem appendSystem_frame (s : State) (r : Record) :
    s.appendSystem r = { s with jnl := (s.appendSystem r).jnl, links := (s.appendSystem r).links } := by
  unfold State.appendSystem
  split
  · exact append_frame s r
  · rfl

theorem resetRecord_frame (s : State) :
    s.resetRecord = { s with jnl := s.resetRecord.jnl, links := s.resetRecord.links } := by
  unfold State.resetRecord
  split
  · exact appendSystem_frame _ _
  · rfl

/-! ### An appended record and its links (07 R121, R124) -/

/-- The append gives JOURNAL-HIGH exactly where it makes the state SPENT. -/
theorem append_links (s : State) (r : Record) :
    (s.append r).links = if s.jnl.spent = false ∧ (s.append r).jnl.spent = true then (s.notify .journalHigh .sl).links
      else s.links := by
  have spent : (s.append r).jnl.spent = (s.jnl.spent || decide (s.jnl.records.length + 1 = Config.journalHigh)) := by
    rw [append_jnl]
    rfl
  rw [spent]
  unfold State.append
  cases s.jnl.spent <;> by_cases h : s.jnl.records.length + 1 = Config.journalHigh <;>
    simp [h, State.notify, Notice.carriedBy, State.onLink]

theorem appendSystem_links (s : State) (r : Record) :
    (s.appendSystem r).links =
      if s.jnl.spent = false ∧ (s.appendSystem r).jnl.spent = true then (s.notify .journalHigh .sl).links else s.links := by
  unfold State.appendSystem
  split
  · exact append_links s r
  · cases s.jnl.spent <;> simp

/-- The notices of a state whose links are those of `s`, with JOURNAL-HIGH where the journal became SPENT. -/
theorem notices_of_highJournal {s t : State}
    (h : t.links = if s.jnl.spent = false ∧ t.jnl.spent = true then (s.notify .journalHigh .sl).links else s.links)
    (l : Link) (k : Notice) :
    (t.link l).notices.get k.idx = ((s.link l).notices.get k.idx || (s.highJournal t).contains (k, l)) := by
  have link : t.link l = if s.jnl.spent = false ∧ t.jnl.spent = true then (s.notify .journalHigh .sl).link l else s.link l := by
    simp only [State.link, h]
    split <;> rfl
  rw [link, State.highJournal]
  split
  · rw [notices_notify]
    simp [Notice.carriedBy, Prod.ext_iff]
  · simp

theorem sameLink_of_highJournal {s t : State}
    (h : t.links = if s.jnl.spent = false ∧ t.jnl.spent = true then (s.notify .journalHigh .sl).links else s.links)
    (l : Link) : s.SameLink t l := by
  have link : t.link l = if s.jnl.spent = false ∧ t.jnl.spent = true then (s.notify .journalHigh .sl).link l else s.link l := by
    simp only [State.link, h]
    split <;> rfl
  rw [State.SameLink, link]
  split
  · exact link_notify_frame _ _ _ _
  · rfl

/-! ### The eject of a book found without a job (08 R154, R164) -/

/-- A printer that ejects a book without a job: it feeds to 0, or, there already, waits for the book's removal. -/
def Printer.ejectIdle (r : Printer) : Printer :=
  if r.count = 0 then (r.feed .ejecting 0).awaitRemoval r.leftBy else r.feed .ejecting 0

theorem onPrinter_onPrinter (s : State) (p : Fin 2) (f g : Printer → Printer) :
    (s.onPrinter p f).onPrinter p g = s.onPrinter p (fun r => g (f r)) := by
  simp [State.onPrinter, Vec.modify]

theorem onPrinter_congr {s : State} {p : Fin 2} {f g : Printer → Printer} (h : f (s.printer p) = g (s.printer p)) :
    s.onPrinter p f = s.onPrinter p g := by
  have e : s.pbu.printers.modify p f = s.pbu.printers.modify p g := congrArg (s.pbu.printers.set p) h
  simp only [State.onPrinter, e]

theorem onPrinter_unchanged {s : State} {p : Fin 2} {f : Printer → Printer} (h : f (s.printer p) = s.printer p) :
    s.onPrinter p f = s := by
  have e : s.pbu.printers.modify p f = s.pbu.printers := (congrArg (s.pbu.printers.set p) h).trans (Vec.set_get_self _ _)
  simp only [State.onPrinter, e]

theorem startFeed_ejecting_idle {s : State} {p : Fin 2} (h : (s.printer p).job = none) :
    s.startFeed p .ejecting 0 = s.onPrinter p Printer.ejectIdle := by
  unfold State.startFeed
  by_cases hc : (s.printer p).count = 0
  · have ejecting : ((s.onPrinter p (Printer.feed .ejecting 0)).printer p).state = .ejecting := by simp [Printer.feed]
    have idle : ((s.onPrinter p (Printer.feed .ejecting 0)).printer p).job = none := by simp [Printer.feed, h]
    simp only [hc, if_true, State.feedEnd, ejecting, State.ejectEnd, idle, onPrinter_onPrinter]
    exact onPrinter_congr (by simp [Printer.ejectIdle, hc, Printer.feed])
  · simp only [hc, if_false]
    exact onPrinter_congr (by simp [Printer.ejectIdle, hc])

/-- A printer whose book, if it holds one and is not in FAULT, is ejected. -/
def Printer.ejectFound (r : Printer) : Printer := if r.book = true ∧ r.state ≠ .fault then r.ejectIdle else r

/-- What a reset leaves of a printer (08 R164). -/
def Printer.afterReset (r : Printer) : Printer := r.reset.ejectFound

theorem Printer.job_reset (r : Printer) : r.reset.job = none := by
  unfold Printer.reset
  simp only
  split <;> rfl

theorem resetEject_idle {s : State} {p : Fin 2} (h : (s.printer p).job = none) :
    s.resetEject p = s.onPrinter p Printer.ejectFound := by
  unfold State.resetEject
  split
  · next hc =>
    rw [startFeed_ejecting_idle h]
    exact onPrinter_congr (if_pos hc).symm
  · next hc => exact (onPrinter_unchanged (if_neg hc)).symm

theorem fin2_cases (p : Fin 2) : p = 0 ∨ p = 1 := by omega

/-! ### A reset, block by block -/

/-- The state a reset composes its displays on. -/
def State.resetBase (s : State) : State :=
  { s.resetBlocks.resetRecord with
    pbu := { s.pbu.reset with printers := s.pbu.printers.map Printer.afterReset }
    ulc := { s.ulc.reset with
      round := some ⟨1, 1 + s.settings.pingRetries, none⟩, sending := some (.ping s.day.state s.day.date) } }

theorem pbu_resetRecord (s : State) : s.resetRecord.pbu = s.pbu := by rw [resetRecord_frame]
theorem ulc_resetRecord (s : State) : s.resetRecord.ulc = s.ulc := by rw [resetRecord_frame]
theorem day_resetRecord (s : State) : s.resetRecord.day = s.day := by rw [resetRecord_frame]
theorem settings_resetRecord (s : State) : s.resetRecord.settings = s.settings := by rw [resetRecord_frame]

/-- The blocks at a reset, its own record asked for: what their parts are. -/
theorem resetBase_eq (s : State) :
    s.resetBase = { s.resetBlocks with
      jnl := s.resetBlocks.resetRecord.jnl
      links := s.resetBlocks.resetRecord.links
      pbu := { s.pbu.reset with printers := s.pbu.printers.map Printer.afterReset }
      ulc := s.resetBase.ulc } := by
  rw [State.resetBase, resetRecord_frame]

theorem resetEjects (s : State) :
    (s.resetBlocks.resetRecord.resetEject 0).resetEject 1 =
      { s.resetBlocks.resetRecord with pbu := { s.pbu.reset with printers := s.pbu.printers.map Printer.afterReset } } := by
  have printers : ∀ p, s.resetBlocks.resetRecord.printer p = ((s.printer p).reset) := fun p => by
    simp [State.printer, pbu_resetRecord, State.resetBlocks, Pbu.reset]
  have idle : ∀ p, (s.resetBlocks.resetRecord.printer p).job = none := fun p => by rw [printers, Printer.job_reset]
  rw [resetEject_idle (idle 0), resetEject_idle (by rw [State.printer_onPrinter_ne _ _ (by decide)]; exact idle 1)]
  have table : (s.resetBlocks.resetRecord.pbu.printers.modify 0 Printer.ejectFound).modify 1 Printer.ejectFound =
      s.pbu.printers.map Printer.afterReset := by
    ext p
    rcases fin2_cases p with rfl | rfl
    · rw [Vec.get_modify_ne _ _ (by decide), Vec.get_modify_self, Vec.get_map]
      exact congrArg Printer.ejectFound (printers 0)
    · rw [Vec.get_modify_self, Vec.get_modify_ne _ _ (by decide), Vec.get_map]
      exact congrArg Printer.ejectFound (printers 1)
  simp only [State.onPrinter, table]
  rw [pbu_resetRecord]
  rfl

/-- The displays composed and every lamp's output taken afresh from its pattern, as at the end of a reset (09 R177). -/
def State.lit (s : State) : State := s.settleIdle.settleWindows.lightLamps

/-- A reset composes its displays on its blocks, and its lamps then take their patterns' outputs. -/
theorem resetKept_eq (s : State) : s.resetKept = s.resetBase.lit := by
  have base : ((s.resetBlocks.resetRecord.resetEject 0).resetEject 1).beginRound = s.resetBase := by
    rw [resetEjects]
    simp only [State.beginRound, State.ping, State.produce, ulc_resetRecord, day_resetRecord, settings_resetRecord,
      State.resetBase]
    rfl
  rw [State.resetKept, base]
  rfl

theorem jnl_resetRecord (s : State) :
    s.resetRecord.jnl = if s.day.state = .opened ∨ s.day.state = .cutoff then
      s.jnl.withSystem s.day.seconds (Record.plain .reset .none 0 0) else s.jnl := by
  unfold State.resetRecord
  split
  · exact appendSystem_jnl _ _
  · rfl

theorem links_resetRecord (s : State) :
    s.resetRecord.links = if s.jnl.spent = false ∧ s.resetRecord.jnl.spent = true then (s.notify .journalHigh .sl).links
      else s.links := by
  unfold State.resetRecord
  split
  · exact appendSystem_links _ _
  · cases s.jnl.spent <;> simp

/-- The printer table at a reset (08 R164). -/
theorem Printer.afterReset_eq (r : Printer) :
    r.afterReset =
      let q := { r.halt with job := none, leftBy := none, bookLeft := false, book := r.input }
      if q.state = .fault then q
      else if q.book = false then { q with state := if q.online then .idle else .offline }
      else if q.count = 0 then q.keepsBook none
      else q.fed .ejecting 0 := by
  by_cases hf : r.state = .fault
  · simp [Printer.afterReset, Printer.ejectFound, Printer.reset, Printer.halt, hf]
  · have rest : ∀ b : Bool, (if b = true then PrinterState.idle else .offline) ≠ .fault := by decide
    cases hb : r.input
    · simp [Printer.afterReset, Printer.ejectFound, Printer.reset, Printer.halt, hf, hb]
    · by_cases hc : r.count = 0
      · simp [Printer.afterReset, Printer.ejectFound, Printer.reset, Printer.halt, hf, hb, rest, Printer.ejectIdle, hc, Printer.keepsBook,
          Printer.awaitRemoval, Printer.feed, Config.removalTime]
      · simp only [Printer.afterReset, Printer.ejectFound, Printer.reset, Printer.halt, hf, hb, rest, Printer.ejectIdle, hc, Printer.fed,
          Printer.feed, Config.feedTime, if_false, ne_eq, not_false_iff, and_self, if_true, Bool.true_eq_false]
        split <;> rfl

/-- The position table at a reset (03 R59). -/
theorem Position.core_reset (limit : Nat) (p : Position) :
    (p.reset limit).core =
      let p := p.core
      let inTxn : Bool := p.state == .serving || p.state == .held
      { p with
        state := if p.state = .closed then .closed else .away
        txnStart := if inTxn then none else p.txnStart
        running := p.running && !inTxn
        serviceRaised := p.serviceRaised && !inTxn
        lock := .locked, window := none, sensor := p.input, hold := none, longRaised := false, silence := 0
        openTime := if p.input = .opened then 0 else p.openTime
        openLimit := if p.input = .opened then limit else p.openLimit } := by
  have txn : p.state.inTxn = (p.state == .serving || p.state == .held) := by cases p.state <;> rfl
  dsimp only [Position.reset, Position.core]
  rw [txn]
  cases p.state == .serving || p.state == .held <;> simp

/-! ### The displays at a reset -/

theorem pos_resetBase (s : State) (n : Fin 8) : s.resetBase.pos n = (s.pos n).reset s.settings.openLimit := by
  rw [resetBase_eq]
  simp [State.pos, State.resetBlocks]

theorem window_resetBase (s : State) (m : Fin 8) : s.resetBase.window m = (s.window m).reset := by
  rw [resetBase_eq]
  simp [State.window, State.resetBlocks]

theorem window_lightLamps (s : State) (m : Fin 8) :
    s.lightLamps.window m = { s.window m with lamp := (s.window m).pattern.output s.day.phase } := by
  simp [State.lightLamps, State.window]

section
variable (s : State)

@[simp] theorem State.pending_lit : s.lit.pending = s.pending := rfl
@[simp] theorem State.supply_lit : s.lit.supply = s.supply := rfl
@[simp] theorem State.links_lit : s.lit.links = s.links := rfl
@[simp] theorem State.day_lit : s.lit.day = s.day := rfl
@[simp] theorem State.settings_lit : s.lit.settings = s.settings := rfl
@[simp] theorem State.cash_lit : s.lit.cash = s.cash := rfl
@[simp] theorem State.dct_lit : s.lit.dct = s.dct := rfl
@[simp] theorem State.bal_lit : s.lit.bal = s.bal := rfl
@[simp] theorem State.jnl_lit : s.lit.jnl = s.jnl := rfl
@[simp] theorem State.pbu_lit : s.lit.pbu = s.pbu := rfl
@[simp] theorem State.ulc_lit : s.lit.ulc = s.ulc := rfl
@[simp] theorem link_lit (l : Link) : s.lit.link l = s.link l := rfl

theorem pos_lit (n : Fin 8) : s.lit.pos n = { s.pos n with idle := (s.pos n).isIdle s.settings.idleBlank } :=
  pos_settleIdle s n

theorem window_lit (m : Fin 8) :
    s.lit.window m = { s.settleIdle.settleWindow m with lamp := (s.settleIdle.settleWindow m).pattern.output s.day.phase } := by
  rw [State.lit, window_lightLamps, window_settleWindows]
  rfl

/-- Lighting the lamps leaves a composed state composed. -/
theorem settle_lit : s.lit.settle = s.lit := by
  cases alive : s.lit.alive
  · exact settle_dead alive
  · rw [settle_eq_self_iff alive]
    refine ⟨fun n => ?_, fun m => ?_⟩
    · rw [pos_lit]
      rfl
    · refine settleWindow_congr (s := s.settleIdle.settleWindows) rfl rfl (window_lightLamps _ m) rfl rfl rfl rfl ?_
      rw [settleWindow_settleWindows, window_settleWindows]

end

/-! ### The parts after a reset -/

section
variable (s : State)

theorem pending_resetBase : s.resetBase.pending = s.pending := by rw [resetBase_eq]; rfl
theorem supply_resetBase : s.resetBase.supply = { s.supply with restartPending := false } := by rw [resetBase_eq]; rfl
theorem day_resetBase : s.resetBase.day = s.day := by rw [resetBase_eq]; rfl
theorem settings_resetBase : s.resetBase.settings = s.settings := by rw [resetBase_eq]; rfl
theorem cash_resetBase : s.resetBase.cash = s.cash := by rw [resetBase_eq]; rfl
theorem bal_resetBase : s.resetBase.bal = s.bal := by rw [resetBase_eq]; rfl
theorem dct_resetBase :
    s.resetBase.dct =
      { entries := [], cursor := 0, outcomes := Vec.tab fun n => if (s.pos n).state = .held then .dropped else .none } := by
  rw [resetBase_eq]
  simp [State.resetBlocks, Dct.reset]
theorem pbu_resetBase : s.resetBase.pbu = { s.pbu.reset with printers := s.pbu.printers.map Printer.afterReset } := by
  rw [resetBase_eq]
theorem jnl_resetBase :
    s.resetBase.jnl = if s.day.state = .opened ∨ s.day.state = .cutoff then
      s.jnl.releaseAll.withSystem s.day.seconds (Record.plain .reset .none 0 0) else s.jnl.releaseAll := by
  rw [resetBase_eq]
  exact jnl_resetRecord s.resetBlocks

theorem link_resetBlocks (l : Link) : s.resetBlocks.link l = (s.link l).reset := by
  simp [State.link, State.resetBlocks]

theorem links_of_resetBase :
    s.resetBase.links = if s.resetBlocks.jnl.spent = false ∧ s.resetBase.jnl.spent = true
      then (s.resetBlocks.notify .journalHigh .sl).links else s.resetBlocks.links := by
  rw [resetBase_eq]
  exact links_resetRecord s.resetBlocks

/-- A link's record after a reset (01 R14). -/
theorem link_resetBase (l : Link) :
    s.resetBase.link l = { s.link l with
      speed := (s.link l).strap, receiver := .skipping, frame := [], quiet := some 2, inWork := false, transmit := []
      notices := (s.resetBase.link l).notices } := by
  have same := sameLink_of_highJournal (links_of_resetBase s) l
  rw [State.SameLink, link_resetBlocks] at same
  exact same

/-- A link's notices after a reset: RESTARTED, and JOURNAL-HIGH where the reset's record gives it. -/
theorem notices_resetBase (l : Link) (k : Notice) :
    (s.resetBase.link l).notices.get k.idx = (k == .restarted || (s.highJournal s.resetBase).contains (k, l)) := by
  rw [notices_of_highJournal (links_of_resetBase s), link_resetBlocks]
  have only : restartedOnly.get k.idx = (k == .restarted) := by cases k <;> rfl
  exact congrArg (· || _) only

end

/-- A POWER-UP or WARM reset of `s`. -/
theorem resetTo_resetKept (s : State) (c : ResetCause) (count : Nat) : s.ResetTo (s.setCause c count).resetKept c count := by
  rw [resetKept_eq]
  let u := s.setCause c count
  simp only [State.ResetTo, State.highJournal, State.pending_lit, State.supply_lit, State.day_lit, State.settings_lit,
    State.cash_lit, State.bal_lit, link_lit, State.dct_lit, State.jnl_lit, State.pbu_lit, State.ulc_lit, State.printer]
  refine ⟨pending_resetBase u, supply_resetBase u, day_resetBase u, settings_resetBase u, cash_resetBase u, bal_resetBase u,
    link_resetBase u, notices_resetBase u, dct_resetBase u, fun n => ?_, jnl_resetBase u,
    by rw [pbu_resetBase]; rfl, by rw [pbu_resetBase]; rfl, by rw [pbu_resetBase]; rfl,
    fun p => ?_, fun m => ?_, settle_lit _, rfl⟩
  · rw [pos_lit, pos_resetBase]
    exact Position.core_reset _ _
  · rw [pbu_resetBase, Vec.get_map]
    exact Printer.afterReset_eq _
  · rw [window_lit]
    have window : u.resetBase.settleIdle.window m = (s.window m).reset := window_resetBase u m
    simp only [u] at window
    simp only [State.settleWindow, window, Window.reset, true_and, day_resetBase]
    rfl

/-! ### The commands that reset (02 R31 to R34) -/

theorem resetRecord_supply (s : State) (x : Supply) :
    ({ s with supply := x } : State).resetRecord = { s.resetRecord with supply := x } := by
  unfold State.resetRecord State.appendSystem State.append State.notify State.onLink
  simp only
  split
  · split
    · split
      · split <;> rfl
      · rfl
    · rfl
  · rfl

/-- A reset reads nothing of the supply, and drops a RESTART's reset pending. -/
theorem resetKept_supply (s : State) (x : Supply) :
    ({ s with supply := x } : State).resetKept = { s.resetKept with supply := { x with restartPending := false } } := by
  have blocks : ({ s with supply := x } : State).resetBlocks =
      { s.resetBlocks with supply := { x with restartPending := false } } := rfl
  have base : ({ s with supply := x } : State).resetBase =
      { s.resetBase with supply := { x with restartPending := false } } := by
    unfold State.resetBase
    rw [blocks, resetRecord_supply]
  rw [resetKept_eq, base, resetKept_eq]
  rfl

/-- What has left SL's line before a reset makes no difference to it. -/
theorem resetTo_ownSent {s t : State} {c : ResetCause} {count : Nat} (h : (s.onLink .sl LinkRec.ownSent).ResetTo t c count) :
    s.ResetTo t c count := by
  obtain ⟨pending, supply, day, settings, cash, bal, link, rest⟩ := h
  refine ⟨pending, supply, day, settings, cash, bal, fun l => ?_, rest⟩
  rw [link l]
  by_cases hl : l = .sl
  · subst hl
    rw [State.link_onLink_self]
    rfl
  · rw [State.link_onLink_ne _ _ hl]

theorem warmReset_resetTo (s : State) (c : ResetCause) : s.ResetTo (s.warmReset c) c (min 255 (s.day.warmCount + 1)) := by
  have count : holdAt 255 (s.day.warmCount + 1) = min 255 (s.day.warmCount + 1) := by
    unfold holdAt
    split <;> omega
  rw [State.warmReset, count]
  exact resetTo_resetKept s c _

theorem warmRestart_pending {s : State} (h : s.supply.restartPending = true) :
    s.warmRestart = (s.onLink .sl LinkRec.ownSent).warmReset .warmRestart := by
  simp only [State.warmRestart, h, if_true]

theorem powerUp_resetTo (s : State) : s.ResetTo s.powerUp .powerUp s.day.warmCount := resetTo_resetKept s _ _

theorem supply_resetKept (s : State) : s.resetKept.supply = { s.supply with restartPending := false } := by
  rw [resetKept_eq, State.supply_lit, supply_resetBase]

/-- Main power's return with the latch INTACT (02 R31, R32). -/
theorem powerReturn_intact {s : State} (h : s.day.intact = true) :
    s.powerReturn =
      if s.supply.resetLine = true then ({ s with supply := { s.supply with mainPower := true } } : State).powerUp.holdReset
      else ({ s with supply := { s.supply with mainPower := true } } : State).powerUp := by
  have line : ({ s with supply := { s.supply with mainPower := true } } : State).powerUp.supply.resetLine = s.supply.resetLine := by
    rw [State.powerUp, supply_resetKept]
    rfl
  simp only [State.powerReturn, h, if_true, line]

end Sys2Proof.Machine

open Sys2Proof Sys2Proof.Machine

/-- Settles O56: every way to a WARM reset or a POWER-UP is the one reset of `resetTo_resetKept`. -/
theorem resetsKeepTheRetainedStore : Obligations.ResetsKeepTheRetainedStore := by
  intro s more
  refine ⟨fun power => ⟨_, rfl, ?_⟩, fun alive pending => ⟨_, rfl, ?_⟩, fun a rest alive pending queue own => ⟨_, rfl, ?_⟩,
    fun alive pending => ?_, fun intact line => ⟨_, rfl, ?_⟩, fun intact line => ?_⟩
  · simp only [State.releaseReset, power, if_true]
    exact warmReset_resetTo _ _
  · rw [whenAlive_alive _ alive, warmRestart_pending pending]
    exact resetTo_ownSent (warmReset_resetTo _ _)
  · rw [whenAlive_alive _ alive, replySent_restart pending (by rw [LinkRec.ownFirst_cons queue, own])]
    exact resetTo_ownSent (warmReset_resetTo _ _)
  · show Host.Outcome.next (s.whenAlive State.warmRestart) = _
    rw [whenAlive_alive _ alive]
    simp [State.warmRestart, pending]
  · rw [powerReturn_intact intact, if_neg (by simp [line])]
    exact powerUp_resetTo _
  · intro released
    refine ⟨_, _, rfl, rfl, ?_, ?_⟩
    · rw [powerReturn_intact (s := released) intact, if_neg (by simp [released])]
      exact powerUp_resetTo _
    · rw [powerReturn_intact intact, if_pos line, powerReturn_intact (s := released) intact, if_neg (by simp [released])]
      have same : ({ s with supply := { s.supply with mainPower := true } } : State).powerUp =
          { ({ released with supply := { released.supply with mainPower := true } } : State).powerUp with
            supply := { s.supply with mainPower := true, restartPending := false } } :=
        (resetKept_supply (s.setCause .powerUp s.day.warmCount) _).trans
          (congrArg (fun u : State => { u with supply := { s.supply with mainPower := true, restartPending := false } })
            (resetKept_supply (s.setCause .powerUp s.day.warmCount) _).symm)
      have supply : ({ released with supply := { released.supply with mainPower := true } } : State).powerUp.supply =
          ⟨true, false, false⟩ := supply_resetKept _
      have held : (⟨true, true, false⟩ : Supply) = { s.supply with mainPower := true, restartPending := false } :=
        congrArg (fun b => Supply.mk true b false) line.symm
      rw [same, supply, ← held]
      rfl
end

section
/-! PROOF. The state after a COLD reset, and so the state after reset, meets every law of a sound state. -/

namespace Sys2Proof.Machine

section
variable (pending : List Instr) (line : Bool) (straps : Vec 9 Speed) (sensors : Vec 8 Sensor) (books : Vec 2 Bool)

/-! ### The entries after a COLD reset -/

theorem link_cold (l : Link) : (State.cold pending line straps sensors books).link l = LinkRec.cold (straps.get l.idx) := by
  simp [State.link, State.cold]
theorem pos_cold (n : Fin 8) : (State.cold pending line straps sensors books).pos n = Position.cold (sensors.get n) := by
  simp [State.pos, State.cold]
theorem window_cold (m : Fin 8) : (State.cold pending line straps sensors books).window m = Window.cold := by
  simp [State.window, State.cold]
theorem drawer_cold (n : Fin 8) : (State.cold pending line straps sensors books).drawer n = CashRecord.zero := by
  simp [State.drawer, State.cold, Cash.cold]
theorem context_cold (n : Fin 8) : (State.cold pending line straps sensors books).context n = Context.empty := by
  simp [State.context, State.cold, Bal.cold]
theorem profile_cold (n : Fin 8) : (State.cold pending line straps sensors books).profile n = Profile.empty := by
  simp [State.profile, State.cold, Bal.cold]
theorem printer_cold (p : Fin 2) : (State.cold pending line straps sensors books).printer p = Printer.cold (books.get p) := by
  simp [State.printer, State.cold, Pbu.cold]
theorem buffer_cold (b : Fin 2) : (State.cold pending line straps sensors books).ulc.buffers.get b = none := by
  simp [State.cold, Ulc.cold]

/-! ### Its laws -/

theorem clockLaw_cold : (State.cold pending line straps sensors books).ClockLaw := by
  refine ⟨?_, ?_, ?_, ?_⟩ <;> simp [State.cold, Day.cold]

theorem inRange_settingsCold : Settings.cold.InRange := by
  unfold Settings.InRange
  decide

theorem linkLaw_cold : (State.cold pending line straps sensors books).LinkLaw := by
  intro l
  rw [link_cold]
  exact ⟨rfl, Nat.zero_le 1⟩

/-- RESTARTED is carried by every link, and stands alone. -/
theorem restartedOnly_get (k : Notice) : restartedOnly.get k.idx = (k == .restarted) := by cases k <;> rfl
theorem carriedBy_restarted (l : Link) : Notice.restarted.carriedBy l = true := by cases l <;> rfl

theorem restartedOnly_of_uncarried {l : Link} {k : Notice} (h : k.carriedBy l = false) : restartedOnly.get k.idx = false := by
  rw [restartedOnly_get, beq_eq_false_iff_ne]
  rintro rfl
  rw [carriedBy_restarted] at h
  cases h

theorem noticeLaw_cold : (State.cold pending line straps sensors books).NoticeLaw := by
  intro l k h
  rw [link_cold]
  exact restartedOnly_of_uncarried h

theorem lockLaw_cold : (State.cold pending line straps sensors books).LockLaw := by
  intro n h
  rw [pos_cold] at h
  exact absurd rfl h

theorem dayLaw_cold : (State.cold pending line straps sensors books).DayLaw := by
  refine ⟨fun _ _ => ⟨fun n => by rw [pos_cold]; rfl, rfl⟩, fun n => by simp [pos_cold, Position.cold], fun n m _ h => ?_⟩
  rw [pos_cold] at h
  exact absurd rfl h

theorem txnLaw_cold : (State.cold pending line straps sensors books).TxnLaw := by
  intro n
  simp [pos_cold, window_cold, Position.cold, Window.cold, PosState.inTxn]

theorem watchLaw_cold : (State.cold pending line straps sensors books).WatchLaw := by
  intro n
  simp [pos_cold, Position.cold]

theorem rangeLaw_cold : (State.cold pending line straps sensors books).RangeLaw := by
  intro n
  rw [pos_cold, window_cold]
  simp [Position.InRange, Position.cold, Window.cold, Config.maxStopwatch, Config.maxSilence]

theorem worth_zero (faces : Vec 12 (Option Nat)) : worth faces (Vec.fill 0) = 0 := by
  simp only [worth, Vec.sum, Vec.tab, Vec.get_fill, Nat.zero_mul]
  exact List.sum_eq_zero (by simp)

/-- A cash record that holds nothing meets the cash law whatever the denominations. -/
theorem CashRecord.law_zero (faces : Vec 12 (Option Nat)) (bound : Nat) : CashRecord.zero.Law faces bound := by
  refine ⟨?_, fun i _ => Vec.get_fill 0 i, fun i => ?_, by decide, by decide⟩
  · simp only [CashRecord.zero, worth_zero, Int.add_zero]
  · simp [CashRecord.zero]

theorem cashLaw_cold : (State.cold pending line straps sensors books).CashLaw := by
  refine ⟨⟨rfl, fun i v h => ?_⟩, ⟨fun n => ?_, CashRecord.law_zero _ _⟩, fun n _ => ?_, ?_, rfl⟩
  · simp [State.cold, Cash.cold] at h
  · rw [drawer_cold]
    exact CashRecord.law_zero _ _
  · rw [drawer_cold]
    exact ⟨rfl, Vec.get_fill _ _⟩
  · simp [Cash.CountersInRange, State.cold, Cash.cold]

theorem tableLaw_cold : (State.cold pending line straps sensors books).TableLaw := by
  refine ⟨Nat.zero_le _, List.nodup_nil, fun e h => ?_, Nat.zero_le _, fun n => ?_⟩
  · exact absurd h List.not_mem_nil
  · rw [pos_cold]
    rfl

theorem contextLaw_cold : (State.cold pending line straps sensors books).ContextLaw := by
  intro n
  rw [pos_cold, context_cold]
  exact ⟨Nat.zero_le _, trivial⟩

theorem profileLaw_cold : (State.cold pending line straps sensors books).ProfileLaw := by
  intro n
  rw [profile_cold]
  simp [Profile.Law, Profile.empty]

theorem journalLaw_cold : (State.cold pending line straps sensors books).JournalLaw :=
  ⟨rfl, rfl, Nat.zero_le _, Nat.zero_le _, fun _ => rfl, fun _ _ h => absurd h List.not_mem_nil,
    fun _ h => absurd h List.not_mem_nil, Nat.zero_le _, Nat.zero_le _⟩

theorem Printer.law_cold (input : Bool) : (Printer.cold input).Law := by
  simp [Printer.Law, Printer.cold, Config.encoderLow, Config.encoderHigh]

theorem printerLaw_cold : (State.cold pending line straps sensors books).PrinterLaw := by
  refine ⟨fun p => ?_, ?_⟩
  · rw [printer_cold]
    exact Printer.law_cold _
  · have none_running : (books.map Printer.cold).toList.filterMap Printer.jobPosition = [] := by
      rw [List.filterMap_eq_nil_iff]
      intro r h
      obtain ⟨p, rfl⟩ := Vec.mem_toList.1 h
      rw [Vec.get_map]
      rfl
    show ([] ++ (books.map Printer.cold).toList.filterMap Printer.jobPosition).Nodup
    rw [none_running]
    exact List.nodup_nil

theorem uplinkLaw_cold : (State.cold pending line straps sensors books).UplinkLaw := by
  refine ⟨fun _ => ⟨buffer_cold _ _ _ _ _ 0, buffer_cold _ _ _ _ _ 1, rfl⟩, fun b k h => ?_, ?_, fun h => absurd rfl h,
    List.nodup_nil, Nat.le_refl 1, (by decide : 1 ≤ Config.maxBlock)⟩
  · rw [buffer_cold] at h
    cases h
  · rw [buffer_cold]
    exact fun _ h => nomatch h

/-- No job, no see-teller time and no book left: the print unit shows nothing. -/
theorem overlay_pbuCold (n : Fin 8) : (Pbu.cold books).overlay n = none := by
  simp [Pbu.overlay, Pbu.jobText, Printer.runsFor, Printer.cold, Printer.holdsLeft, Pbu.cold]

theorem composedLaw_cold : (State.cold pending line straps sensors books).ComposedLaw := by
  intro alive
  have overlay : ∀ n, (State.cold pending line straps sensors books).pbu.overlay n = none := fun n => overlay_pbuCold books n
  have fault : ∀ n, (State.cold pending line straps sensors books).pbu.faultStands n = false := fun n => by
    simp [Pbu.faultStands, State.cold, Pbu.cold, PrintResult.empty]
  rw [settle_eq_self_iff alive]
  refine ⟨fun n => ?_, fun m => ?_⟩
  · rw [pos_cold]
    rfl
  · have high : (State.cold pending line straps sensors books).cash.high.get m = false := Vec.get_fill _ _
    simp only [State.settleWindow, State.overlay, overlay, State.lampPattern, fault, pos_cold, window_cold, high]
    simp [Position.cold, positionOverlay, State.cold, Day.cold, Settings.cold, Window.cold, composeCells, padRight,
      branchClosed]

theorem lampLaw_cold : (State.cold pending line straps sensors books).LampLaw := by
  intro _ m
  rw [window_cold]
  rfl

/-- A COLD reset leaves a sound state, whatever the levels of the input pins (02 R31). -/
theorem sound_cold : (State.cold pending line straps sensors books).Sound where
  clock := clockLaw_cold _ _ _ _ _
  settings := inRange_settingsCold
  parameters := by
    simp [Day.ParametersInRange, State.cold, Day.cold, Config.maxTotal]
  day := dayLaw_cold _ _ _ _ _
  txn := txnLaw_cold _ _ _ _ _
  lock := lockLaw_cold _ _ _ _ _
  watch := watchLaw_cold _ _ _ _ _
  range := rangeLaw_cold _ _ _ _ _
  link := linkLaw_cold _ _ _ _ _
  restart := fun h => nomatch h
  notice := noticeLaw_cold _ _ _ _ _
  cash := cashLaw_cold _ _ _ _ _
  table := tableLaw_cold _ _ _ _ _
  context := contextLaw_cold _ _ _ _ _
  profile := profileLaw_cold _ _ _ _ _
  journal := journalLaw_cold _ _ _ _ _
  printer := printerLaw_cold _ _ _ _ _
  uplink := uplinkLaw_cold _ _ _ _ _
  composed := composedLaw_cold _ _ _ _ _
  lamp := lampLaw_cold _ _ _ _ _

end

end Sys2Proof.Machine

open Sys2Proof Sys2Proof.Machine

/-- Settles O58: the state after reset is a COLD reset's. -/
theorem resetIsSound : Obligations.ResetIsSound := sound_cold _ _ _ _ _
end

section
/-! PROOF. What one kind of work may change. A request or an event is a chain of operations; each operation is described
once by a relation that composes: `PlainTo` for the laws that hold by themselves, `WorkTo` for the work on positions, cash,
table and journal, `PrintTo` for the print unit and `UplinkTo` for the uplink. -/

namespace Sys2Proof.Machine

/-! ### The laws that hold by themselves -/

/-- From `s` to `t` no station line's replies have changed, and the laws of clock, configuration, notices and locks are
kept; a RESTART's reset is newly pending only where SL has a request in work. -/
structure State.PlainTo (s t : State) : Prop where
  line : ∀ l, (t.link l).transmit = (s.link l).transmit ∧ (t.link l).inWork = (s.link l).inWork
  power : t.alive = s.alive
  restart : t.supply.restartPending = true → s.supply.restartPending = true ∨ (s.link .sl).inWork = true
  clock : s.ClockLaw → t.ClockLaw
  settings : s.settings.InRange → t.settings.InRange
  notice : s.NoticeLaw → t.NoticeLaw
  lock : s.LockLaw → t.LockLaw

theorem State.PlainTo.refl (s : State) : s.PlainTo s :=
  ⟨fun _ => ⟨rfl, rfl⟩, rfl, Or.inl, id, id, id, id⟩

theorem State.PlainTo.trans {s t u : State} (h : s.PlainTo t) (k : t.PlainTo u) : s.PlainTo u where
  line l := ⟨(k.line l).1.trans (h.line l).1, (k.line l).2.trans (h.line l).2⟩
  power := k.power.trans h.power
  restart p := (k.restart p).elim h.restart fun w => Or.inr ((h.line .sl).2 ▸ w)
  clock := k.clock ∘ h.clock
  settings := k.settings ∘ h.settings
  notice := k.notice ∘ h.notice
  lock := k.lock ∘ h.lock

theorem State.PlainTo.ite {s t u : State} {c : Prop} [Decidable c] (h : c → s.PlainTo t) (k : ¬c → s.PlainTo u) :
    s.PlainTo (if c then t else u) := by
  split
  · next hc => exact h hc
  · next hc => exact k hc

/-! ### The entry of a position across the tables -/

/-- Position `m`'s entries in the tables of positions, amounts, drawers, overrides, contexts and profiles stand. -/
structure State.SameAt (s t : State) (m : Fin 8) : Prop where
  pos : t.pos m = s.pos m
  amount : (t.window m).amount = (s.window m).amount
  drawer : t.drawer m = s.drawer m
  high : t.cash.high.get m = s.cash.high.get m
  overrides : t.dct.overrides m = s.dct.overrides m
  context : t.context m = s.context m
  profile : t.profile m = s.profile m

theorem State.SameAt.trans {s t u : State} {m : Fin 8} (h : s.SameAt t m) (k : t.SameAt u m) : s.SameAt u m where
  pos := k.pos.trans h.pos
  amount := k.amount.trans h.amount
  drawer := k.drawer.trans h.drawer
  high := k.high.trans h.high
  overrides := k.overrides.trans h.overrides
  context := k.context.trans h.context
  profile := k.profile.trans h.profile

/-- Where the tables stand, every position's entries do. -/
theorem State.SameAt.of_parts {s t : State} (m : Fin 8) (positions : t.positions = s.positions)
    (windows : t.windows = s.windows) (cash : t.cash = s.cash) (dct : t.dct = s.dct) (bal : t.bal = s.bal) : s.SameAt t m where
  pos := by simp only [State.pos, positions]
  amount := by simp only [State.window, windows]
  drawer := by simp only [State.drawer, cash]
  high := by simp only [cash]
  overrides := by simp only [dct]
  context := by simp only [State.context, bal]
  profile := by simp only [State.profile, bal]

/-! ### Work on positions, cash, the dual-control table and the journal -/

/-- From `s` to `t` the positions that `touched` names may have been worked on; the rest of the part stands. -/
structure State.WorkTo (touched : Fin 8 → Prop) (s t : State) : Prop where
  same : ∀ m, ¬touched m → s.SameAt t m
  pending : t.pending = s.pending := by simp
  supply : t.supply = s.supply := by simp
  day : t.day = s.day := by simp
  settings : t.settings = s.settings := by simp
  pbu : t.pbu = s.pbu := by simp
  ulc : t.ulc = s.ulc := by simp
  faces : t.cash.faces = s.cash.faces := by simp
  line : ∀ l, (t.link l).transmit = (s.link l).transmit ∧ (t.link l).inWork = (s.link l).inWork := by exact fun _ => ⟨rfl, rfl⟩
  notice : s.NoticeLaw → t.NoticeLaw := by exact id
  lock : s.LockLaw → t.LockLaw := by exact id
  layers : ∀ m, t.window m = { s.window m with amount := (t.window m).amount } := by exact fun _ => rfl
  next : s.jnl.next ≤ t.jnl.next := by exact Nat.le_refl _
  grow : s.cash.cashIn ≤ t.cash.cashIn ∧ s.cash.cashOut ≤ t.cash.cashOut ∧ s.cash.dayOver ≤ t.cash.dayOver ∧
    s.cash.dayShort ≤ t.cash.dayShort := by exact ⟨Nat.le_refl _, Nat.le_refl _, Nat.le_refl _, Nat.le_refl _⟩

section
variable {touched : Fin 8 → Prop}

theorem State.WorkTo.refl (s : State) : s.WorkTo touched s where
  same m _ := .of_parts m rfl rfl rfl rfl rfl

theorem State.WorkTo.trans {s t u : State} (h : s.WorkTo touched t) (k : t.WorkTo touched u) : s.WorkTo touched u where
  same m hm := (h.same m hm).trans (k.same m hm)
  pending := k.pending.trans h.pending
  supply := k.supply.trans h.supply
  day := k.day.trans h.day
  settings := k.settings.trans h.settings
  pbu := k.pbu.trans h.pbu
  ulc := k.ulc.trans h.ulc
  faces := k.faces.trans h.faces
  line l := ⟨(k.line l).1.trans (h.line l).1, (k.line l).2.trans (h.line l).2⟩
  notice := k.notice ∘ h.notice
  lock := k.lock ∘ h.lock
  layers m := by rw [k.layers m, h.layers m]
  next := Nat.le_trans h.next k.next
  grow :=
    let ⟨a, b, c, d⟩ := h.grow
    let ⟨a', b', c', d'⟩ := k.grow
    ⟨Nat.le_trans a a', Nat.le_trans b b', Nat.le_trans c c', Nat.le_trans d d'⟩

theorem State.WorkTo.ite {s t u : State} {c : Prop} [Decidable c] (h : c → s.WorkTo touched t) (k : ¬c → s.WorkTo touched u) :
    s.WorkTo touched (if c then t else u) := by
  split
  · next hc => exact h hc
  · next hc => exact k hc

theorem State.WorkTo.plain {s t : State} (h : s.WorkTo touched t) : s.PlainTo t where
  line := h.line
  power := State.alive_of_supply h.supply
  restart p := Or.inl (h.supply ▸ p)
  clock c := by rw [State.ClockLaw, h.day]; exact c
  settings c := by rw [h.settings]; exact c
  notice := h.notice
  lock := h.lock

/-! ### Notices -/

theorem line_notify (s : State) (k : Notice) (l j : Link) :
    ((s.notify k l).link j).transmit = (s.link j).transmit ∧ ((s.notify k l).link j).inWork = (s.link j).inWork := by
  rw [link_notify_frame]
  exact ⟨rfl, rfl⟩

theorem noticeLaw_notify {s : State} (k : Notice) (l : Link) (h : s.NoticeLaw) : (s.notify k l).NoticeLaw := by
  intro j q hq
  rw [notices_notify, h j q hq, Bool.false_or]
  by_cases e : q = k ∧ j = l
  · obtain ⟨rfl, rfl⟩ := e
    simp [hq]
  · rcases not_and_or.1 e with e | e <;> simp [e]

theorem pos_notify (s : State) (k : Notice) (l : Link) (m : Fin 8) : (s.notify k l).pos m = s.pos m := by
  simp [State.pos]

/-- A lock law that positions alone decide. -/
theorem lockLaw_of_positions {s t : State} (h : t.positions = s.positions) : s.LockLaw → t.LockLaw := by
  intro lock n
  simp only [State.pos, h]
  exact lock n

theorem workTo_notify (s : State) (k : Notice) (l : Link) : s.WorkTo touched (s.notify k l) where
  same m _ := .of_parts m (by simp) (by simp) (by simp) (by simp) (by simp)
  line := line_notify s k l
  notice := noticeLaw_notify k l
  lock := lockLaw_of_positions (by simp)
  layers m := by simp [State.window]
  next := by simp
  grow := by simp

/-! ### One position's record -/

/-- A release window runs only on a RELEASED lock with the drawer SHUT (03 R50). -/
def Position.LockLaw (p : Position) : Prop := p.window ≠ none → p.lock = .released ∧ p.sensor = .shut

theorem lockLaw_onPos {s : State} {n : Fin 8} {f : Position → Position} (hf : (s.pos n).LockLaw → (f (s.pos n)).LockLaw)
    (h : s.LockLaw) : (s.onPos n f).LockLaw := by
  intro m
  by_cases hm : m = n
  · subst hm
    rw [State.pos_onPos_self]
    exact hf (h m)
  · rw [State.pos_onPos_ne _ _ hm]
    exact h m

theorem workTo_onPos {n : Fin 8} (s : State) (f : Position → Position) (hn : touched n)
    (hf : (s.pos n).LockLaw → (f (s.pos n)).LockLaw) : s.WorkTo touched (s.onPos n f) where
  same m hm := {
    pos := State.pos_onPos_ne _ _ fun e => hm (e ▸ hn)
    amount := rfl, drawer := rfl, high := rfl, overrides := rfl, context := rfl, profile := rfl }
  lock := lockLaw_onPos hf

theorem workTo_movePos {n : Fin 8} (s : State) (st : PosState) (hn : touched n) : s.WorkTo touched (s.movePos n st) :=
  (workTo_onPos s _ hn id).trans (workTo_notify _ _ _)

theorem Position.lockLaw_release {p : Position} (h : p.LockLaw) : p.release.LockLaw := by
  unfold Position.release
  split
  · next hs => exact fun _ => ⟨rfl, hs⟩
  · exact h
  · exact fun w => absurd rfl w

theorem Position.lockLaw_secure (p : Position) : p.secure.LockLaw := fun w => absurd rfl w

theorem workTo_release {n : Fin 8} (s : State) (hn : touched n) : s.WorkTo touched (s.release n) :=
  workTo_onPos s _ hn Position.lockLaw_release

/-! ### Windows, profiles, contexts and outcomes -/

theorem workTo_setAmount {n : Fin 8} (s : State) (a : Option Nat) (hn : touched n) : s.WorkTo touched (s.setAmount n a) where
  same m hm := {
    amount := by rw [State.setAmount, State.window_onWindow_ne _ _ (show m ≠ n from fun e => hm (e ▸ hn))]
    pos := rfl, drawer := rfl, high := rfl, overrides := rfl, context := rfl, profile := rfl }
  pending := rfl
  supply := rfl
  day := rfl
  settings := rfl
  pbu := rfl
  ulc := rfl
  faces := rfl
  layers m := by
    by_cases hm : m = n
    · subst hm
      simp [State.setAmount]
    · rw [State.setAmount, State.window_onWindow_ne _ _ hm]

theorem State.profile_onProfile_ne (s : State) {n m : Fin 8} (f : Profile → Profile) (h : m ≠ n) :
    (s.onProfile n f).profile m = s.profile m := by
  simp [State.profile, State.onProfile, Vec.get_modify, h]

theorem State.context_onContext_ne (s : State) {n m : Fin 8} (f : Context → Context) (h : m ≠ n) :
    (s.onContext n f).context m = s.context m := by
  simp [State.context, State.onContext, Vec.get_modify, h]

theorem workTo_onProfile {n : Fin 8} (s : State) (f : Profile → Profile) (hn : touched n) :
    s.WorkTo touched (s.onProfile n f) where
  same m hm := {
    profile := State.profile_onProfile_ne _ _ fun e => hm (e ▸ hn)
    pos := rfl, amount := rfl, drawer := rfl, high := rfl, overrides := rfl, context := rfl }

theorem workTo_onContext {n : Fin 8} (s : State) (f : Context → Context) (hn : touched n) :
    s.WorkTo touched (s.onContext n f) where
  same m hm := {
    context := State.context_onContext_ne _ _ fun e => hm (e ▸ hn)
    pos := rfl, amount := rfl, drawer := rfl, high := rfl, overrides := rfl, profile := rfl }

theorem workTo_setOutcome (s : State) (n : Fin 8) (o : OverrideOutcome) : s.WorkTo touched (s.setOutcome n o) where
  same m _ := ⟨rfl, rfl, rfl, rfl, rfl, rfl, rfl⟩

/-! ### The journal -/

/-- A journal whose numbering has not gone back. -/
theorem workTo_setJnl (s : State) (j : Journal) (h : s.jnl.next ≤ j.next) : s.WorkTo touched { s with jnl := j } where
  same m _ := ⟨rfl, rfl, rfl, rfl, rfl, rfl, rfl⟩
  next := h

theorem workTo_append (s : State) (r : Record) : s.WorkTo touched (s.append r) := by
  simp only [State.append]
  split
  · exact (workTo_setJnl s _ (Nat.le_succ _)).trans (workTo_notify _ _ _)
  · exact workTo_setJnl s _ (Nat.le_succ _)

theorem workTo_appendSystem (s : State) (r : Record) : s.WorkTo touched (s.appendSystem r) := by
  unfold State.appendSystem
  split
  · exact workTo_append s r
  · exact workTo_setJnl s _ (Nat.le_refl _)

/-! ### Cash -/

theorem drawer_setDrawer_self (s : State) (n : Fin 8) (r : CashRecord) : (s.setDrawer n r).drawer n = r := by
  simp [State.drawer, State.setDrawer]
theorem drawer_setDrawer_ne (s : State) {n m : Fin 8} (r : CashRecord) (h : m ≠ n) : (s.setDrawer n r).drawer m = s.drawer m := by
  simp [State.drawer, State.setDrawer, Vec.get_set, h]

theorem workTo_setDrawer {n : Fin 8} (s : State) (r : CashRecord) (hn : touched n) : s.WorkTo touched (s.setDrawer n r) where
  same m hm := {
    drawer := drawer_setDrawer_ne _ _ fun e => hm (e ▸ hn)
    pos := rfl, amount := rfl, high := rfl, overrides := rfl, context := rfl, profile := rfl }
  pending := rfl
  supply := rfl
  day := rfl
  settings := rfl
  pbu := rfl
  ulc := rfl
  faces := rfl

/-- A cash unit that differs in the vault and in counters that have grown. -/
theorem workTo_setCash (s : State) (c : Cash) (drawers : c.drawers = s.cash.drawers) (high : c.high = s.cash.high)
    (faces : c.faces = s.cash.faces) (grow : s.cash.cashIn ≤ c.cashIn ∧ s.cash.cashOut ≤ c.cashOut ∧
      s.cash.dayOver ≤ c.dayOver ∧ s.cash.dayShort ≤ c.dayShort) : s.WorkTo touched { s with cash := c } where
  same m _ := {
    drawer := by simp only [State.drawer, drawers]
    high := by simp only [high]
    pos := rfl, amount := rfl, overrides := rfl, context := rfl, profile := rfl }
  faces := faces
  grow := grow

theorem workTo_setHigh {n : Fin 8} (s : State) (b : Bool) (hn : touched n) :
    s.WorkTo touched { s with cash := { s.cash with high := s.cash.high.set n b } } where
  same m hm := {
    high := Vec.get_set_ne _ _ fun e => hm (e ▸ hn)
    pos := rfl, amount := rfl, drawer := rfl, overrides := rfl, context := rfl, profile := rfl }

theorem workTo_rearm {n : Fin 8} (s : State) (hn : touched n) : s.WorkTo touched (s.rearm n) := by
  unfold State.rearm
  split
  · exact workTo_setHigh s false hn
  · exact .refl s

theorem workTo_judgeHigh {n : Fin 8} (s : State) (hn : touched n) : s.WorkTo touched (s.judgeHigh n) := by
  unfold State.judgeHigh
  split
  · exact (workTo_setHigh s true hn).trans (workTo_notify _ _ _)
  · exact workTo_rearm s hn

theorem workTo_moveCash {n : Fin 8} (s : State) (dir : CashDir) (amount : Nat) (lines : List Line) (hn : touched n) :
    s.WorkTo touched (s.moveCash n dir amount lines) := by
  unfold State.moveCash
  split
  · exact .refl s
  · refine (workTo_setDrawer s _ hn).trans (workTo_setCash _ _ rfl rfl rfl ⟨?_, ?_, Nat.le_refl _, Nat.le_refl _⟩)
    · show s.cash.cashIn ≤ if dir = .inward then s.cash.cashIn + amount else s.cash.cashIn
      split <;> omega
    · show s.cash.cashOut ≤ if dir = .outward then s.cash.cashOut + amount else s.cash.cashOut
      split <;> omega

theorem workTo_setHolding (s : State) (h : Holder) (r : CashRecord) (hn : ∀ n, h = .drawer n → touched n) :
    s.WorkTo touched (s.setHolding h r) := by
  cases h with
  | drawer n => exact workTo_setDrawer s r (hn n rfl)
  | vault => exact workTo_setCash s _ rfl rfl rfl ⟨Nat.le_refl _, Nat.le_refl _, Nat.le_refl _, Nat.le_refl _⟩

theorem workTo_movePieces (s : State) (src dst : Holder) (lines : List Line) (hs : ∀ n, src = .drawer n → touched n)
    (hd : ∀ n, dst = .drawer n → touched n) : s.WorkTo touched (s.movePieces src dst lines) :=
  (workTo_setHolding s src _ hs).trans (workTo_setHolding _ dst _ hd)

theorem workTo_addDifference (s : State) (d : Int) : s.WorkTo touched { s with cash := s.cash.addDifference d } := by
  refine workTo_setCash s _ rfl rfl rfl ⟨Nat.le_refl _, Nat.le_refl _, ?_, ?_⟩
  · show s.cash.dayOver ≤ if 0 < d then s.cash.dayOver + d.natAbs else s.cash.dayOver
    split <;> omega
  · show s.cash.dayShort ≤ if d < 0 then s.cash.dayShort + d.natAbs else s.cash.dayShort
    split <;> omega

theorem workTo_putAway {n : Fin 8} (s : State) (hn : touched n) : s.WorkTo touched (s.putAway n) :=
  ((workTo_setCash s { s.cash with vault := s.vaultAfterPutAway n } rfl rfl rfl
    ⟨Nat.le_refl _, Nat.le_refl _, Nat.le_refl _, Nat.le_refl _⟩).trans (workTo_setDrawer _ _ hn)).trans (workTo_rearm _ hn)

theorem workTo_appendDifference (s : State) (d : Int) (place : Place) (teller : Nat) :
    s.WorkTo touched (s.appendDifference d place teller) := by
  unfold State.appendDifference
  split
  · exact .refl s
  · exact workTo_appendSystem _ _

/-! ### The dual-control table -/

/-- A table that holds the same overrides of every position not touched. -/
theorem workTo_setDct (s : State) (d : Dct) (h : ∀ m, ¬touched m → d.overrides m = s.dct.overrides m) :
    s.WorkTo touched { s with dct := d } where
  same m hm := {
    overrides := h m hm
    pos := rfl, amount := rfl, drawer := rfl, high := rfl, context := rfl, profile := rfl }

end

/-! ### The print unit -/

/-- What an operation on book marks, claims and links leaves of a record. -/
def Record.MarkedTo (r q : Record) : Prop := q.seq = r.seq ∧ q.kind = r.kind ∧ q.sent = r.sent ∧ (r.Law → q.Law)

theorem Record.MarkedTo.refl (r : Record) : r.MarkedTo r := ⟨rfl, rfl, rfl, id⟩
theorem Record.MarkedTo.trans {r q w : Record} (h : r.MarkedTo q) (k : q.MarkedTo w) : r.MarkedTo w :=
  ⟨k.1.trans h.1, k.2.1.trans h.2.1, k.2.2.1.trans h.2.2.1, k.2.2.2 ∘ h.2.2.2⟩

/-- From `j` to `k` marks and carry items alone have changed. -/
structure Journal.MarksTo (j k : Journal) : Prop where
  records : List.Forall₂ Record.MarkedTo j.records k.records
  next : k.next = j.next
  unjournaled : k.unjournaled = j.unjournaled
  carry : k.carry.length ≤ j.carry.length

theorem forall₂_trans {α : Type} {R : α → α → Prop} (hR : ∀ {a b c}, R a b → R b c → R a c) {l m n : List α}
    (h : List.Forall₂ R l m) (k : List.Forall₂ R m n) : List.Forall₂ R l n := by
  induction h generalizing n with
  | nil => exact k
  | cons hab _ ih =>
    cases k with
    | cons hbc k => exact .cons (hR hab hbc) (ih k)

theorem Journal.MarksTo.refl (j : Journal) : j.MarksTo j :=
  ⟨List.forall₂_same.2 fun r _ => .refl r, rfl, rfl, Nat.le_refl _⟩

theorem Journal.MarksTo.trans {j k l : Journal} (h : j.MarksTo k) (g : k.MarksTo l) : j.MarksTo l where
  records := forall₂_trans (R := Record.MarkedTo) (fun a b => a.trans b) h.records g.records
  next := g.next.trans h.next
  unjournaled := g.unjournaled.trans h.unjournaled
  carry := Nat.le_trans g.carry h.carry

/-- Every record changed by a function that changes marks alone. -/
theorem Journal.marksTo_map {j k : Journal} (f : Record → Record) (hf : ∀ r : Record, r.MarkedTo (f r))
    (records : k.records = j.records.map f) (next : k.next = j.next) (unjournaled : k.unjournaled = j.unjournaled)
    (carry : k.carry.length ≤ j.carry.length) : j.MarksTo k where
  records := by
    rw [records, List.forall₂_map_right_iff, List.forall₂_same]
    exact fun r _ => hf r
  next := next
  unjournaled := unjournaled
  carry := carry

/-- From `s` to `t` the print unit, the journal's marks and the notices may have changed; the rest of the part stands. -/
structure State.PrintTo (s t : State) : Prop where
  pending : t.pending = s.pending := by simp
  supply : t.supply = s.supply := by simp
  day : t.day = s.day := by simp
  settings : t.settings = s.settings := by simp
  positions : t.positions = s.positions := by simp
  cash : t.cash = s.cash := by simp
  dct : t.dct = s.dct := by simp
  bal : t.bal = s.bal := by simp
  windows : t.windows = s.windows := by simp
  ulc : t.ulc = s.ulc := by simp
  line : ∀ l, (t.link l).transmit = (s.link l).transmit ∧ (t.link l).inWork = (s.link l).inWork := by exact fun _ => ⟨rfl, rfl⟩
  notice : s.NoticeLaw → t.NoticeLaw := by exact id
  marks : s.jnl.MarksTo t.jnl := by exact .refl _

theorem State.PrintTo.refl (s : State) : s.PrintTo s where

theorem State.PrintTo.trans {s t u : State} (h : s.PrintTo t) (k : t.PrintTo u) : s.PrintTo u where
  pending := k.pending.trans h.pending
  supply := k.supply.trans h.supply
  day := k.day.trans h.day
  settings := k.settings.trans h.settings
  positions := k.positions.trans h.positions
  cash := k.cash.trans h.cash
  dct := k.dct.trans h.dct
  bal := k.bal.trans h.bal
  windows := k.windows.trans h.windows
  ulc := k.ulc.trans h.ulc
  line l := ⟨(k.line l).1.trans (h.line l).1, (k.line l).2.trans (h.line l).2⟩
  notice := k.notice ∘ h.notice
  marks := h.marks.trans k.marks

theorem State.PrintTo.ite {s t u : State} {c : Prop} [Decidable c] (h : c → s.PrintTo t) (k : ¬c → s.PrintTo u) :
    s.PrintTo (if c then t else u) := by
  split
  · next hc => exact h hc
  · next hc => exact k hc

theorem State.PrintTo.plain {s t : State} (h : s.PrintTo t) : s.PlainTo t where
  line := h.line
  power := State.alive_of_supply h.supply
  restart p := Or.inl (h.supply ▸ p)
  clock c := by rw [State.ClockLaw, h.day]; exact c
  settings c := by rw [h.settings]; exact c
  notice := h.notice
  lock := lockLaw_of_positions h.positions

/-! ### The uplink -/

/-- From `s` to `t` the uplink and the notices may have changed; the rest of the part stands. -/
structure State.UplinkTo (s t : State) : Prop where
  pending : t.pending = s.pending := by simp
  supply : t.supply = s.supply := by simp
  day : t.day = s.day := by simp
  settings : t.settings = s.settings := by simp
  positions : t.positions = s.positions := by simp
  cash : t.cash = s.cash := by simp
  dct : t.dct = s.dct := by simp
  bal : t.bal = s.bal := by simp
  jnl : t.jnl = s.jnl := by simp
  pbu : t.pbu = s.pbu := by simp
  windows : t.windows = s.windows := by simp
  line : ∀ l, (t.link l).transmit = (s.link l).transmit ∧ (t.link l).inWork = (s.link l).inWork := by exact fun _ => ⟨rfl, rfl⟩
  notice : s.NoticeLaw → t.NoticeLaw := by exact id

theorem State.UplinkTo.refl (s : State) : s.UplinkTo s where

theorem State.UplinkTo.trans {s t u : State} (h : s.UplinkTo t) (k : t.UplinkTo u) : s.UplinkTo u where
  pending := k.pending.trans h.pending
  supply := k.supply.trans h.supply
  day := k.day.trans h.day
  settings := k.settings.trans h.settings
  positions := k.positions.trans h.positions
  cash := k.cash.trans h.cash
  dct := k.dct.trans h.dct
  bal := k.bal.trans h.bal
  jnl := k.jnl.trans h.jnl
  pbu := k.pbu.trans h.pbu
  windows := k.windows.trans h.windows
  line l := ⟨(k.line l).1.trans (h.line l).1, (k.line l).2.trans (h.line l).2⟩
  notice := k.notice ∘ h.notice

theorem State.UplinkTo.ite {s t u : State} {c : Prop} [Decidable c] (h : c → s.UplinkTo t) (k : ¬c → s.UplinkTo u) :
    s.UplinkTo (if c then t else u) := by
  split
  · next hc => exact h hc
  · next hc => exact k hc

theorem State.UplinkTo.plain {s t : State} (h : s.UplinkTo t) : s.PlainTo t where
  line := h.line
  power := State.alive_of_supply h.supply
  restart p := Or.inl (h.supply ▸ p)
  clock c := by rw [State.ClockLaw, h.day]; exact c
  settings c := by rw [h.settings]; exact c
  notice := h.notice
  lock := lockLaw_of_positions h.positions

end Sys2Proof.Machine
end

section
/-! PROOF. Postings, voids, dual control, signing on and off, drawers and balancing as chains of the operations described
above: which positions each may have worked on. -/

namespace Sys2Proof.Machine

section
variable {touched : Fin 8 → Prop} {n : Fin 8} (s : State)

/-! ### Postings and voids (04 R70, R75) -/

theorem workTo_afterMovement (dir : CashDir) (amount : Nat) (hn : touched n) :
    s.WorkTo touched (s.afterMovement n dir amount) := by
  have marks := (workTo_onProfile s (Profile.addPosting dir amount) hn).trans (workTo_setAmount _ (some amount) hn)
  unfold State.afterMovement
  split
  · exact marks
  · exact (marks.trans (workTo_release _ hn)).trans (workTo_judgeHigh _ hn)

theorem workTo_makePosting (p : Posting) (hn : touched n) : s.WorkTo touched (s.makePosting n p) :=
  ((workTo_moveCash s _ _ _ hn).trans (workTo_append _ _)).trans (workTo_afterMovement _ _ _ hn)

theorem workTo_makeVoid (r : Record) (k : PostKind) (lines : List Line) (hn : touched n) :
    s.WorkTo touched (s.makeVoid n r k lines) :=
  (((workTo_moveCash s k.reversalDir r.amount lines hn).trans
    (workTo_setJnl _ ((s.moveCash n k.reversalDir r.amount lines).jnl.void r.seq s.jnl.next) (Nat.le_refl _))).trans
    (workTo_append _ _)).trans (workTo_afterMovement _ _ _ hn)

/-! ### The dual-control table (05) -/

/-- The entries of an id are overrides of touched positions alone. -/
def Dct.IdTouches (touched : Fin 8 → Prop) (d : Dct) (id : Nat) : Prop :=
  ∀ e ∈ d.entries, e.id = id → ∀ m, e.isOverrideOf m = true → touched m

theorem Dct.idTouches_all (d : Dct) (id : Nat) : d.IdTouches (fun _ => True) id := fun _ _ _ _ _ => trivial

theorem Dct.overrides_drop {d : Dct} {id : Nat} {m : Fin 8} (h : ∀ e ∈ d.entries, e.id = id → e.isOverrideOf m = false) :
    (d.drop id).overrides m = d.overrides m := by
  unfold Dct.overrides Dct.drop
  rw [List.filter_filter]
  congr 1
  apply List.filter_congr
  intro e he
  by_cases hid : e.id = id
  · simp [h e he hid]
  · simp [hid]

theorem workTo_dropEntry (id : Nat) (h : s.dct.IdTouches touched id) : s.WorkTo touched (s.dropEntry id) :=
  workTo_setDct s _ fun m hm => Dct.overrides_drop fun e he hid =>
    Bool.eq_false_iff.2 fun ho => hm (h e he hid m ho)

theorem Dct.overrides_create (d : Dct) (proposer confirmer : Link) (amount remaining : Nat) (pr : Proposal) (m : Fin 8) :
    (d.create proposer confirmer amount remaining pr).overrides m =
      d.overrides m + (if Entry.isOverrideOf m ⟨d.freshId, proposer, confirmer, amount, remaining, pr⟩ then 1 else 0) := by
  unfold Dct.overrides Dct.create
  rw [List.filter_append, List.length_append]
  congr 1
  split <;> simp [*]

theorem workTo_holdPosting (p : Posting) (hn : touched n) : s.WorkTo touched (s.holdPosting n p) := by
  refine ((((workTo_setDct s _ fun m hm => ?_).trans (workTo_setOutcome _ n _)).trans (workTo_notify _ _ _)).trans
    (workTo_movePos _ _ hn))
  have other : Entry.isOverrideOf m ⟨s.dct.freshId, .tl n, .sl, p.amount, s.settings.overrideExpiry * 100, .override n p⟩ =
      false := decide_eq_false fun e : n = m => hm (e ▸ hn)
  rw [Dct.overrides_create, other]
  rfl

theorem workTo_createTransfer (l confirmer : Link) (b : ProposeBody) : s.WorkTo touched (s.createTransfer l confirmer b) :=
  (workTo_setDct s _ fun _ _ => Dct.overrides_create _ _ _ _ _ _ _).trans (workTo_notify _ _ _)

theorem workTo_releaseHolder (h : Holder) (hn : ∀ n, h = .drawer n → touched n) : s.WorkTo touched (s.releaseHolder h) := by
  cases h with
  | drawer n => exact workTo_release s (hn n rfl)
  | vault => exact .refl s

theorem workTo_judgeHolder (h : Holder) (hn : ∀ n, h = .drawer n → touched n) : s.WorkTo touched (s.judgeHolder h) := by
  cases h with
  | drawer n => exact workTo_judgeHigh s (hn n rfl)
  | vault => exact .refl s

/-- A transfer's change of drawers, before its entry leaves the table (05 R91). -/
def State.movedTransfer (s : State) (e : Entry) (src dst : Holder) (lines : List Line) : State :=
  (((((s.movePieces src dst lines).appendSystem (s.transferRecord e src dst)).releaseHolder src).releaseHolder dst).judgeHolder
    src).judgeHolder dst

theorem makeTransfer_eq (e : Entry) (src dst : Holder) (lines : List Line) :
    s.makeTransfer e src dst lines =
      (((s.movedTransfer e src dst lines).dropEntry e.id).notify .transferDone e.proposer).notify .transferDone e.confirmer := rfl

theorem workTo_movedTransfer (e : Entry) (src dst : Holder) (lines : List Line) (hs : ∀ n, src = .drawer n → touched n)
    (hd : ∀ n, dst = .drawer n → touched n) : s.WorkTo touched (s.movedTransfer e src dst lines) :=
  (((((workTo_movePieces s src dst lines hs hd).trans (workTo_appendSystem _ _)).trans (workTo_releaseHolder _ src hs)).trans
    (workTo_releaseHolder _ dst hd)).trans (workTo_judgeHolder _ src hs)).trans (workTo_judgeHolder _ dst hd)

@[simp] theorem dct_release (n : Fin 8) : (s.release n).dct = s.dct := rfl
@[simp] theorem dct_rearm (n : Fin 8) : (s.rearm n).dct = s.dct := by unfold State.rearm; split <;> rfl
@[simp] theorem dct_judgeHigh (n : Fin 8) : (s.judgeHigh n).dct = s.dct := by unfold State.judgeHigh; split <;> simp
@[simp] theorem dct_moveCash (n : Fin 8) (dir : CashDir) (amount : Nat) (lines : List Line) :
    (s.moveCash n dir amount lines).dct = s.dct := by
  unfold State.moveCash
  split <;> rfl
@[simp] theorem dct_afterMovement (n : Fin 8) (dir : CashDir) (amount : Nat) : (s.afterMovement n dir amount).dct = s.dct := by
  unfold State.afterMovement
  split
  · rfl
  · rw [dct_judgeHigh]
    rfl
@[simp] theorem dct_makePosting (n : Fin 8) (p : Posting) : (s.makePosting n p).dct = s.dct := by simp [State.makePosting]

theorem dct_setHolding (h : Holder) (r : CashRecord) : (s.setHolding h r).dct = s.dct := by cases h <;> rfl
theorem dct_movePieces (src dst : Holder) (lines : List Line) : (s.movePieces src dst lines).dct = s.dct :=
  (dct_setHolding _ _ _).trans (dct_setHolding _ _ _)
theorem dct_releaseHolder (h : Holder) : (s.releaseHolder h).dct = s.dct := by cases h <;> rfl
theorem dct_judgeHolder (h : Holder) : (s.judgeHolder h).dct = s.dct := by
  cases h
  · exact dct_judgeHigh s _
  · rfl
theorem dct_movedTransfer (e : Entry) (src dst : Holder) (lines : List Line) :
    (s.movedTransfer e src dst lines).dct = s.dct := by
  rw [State.movedTransfer, dct_judgeHolder, dct_judgeHolder, dct_releaseHolder, dct_releaseHolder, State.dct_appendSystem,
    dct_movePieces]

theorem workTo_makeTransfer (e : Entry) (src dst : Holder) (lines : List Line) (hs : ∀ n, src = .drawer n → touched n)
    (hd : ∀ n, dst = .drawer n → touched n) (he : s.dct.IdTouches touched e.id) :
    s.WorkTo touched (s.makeTransfer e src dst lines) := by
  rw [makeTransfer_eq]
  refine ((workTo_movedTransfer s e src dst lines hs hd).trans (workTo_dropEntry _ _ ?_)).trans
    ((workTo_notify _ _ _).trans (workTo_notify _ _ _))
  rw [dct_movedTransfer]
  exact he

theorem workTo_endOverride (e : Entry) (o : OverrideOutcome) (hn : touched n) (he : s.dct.IdTouches touched e.id) :
    s.WorkTo touched (s.endOverride e n o) :=
  ((workTo_dropEntry s _ he).trans (workTo_setOutcome _ n o)).trans (workTo_movePos _ _ hn)

theorem workTo_makeHeld (e : Entry) (p : Posting) (hn : touched n) (he : s.dct.IdTouches touched e.id) :
    s.WorkTo touched (s.makeHeld e n p) := by
  refine (((workTo_makePosting s p hn).trans (workTo_onProfile _ _ hn)).trans (workTo_endOverride _ e _ hn ?_)).trans
    (workTo_notify _ _ _)
  rw [State.dct_onProfile, dct_makePosting]
  exact he

theorem workTo_failHeld (e : Entry) (c : Code) (hn : touched n) (he : s.dct.IdTouches touched e.id) :
    s.WorkTo touched (s.failHeld e n c) :=
  (workTo_endOverride s e _ hn he).trans (workTo_notify _ _ _)

/-- The position whose override an entry is, is touched. -/
def Entry.OverrideTouches (touched : Fin 8 → Prop) (e : Entry) : Prop := ∀ m, e.isOverrideOf m = true → touched m

theorem Entry.OverrideTouches.of_proposal {e : Entry} {m : Fin 8} {p : Posting} (h : e.OverrideTouches touched)
    (hp : e.proposal = .override m p) : touched m := h m (by simp [Entry.isOverrideOf, hp])

theorem workTo_decline (e : Entry) (ho : e.OverrideTouches touched) (he : s.dct.IdTouches touched e.id) :
    s.WorkTo touched (s.decline e) := by
  unfold State.decline
  split
  · exact (workTo_dropEntry s _ he).trans (workTo_notify _ _ _)
  · next hp => exact (workTo_endOverride s e _ (ho.of_proposal hp) he).trans (workTo_notify _ _ _)

theorem workTo_withdraw (e : Entry) (ho : e.OverrideTouches touched) (he : s.dct.IdTouches touched e.id) :
    s.WorkTo touched (s.withdraw e) := by
  unfold State.withdraw
  split
  · exact (workTo_dropEntry s _ he).trans (workTo_notify _ _ _)
  · next hp => exact workTo_endOverride s e _ (ho.of_proposal hp) he

theorem workTo_expire (e : Entry) (ho : e.OverrideTouches touched) (he : s.dct.IdTouches touched e.id) :
    s.WorkTo touched (s.expire e) := by
  unfold State.expire
  split
  · exact (workTo_dropEntry s _ he).trans ((workTo_notify _ _ _).trans (workTo_notify _ _ _))
  · next hp => exact (workTo_endOverride s e _ (ho.of_proposal hp) he).trans (workTo_notify _ _ _)

theorem workTo_expireId (id : Nat) (h : s.dct.IdTouches touched id) : s.WorkTo touched (s.expireId id) := by
  unfold State.expireId
  split
  · next e found =>
    have is : e.id = id := by simpa using List.find?_some found
    have member : e ∈ s.dct.entries := List.mem_of_find?_eq_some found
    subst is
    exact workTo_expire s e (fun m ho => h e member rfl m ho) h
  · exact .refl s

/-! ### Removal by a sign-off (05 R96) -/

theorem dct_notify_ite (c : Bool) (k : Notice) (l : Link) : (if c then s.notify k l else s).dct = s.dct := by
  split <;> simp

theorem workTo_notify_ite (c : Bool) (k : Notice) (l : Link) : s.WorkTo touched (if c then s.notify k l else s) := by
  split
  · exact workTo_notify s k l
  · exact .refl s

/-- An entry removed for a sign-off leaves the table. -/
theorem entries_removeFor (forced : Bool) (e : Entry) :
    (State.removeFor n forced s e).dct.entries = s.dct.entries.filter (fun k => k.id != e.id) := by
  unfold State.removeFor
  split
  · rw [dct_notify_ite, dct_notify_ite]
    rfl
  · rfl

theorem workTo_removeFor (forced : Bool) (e : Entry) (h : s.dct.IdTouches touched e.id) :
    s.WorkTo touched (State.removeFor n forced s e) := by
  unfold State.removeFor
  split
  · exact ((workTo_dropEntry s _ h).trans (workTo_notify_ite _ _ _ _)).trans (workTo_notify_ite _ _ _ _)
  · exact (workTo_dropEntry s _ h).trans (workTo_setOutcome _ _ _)

theorem workTo_foldl_removeFor (forced : Bool) (l : List Entry) (h : ∀ e ∈ l, s.dct.IdTouches touched e.id) :
    s.WorkTo touched (l.foldl (State.removeFor n forced) s) := by
  induction l generalizing s with
  | nil => exact .refl s
  | cons e l ih =>
    refine (workTo_removeFor s forced e (h e (List.mem_cons_self ..))).trans (ih _ fun k hk q hq => ?_)
    rw [entries_removeFor] at hq
    exact h k (List.mem_cons_of_mem _ hk) q (List.mem_of_mem_filter hq)

theorem workTo_removeEntries (forced : Bool)
    (h : ∀ e ∈ s.dct.entries, e.names n = true → s.dct.IdTouches touched e.id) :
    s.WorkTo touched (s.removeEntries n forced) :=
  workTo_foldl_removeFor s forced _ fun e he => h e (List.mem_of_mem_filter he) (List.of_mem_filter he)

/-- A sign-off's removal leaves of the table the entries whose id no removed entry has. -/
theorem entries_foldl_removeFor (forced : Bool) (l : List Entry) :
    (l.foldl (State.removeFor n forced) s).dct.entries = s.dct.entries.filter (fun k => l.all fun e => k.id != e.id) := by
  induction l generalizing s with
  | nil => simp
  | cons e l ih =>
    rw [List.foldl_cons, ih, entries_removeFor, List.filter_filter]
    congr 1
    funext k
    simp [Bool.and_comm]

/-! ### Signing on and off, transactions (03) -/

theorem workTo_signOn (id : Nat) (hn : touched n) : s.WorkTo touched (s.signOn n id) :=
  ((workTo_onPos s _ hn fun h => h).trans (workTo_movePos _ _ hn)).trans (workTo_append _ _)

theorem workTo_openTxn (hn : touched n) : s.WorkTo touched (s.openTxn n) :=
  (workTo_onPos s _ hn fun h => h).trans (workTo_movePos _ _ hn)

theorem workTo_endTxn (hn : touched n) : s.WorkTo touched (s.endTxn n) :=
  ((workTo_onPos s _ hn fun h => h).trans (workTo_onProfile _ _ hn)).trans (workTo_setAmount _ _ hn)

theorem workTo_away (hn : touched n) : s.WorkTo touched ((s.onPos n Position.secure).movePos n .away) :=
  (workTo_onPos s _ hn fun _ => Position.lockLaw_secure _).trans (workTo_movePos _ _ hn)

theorem workTo_signOffRecords (before : CashRecord) : s.WorkTo touched (s.signOffRecords n before) := by
  unfold State.signOffRecords
  split
  · exact workTo_appendSystem _ _
  · exact (workTo_appendSystem _ _).trans (workTo_appendSystem _ _)

theorem workTo_close (hn : touched n) : s.WorkTo touched (s.close n) :=
  (workTo_onPos s (fun p => { p.secure with teller := none }) hn fun _ w => absurd rfl w).trans (workTo_movePos _ _ hn)

/-- The end of a signing off, and of a forced one, from its put-away on: the records and the closing (03 R46, R47). -/
theorem workTo_leave (before : CashRecord) (hn : touched n) : s.WorkTo touched ((s.signOffRecords n before).close n) :=
  (workTo_signOffRecords s before).trans (workTo_close _ hn)

theorem dct_putAway (n : Fin 8) : (s.putAway n).dct = s.dct := by
  unfold State.putAway
  rw [dct_rearm]
  rfl

theorem workTo_signOff (hn : touched n) (h : ∀ e ∈ s.dct.entries, e.names n = true → s.dct.IdTouches touched e.id) :
    s.WorkTo touched (s.signOff n) := by
  refine ((workTo_putAway s hn).trans (workTo_removeEntries _ false ?_)).trans (workTo_leave _ _ hn)
  rw [dct_putAway]
  exact h

theorem workTo_endOpenTxn (hn : touched n) : s.WorkTo touched (s.endOpenTxn n) := by
  unfold State.endOpenTxn
  split
  · exact workTo_endTxn s hn
  · exact .refl s

theorem dct_endOpenTxn (n : Fin 8) : (s.endOpenTxn n).dct = s.dct := by
  unfold State.endOpenTxn
  split <;> rfl

/-- A forced sign-off up to the cancelling of the position's print job (03 R47, steps 1 to 3). -/
def State.forcedOut (s : State) (n : Fin 8) : State := ((s.endOpenTxn n).removeEntries n true).endContext n

theorem forceSignOff_eq (n : Fin 8) :
    s.forceSignOff n =
      ((((s.forcedOut n).cancelJob n).putAway n).signOffRecords n (((s.forcedOut n).cancelJob n).drawer n)).close n := rfl

theorem workTo_forcedOut (hn : touched n) (h : ∀ e ∈ s.dct.entries, e.names n = true → s.dct.IdTouches touched e.id) :
    s.WorkTo touched (s.forcedOut n) := by
  refine ((workTo_endOpenTxn s hn).trans (workTo_removeEntries _ true ?_)).trans (workTo_onContext _ _ hn)
  rw [dct_endOpenTxn]
  exact h

/-! ### Drawers and watches (03 R48 to R56) -/

theorem workTo_forcedOpening (hn : touched n) : s.WorkTo touched (s.forcedOpening n) := by
  have marked := (workTo_onPos s (fun p => { p with forced := true }) hn fun h => h).trans (workTo_notify _ .drawerForced .sl)
  exact .ite (fun _ => marked.trans (workTo_appendSystem _ _)) fun _ => marked

theorem workTo_opening (hn : touched n) : s.WorkTo touched (s.opening n) := by
  have opened := workTo_onPos s (Position.open s.settings.openLimit) hn fun _ w => absurd rfl w
  unfold State.opening
  split
  · split
    · exact opened.trans (workTo_forcedOpening _ hn)
    · exact opened
  · exact .refl s

theorem workTo_shutting (hn : touched n) : s.WorkTo touched (s.shutting n) := by
  unfold State.shutting
  split
  · exact workTo_onPos s _ hn fun _ w => absurd rfl w
  · exact .refl s

theorem workTo_windowEnd (hn : touched n) : s.WorkTo touched (s.windowEnd n) := by
  unfold State.windowEnd
  split
  · exact workTo_onPos s _ hn fun _ => Position.lockLaw_secure _
  · exact .refl s

theorem workTo_drawerLong (hn : touched n) : s.WorkTo touched (s.drawerLong n) := by
  unfold State.drawerLong
  split
  · exact ((workTo_onPos s _ hn fun h => h).trans (workTo_notify _ _ _)).trans (workTo_notify _ _ _)
  · exact .refl s

theorem workTo_serviceLong (hn : touched n) : s.WorkTo touched (s.serviceLong n) := by
  unfold State.serviceLong
  split
  · exact (workTo_onPos s _ hn fun h => h).trans (workTo_notify _ _ _)
  · exact .refl s

theorem workTo_idleReached (hn : touched n) : s.WorkTo touched (s.idleReached n) := by
  unfold State.idleReached
  split
  · exact workTo_onPos s _ hn fun h => h
  · exact .refl s

theorem workTo_sense (level : Sensor) (hn : touched n) : s.WorkTo touched (s.onPos n (Position.sense level)) :=
  workTo_onPos s _ hn fun h => h

/-! ### Balancing (06) -/

theorem workTo_beginBalance (hn : touched n) : s.WorkTo touched (s.beginBalance n) :=
  ((workTo_onContext s _ hn).trans (workTo_movePos _ _ hn)).trans (workTo_release _ hn)

theorem workTo_applyDeclaration (counts : Vec 12 Nat) (d : Int) (hn : touched n) :
    s.WorkTo touched (s.applyDeclaration n counts d) :=
  ((((((workTo_setDrawer s _ hn).trans (workTo_addDifference _ d)).trans (workTo_appendDifference _ d _ _)).trans
    (workTo_onProfile _ _ hn)).trans (workTo_rearm _ hn)).trans (workTo_onContext _ _ hn)).trans (workTo_movePos _ _ hn)

theorem workTo_miss (counts : Vec 12 Nat) (d : Int) (hn : touched n) : s.WorkTo touched (s.miss n counts d) := by
  exact .ite (fun _ => workTo_onContext s _ hn) fun _ => (workTo_onContext s _ hn).trans (workTo_movePos _ _ hn)

theorem workTo_countVault (counts : Vec 12 Nat) (d : Int) : s.WorkTo touched (s.countVault counts d) :=
  ((workTo_setCash s { s.cash with vault := CashRecord.make s.cash.faces counts 0 } rfl rfl rfl
    ⟨Nat.le_refl _, Nat.le_refl _, Nat.le_refl _, Nat.le_refl _⟩).trans (workTo_addDifference _ d)).trans
    (workTo_appendSystem _ _)

end

end Sys2Proof.Machine
end

section
/-! PROOF. The print unit's operations (08) change the print unit, the journal's marks and the notices alone. -/

namespace Sys2Proof.Machine

/-! ### Book marks and claims (07 R126 to R128) -/

theorem Journal.marksTo_releaseClaims (j : Journal) (n : Fin 8) : j.MarksTo (j.releaseClaims n) := by
  refine Journal.marksTo_map (Record.unclaim n) (fun r => ?_) rfl rfl rfl (Nat.le_of_eq (List.length_map ..))
  unfold Record.unclaim
  split
  · exact ⟨rfl, rfl, rfl, id⟩
  · exact .refl r

theorem Journal.marksTo_printRecord (j : Journal) (seq page line : Nat) : j.MarksTo (j.printRecord seq page line) := by
  refine Journal.marksTo_map
    (fun r : Record => if r.seq = seq then { r with pending := false, printed := some (page, line) } else r)
    (fun r => ?_) rfl rfl rfl (Nat.le_refl _)
  split
  · exact ⟨rfl, rfl, rfl, fun h => ⟨h.1, fun p => absurd p Bool.false_ne_true, h.2.2⟩⟩
  · exact .refl r

theorem Journal.marksTo_printCarry (j : Journal) (n : Fin 8) : j.MarksTo (j.printCarry n) where
  records := (Journal.MarksTo.refl j).records
  next := rfl
  unjournaled := rfl
  carry := List.length_eraseP_le

theorem length_claimFirst {α : Type} (p : α → Bool) (f : α → α) (k : Nat) (l : List α) : (claimFirst p f k l).length = l.length := by
  induction l generalizing k with
  | nil => cases k <;> rfl
  | cons a l ih =>
    cases k with
    | zero => rfl
    | succ k =>
      rw [claimFirst]
      split <;> simp [ih]

theorem forall₂_claimFirst {α : Type} {R : α → α → Prop} {p : α → Bool} {f : α → α} (refl : ∀ a, R a a) (hf : ∀ a, R a (f a))
    (k : Nat) (l : List α) : List.Forall₂ R l (claimFirst p f k l) := by
  induction l generalizing k with
  | nil => cases k <;> exact .nil
  | cons a l ih =>
    cases k with
    | zero => exact List.forall₂_same.2 fun a _ => refl a
    | succ k =>
      rw [claimFirst]
      split
      · exact .cons (hf a) (ih k)
      · exact .cons (refl a) (ih (k + 1))

theorem Journal.marksTo_claim (j : Journal) (account : Nat) (n : Fin 8) : j.MarksTo (j.claim account n) where
  records := forall₂_claimFirst (f := fun r : Record => { r with claimed := some n }) Record.MarkedTo.refl
    (fun _ => ⟨rfl, rfl, rfl, id⟩) _ _
  next := rfl
  unjournaled := rfl
  carry := Nat.le_of_eq (length_claimFirst ..)

section
variable (s : State)

/-! ### Jobs and assignment (08 R139, R140, R158) -/

theorem printTo_setPbu (u : Pbu) : s.PrintTo { s with pbu := u } where

theorem printTo_onPrinter (p : Fin 2) (f : Printer → Printer) : s.PrintTo (s.onPrinter p f) := printTo_setPbu s _

theorem printTo_setMarks (j : Journal) (u : Pbu) (h : s.jnl.MarksTo j) : s.PrintTo { s with jnl := j, pbu := u } where
  marks := h

theorem printTo_notify (k : Notice) (l : Link) : s.PrintTo (s.notify k l) where
  line := line_notify s k l
  notice := noticeLaw_notify k l
  marks := by simpa using .refl _

theorem printTo_endJob (j : Job) (outcome : PrintOutcome) (printer : Option (Fin 2)) (cause : Option FaultCause) :
    s.PrintTo (s.endJob j outcome printer cause) :=
  (printTo_setMarks s _ _ (s.jnl.marksTo_releaseClaims j.position)).trans (printTo_notify _ _ _)

theorem printTo_takeJob (p : Fin 2) (j : Job) : s.PrintTo (s.takeJob p j) :=
  .ite (fun _ => printTo_endJob _ _ _ _ _) fun _ => printTo_onPrinter _ _ _

theorem printTo_assignJobs (l : List Job) : s.PrintTo (assignJobs l s) := by
  induction l generalizing s with
  | nil => exact .refl s
  | cons j l ih =>
    rw [assignJobs]
    split
    · exact (printTo_takeJob s _ j).trans (ih _)
    · exact (printTo_setPbu s _).trans (ih _)

theorem printTo_assign : s.PrintTo s.assign := (printTo_setPbu s _).trans (printTo_assignJobs _ _)

/-! ### Transitions (08 R141, R157) -/

theorem printTo_restPrinter (p : Fin 2) : s.PrintTo (s.restPrinter p) :=
  have rested := printTo_onPrinter s p Printer.rest
  .ite (fun _ => rested.trans (printTo_assign _)) fun _ => rested

theorem printTo_faultPrinter (p : Fin 2) (cause : FaultCause) : s.PrintTo (s.faultPrinter p cause) := by
  unfold State.faultPrinter
  cases (s.printer p).job with
  | some j => exact ((printTo_onPrinter s p _).trans (printTo_endJob _ j _ _ _)).trans (printTo_notify _ _ _)
  | none => exact (printTo_onPrinter s p _).trans (printTo_notify _ _ _)

theorem printTo_enterStriking (p : Fin 2) : s.PrintTo (s.enterStriking p) := printTo_onPrinter s p _

theorem printTo_ejectEnd (p : Fin 2) : s.PrintTo (s.ejectEnd p) := by
  unfold State.ejectEnd
  split
  · exact printTo_onPrinter s p _
  · exact .ite (fun _ => printTo_onPrinter s p _) fun _ => .ite (fun _ => printTo_onPrinter s p _) fun _ =>
      (printTo_onPrinter s p _).trans (printTo_endJob _ _ _ _ _)

theorem printTo_feedEnd (p : Fin 2) : s.PrintTo (s.feedEnd p) :=
  .ite (fun _ => printTo_ejectEnd s p) fun _ => printTo_enterStriking s p

theorem printTo_startFeed (p : Fin 2) (st : PrinterState) (target : Int) : s.PrintTo (s.startFeed p st target) :=
  have fed := printTo_onPrinter s p (Printer.feed st target)
  .ite (fun _ => fed.trans (printTo_feedEnd _ p)) fun _ => fed

/-! ### Strikes (08 R150 to R152) -/

theorem printTo_printItem (j : Job) : s.PrintTo (s.printItem j) := by
  refine printTo_setMarks s _ s.pbu ?_
  split
  · exact s.jnl.marksTo_printRecord _ _ _
  · exact s.jnl.marksTo_printCarry _
  · exact .refl _

theorem printTo_continueJob (p : Fin 2) (j : Job) : s.PrintTo (s.continueJob p j) :=
  .ite (fun _ => (printTo_onPrinter s p _).trans (printTo_startFeed _ _ _ _)) fun _ =>
    .ite (fun _ => (printTo_onPrinter s p _).trans (printTo_startFeed _ _ _ _)) fun _ =>
      (printTo_onPrinter s p _).trans (printTo_startFeed _ _ _ _)

theorem printTo_strikeDone (p : Fin 2) : s.PrintTo (s.strikeDone p) := by
  refine .ite (fun _ => ?_) fun _ => .refl s
  split
  · exact .refl s
  · split
    · exact .refl s
    · exact ((printTo_printItem s _).trans (printTo_onPrinter _ p _)).trans (printTo_continueJob _ _ _)

theorem printTo_strikeTimeEnd (p : Fin 2) : s.PrintTo (s.strikeTimeEnd p) :=
  .ite (fun _ => printTo_faultPrinter s p _) fun _ => .refl s

theorem printTo_jam (p : Fin 2) : s.PrintTo (s.jam p) := .ite (fun _ => printTo_faultPrinter s p _) fun _ => .refl s

theorem printTo_encoderStep (p : Fin 2) (dir : Direction) : s.PrintTo (s.encoderStep p dir) :=
  .ite (fun _ => .ite
    (fun _ =>
      have moved := printTo_onPrinter s p _
      .ite (fun _ => moved.trans (printTo_feedEnd _ p)) fun _ =>
        .ite (fun _ => moved.trans (printTo_faultPrinter _ p _)) fun _ => moved)
    fun _ => printTo_onPrinter s p _) fun _ => .refl s

/-! ### The book sensor (08 R142 to R156) -/

theorem printTo_insertion (p : Fin 2) : s.PrintTo (s.insertion p) := by
  refine .ite (fun _ => .refl s) fun _ => ?_
  have sensed := printTo_onPrinter s p fun r => { r with book := true, input := true }
  split
  · exact sensed.trans (printTo_onPrinter _ p _)
  · exact sensed.trans (printTo_onPrinter _ p _)
  · exact sensed

theorem printTo_bookTaken (p : Fin 2) : s.PrintTo (s.bookTaken p) := by
  unfold State.bookTaken
  split
  · exact printTo_restPrinter s p
  · exact .ite (fun _ => (printTo_endJob s _ _ _ _).trans (printTo_restPrinter _ p)) fun _ =>
      .ite (fun _ => printTo_onPrinter s p _) fun _ => (printTo_endJob s _ _ _ _).trans (printTo_restPrinter _ p)

/-- A job ended, where there is one, and its printer put at rest. -/
theorem printTo_endThenRest (p : Fin 2) (job : Option Job) (outcome : PrintOutcome) :
    s.PrintTo (match job with
      | some j => (s.endJob j outcome (some p) none).restPrinter p
      | none => s.restPrinter p) := by
  cases job with
  | some j => exact (printTo_endJob s j _ _ _).trans (printTo_restPrinter _ p)
  | none => exact printTo_restPrinter s p

theorem printTo_removal (p : Fin 2) : s.PrintTo (s.removal p) := by
  refine .ite (fun _ => ?_) fun _ => .refl s
  have sensed := printTo_onPrinter s p fun r => { r with book := false, input := false }
  split
  · exact sensed.trans (printTo_assign _)
  · exact sensed.trans (printTo_onPrinter _ p _)
  · exact sensed.trans (printTo_endThenRest _ p _ .incomplete)
  · exact sensed.trans (printTo_endThenRest _ p _ .incomplete)
  · exact sensed.trans (printTo_endThenRest _ p _ .incomplete)
  · exact (sensed.trans (printTo_onPrinter _ p _)).trans (printTo_bookTaken _ p)
  · exact sensed.trans (printTo_bookTaken _ p)
  all_goals exact sensed

theorem printTo_waitEnds (p : Fin 2) (st : PrinterState) (outcome : PrintOutcome) : s.PrintTo (s.waitEnds p st outcome) :=
  .ite (fun _ => printTo_endThenRest s p _ outcome) fun _ => .refl s

theorem printTo_bookConfirmed (p : Fin 2) : s.PrintTo (s.bookConfirmed p) := by
  refine .ite (fun _ => ?_) fun _ => .refl s
  split
  · exact (printTo_onPrinter s p _).trans (printTo_startFeed _ _ _ _)
  · exact .refl s

theorem printTo_bookLeft (p : Fin 2) : s.PrintTo (s.bookLeft p) := by
  refine .ite (fun _ => ?_) fun _ => .refl s
  have stayed := printTo_onPrinter s p fun r => { r with bookLeft := true, timer := none }
  split
  · exact stayed.trans (printTo_notify _ _ _)
  · exact stayed.trans (printTo_notify _ _ _)
  · exact stayed

theorem printTo_seeTellerEnd (n : Fin 8) : s.PrintTo (s.seeTellerEnd n) := printTo_setPbu s _

/-! ### Requesting, cancelling, servicing (08 R138, R160, R161) -/

theorem printTo_createJob (n : Fin 8) (b : PrintBody) : s.PrintTo (s.createJob n b) :=
  (printTo_setMarks s _ _ (s.jnl.marksTo_claim b.account n)).trans (printTo_assign _)

theorem printTo_cancelOn (p : Fin 2) (n : Fin 8) : s.PrintTo (s.cancelOn p n) := by
  unfold State.cancelOn
  split
  · exact printTo_restPrinter s p
  · exact printTo_restPrinter s p
  · exact printTo_onPrinter s p _
  · exact (printTo_onPrinter s p _).trans (printTo_startFeed _ _ _ _)
  · exact (printTo_onPrinter s p _).trans (printTo_startFeed _ _ _ _)
  · exact (printTo_onPrinter s p _).trans (printTo_startFeed _ _ _ _)
  all_goals exact printTo_onPrinter s p _

theorem printTo_cancelRunning (p : Fin 2) (n : Fin 8) : s.PrintTo (s.cancelRunning p n) := by
  unfold State.cancelRunning
  split
  · exact .ite (fun _ => (printTo_endJob s _ _ _ _).trans (printTo_cancelOn _ p n)) fun _ => .refl s
  · exact .refl s

theorem printTo_cancelQueued (n : Fin 8) : s.PrintTo (s.cancelQueued n) := by
  unfold State.cancelQueued
  split
  · exact (printTo_setPbu s _).trans (printTo_endJob _ _ _ _ _)
  · exact .refl s

theorem printTo_cancelJob (n : Fin 8) : s.PrintTo (s.cancelJob n) :=
  .ite (fun _ => printTo_cancelRunning s 0 n) fun _ => .ite (fun _ => printTo_cancelRunning s 1 n) fun _ =>
    printTo_cancelQueued s n

theorem printTo_serviceOffline (p : Fin 2) : s.PrintTo (s.serviceOffline p) := by
  refine .ite (fun _ => ?_) fun _ => .refl s
  have off := printTo_onPrinter s p fun r => { r with online := false }
  dsimp only
  split
  · exact off.trans (printTo_cancelRunning _ p _)
  · exact .ite (fun _ => off.trans (printTo_onPrinter _ p _)) fun _ => off

theorem printTo_serviceOnline (p : Fin 2) : s.PrintTo (s.serviceOnline p) :=
  have on := printTo_onPrinter s p fun r => { r with online := true }
  have idle := on.trans (printTo_onPrinter _ p fun r => { r with state := .idle })
  .ite (fun _ => .ite (fun _ => idle.trans (printTo_assign _)) fun _ => idle) fun _ => on

theorem printTo_serviceClear (p : Fin 2) : s.PrintTo (s.serviceClear p) :=
  have cleared := printTo_onPrinter s p fun r => { r with fault := none }
  .ite (fun _ => cleared.trans (printTo_onPrinter _ p _)) fun _ => cleared.trans (printTo_restPrinter _ p)

theorem printTo_duePrinter (p : Fin 2) : s.PrintTo (s.duePrinter p) := by
  refine .ite (fun _ => ?_) fun _ => .refl s
  split
  · exact printTo_waitEnds s p _ _
  · exact printTo_waitEnds s p _ _
  · exact printTo_bookConfirmed s p
  · exact printTo_strikeTimeEnd s p
  · exact printTo_jam s p
  · exact printTo_jam s p
  · exact printTo_jam s p
  · exact printTo_bookLeft s p
  all_goals exact .refl s

end

end Sys2Proof.Machine
end

section
/-! PROOF. The uplink's operations (10) change the uplink and the notices alone; and what the day (02) changes. -/

namespace Sys2Proof.Machine

section
variable (s : State)

/-! ### Frames, blocks and filling (10 R181, R186) -/

theorem uplinkTo_setUlc (u : Ulc) : s.UplinkTo { s with ulc := u } where

theorem uplinkTo_produce (f : UpFrame) : s.UplinkTo (s.produce f) := uplinkTo_setUlc s _

theorem uplinkTo_notify (k : Notice) (l : Link) : s.UplinkTo (s.notify k l) where
  line := line_notify s k l
  notice := noticeLaw_notify k l

theorem uplinkTo_load (b : Fin 2) (c : Contents) : s.UplinkTo (s.load b c) :=
  (uplinkTo_setUlc s _).trans (uplinkTo_produce _ _)

theorem uplinkTo_fillBuffer (b : Fin 2) : s.UplinkTo (s.fillBuffer b) := .ite (fun _ => uplinkTo_load s b _) fun _ => .refl s

theorem uplinkTo_fillSummary : s.UplinkTo s.fillSummary := .ite (fun _ => uplinkTo_load s 0 _) fun _ => .refl s

theorem uplinkTo_fill : s.UplinkTo s.fill :=
  .ite (fun _ => ((uplinkTo_fillBuffer s 0).trans (uplinkTo_fillBuffer _ 1)).trans (uplinkTo_fillSummary _)) fun _ => .refl s

theorem uplinkTo_startTransmission : s.UplinkTo s.startTransmission := (uplinkTo_setUlc s _).trans (uplinkTo_fill _)

/-! ### The link state and ping rounds (10 R182, R183) -/

theorem uplinkTo_linkUp : s.UplinkTo s.linkUp :=
  .ite (fun _ => .refl s) fun _ => ((uplinkTo_setUlc s _).trans (uplinkTo_notify _ _ _)).trans (uplinkTo_fill _)

theorem uplinkTo_linkDown : s.UplinkTo s.linkDown :=
  .ite (fun _ => (uplinkTo_setUlc s _).trans (uplinkTo_notify _ _ _)) fun _ => .refl s

theorem uplinkTo_heard : s.UplinkTo s.heard := (uplinkTo_setUlc s _).trans (uplinkTo_linkUp _)

theorem uplinkTo_beginRound : s.UplinkTo s.beginRound := (uplinkTo_setUlc s _).trans (uplinkTo_produce _ _)

theorem uplinkTo_judgeRound : s.UplinkTo s.judgeRound := .ite (fun _ => uplinkTo_beginRound s) fun _ => .refl s

theorem uplinkTo_pingRound : s.UplinkTo s.pingRound :=
  .ite (fun _ => (uplinkTo_setUlc s _).trans (uplinkTo_beginRound _)) fun _ => .refl s

theorem uplinkTo_pingWaitEnd : s.UplinkTo s.pingWaitEnd := by
  unfold State.pingWaitEnd
  split
  · exact .ite (fun _ => .refl s) fun _ => .ite (fun _ => (uplinkTo_setUlc s _).trans (uplinkTo_produce _ _)) fun _ =>
      (uplinkTo_setUlc s _).trans (uplinkTo_linkDown _)
  · exact .refl s

/-! ### Retry decisions and frames sent (10 R187 to R194) -/

theorem uplinkTo_retry (b : Fin 2) (k : Block) : s.UplinkTo (s.retry b k) :=
  .ite (fun _ => (uplinkTo_setUlc s _).trans (uplinkTo_produce _ _)) fun _ => uplinkTo_linkDown s

theorem uplinkTo_unanswered (b : Fin 2) : s.UplinkTo (s.unanswered b) := by
  unfold State.unanswered
  split
  · exact .ite (fun _ => uplinkTo_retry s b _) fun _ => .refl s
  · exact .refl s

theorem uplinkTo_verdictWaitEnd : s.UplinkTo s.verdictWaitEnd := by
  refine .ite (fun _ => ?_) fun _ => .refl s
  dsimp only
  split
  · exact (uplinkTo_setUlc s _).trans (uplinkTo_retry _ _ _)
  · exact uplinkTo_setUlc s _

theorem uplinkTo_frameSent : s.UplinkTo s.frameSent := by
  unfold State.frameSent
  split
  · exact uplinkTo_setUlc s _
  · exact .refl s

theorem uplinkTo_blockNak (number : Nat) : s.UplinkTo (s.blockNak number) := by
  unfold State.blockNak
  split
  · exact .refl s
  · exact uplinkTo_retry s _ _

theorem uplinkTo_dueAnswer (b : Fin 2) : s.UplinkTo (s.dueAnswer b) := by
  unfold State.dueAnswer
  split
  · exact .ite (fun _ => uplinkTo_unanswered s b) fun _ => .refl s
  · exact .refl s

theorem uplinkTo_dueVerdict : s.UplinkTo s.dueVerdict := .ite (fun _ => uplinkTo_verdictWaitEnd s) fun _ => .refl s

theorem uplinkTo_duePing : s.UplinkTo s.duePing := by
  unfold State.duePing
  split
  · exact .ite (fun _ => uplinkTo_pingWaitEnd s) fun _ => .refl s
  · exact uplinkTo_judgeRound s

/-! ### The day (02 R16 to R23) -/

theorem link_notifyDayChanged (l : Link) : s.notifyDayChanged.link l = (s.link l).flag .dayChanged := Vec.get_map _ _ _

theorem noticeLaw_notifyDayChanged (h : s.NoticeLaw) : s.notifyDayChanged.NoticeLaw := by
  intro l k hk
  rw [link_notifyDayChanged, LinkRec.flag, Vec.get_set_ne _ _ fun e => ?_]
  · exact h l k hk
  · rw [Notice.idx_inj e] at hk
    cases l <;> cases hk

theorem plainTo_notifyDayChanged : s.PlainTo s.notifyDayChanged where
  line l := by
    rw [link_notifyDayChanged]
    exact ⟨rfl, rfl⟩
  power := rfl
  restart := Or.inl
  clock := id
  settings := id
  notice := noticeLaw_notifyDayChanged s
  lock := id

/-- Parts that the laws that hold by themselves do not speak of, and a day whose clock stands in its ranges. -/
theorem plainTo_setDay (d : Day) (c : Cash) (b : Bal) (j : Journal) (u : Ulc)
    (h : s.ClockLaw → { s with day := d }.ClockLaw) :
    s.PlainTo { s with day := d, cash := c, bal := b, jnl := j, ulc := u } where
  line _ := ⟨rfl, rfl⟩
  power := rfl
  restart := Or.inl
  clock := h
  settings := id
  notice := id
  lock := id

theorem plainTo_moveDay (d : DayState) : s.PlainTo (s.moveDay d) :=
  (plainTo_setDay s { s.day with state := d } s.cash s.bal s.jnl s.ulc id).trans (plainTo_notifyDayChanged _)

theorem plainTo_clearRejection : s.PlainTo s.clearRejection := plainTo_setDay s _ s.cash s.bal _ s.ulc id

theorem plainTo_acceptDay : s.PlainTo s.acceptDay :=
  (plainTo_setDay s { s.day with date := none } s.cash s.bal
    (s.jnl.acceptDay (s.day.date.getD { day := 0, month := 0, year := 0 })) s.ulc.clear id).trans (plainTo_moveDay _ _)

theorem plainTo_rejectDay (r : Rejection) : s.PlainTo (s.rejectDay r) :=
  (plainTo_setDay s { s.day with rejection := r } s.cash s.bal s.jnl s.ulc.clear id).trans (plainTo_moveDay _ _)

theorem plainTo_dayAccepted (t : Totals) : s.PlainTo (s.dayAccepted t) := by
  unfold State.dayAccepted
  split
  · exact .ite (fun _ => plainTo_acceptDay s) fun _ => plainTo_rejectDay s _
  · exact .refl s

theorem plainTo_dayRejected (reason : Nat) : s.PlainTo (s.dayRejected reason) := by
  unfold State.dayRejected
  split
  · exact .ite (fun _ => .refl s) fun _ => plainTo_rejectDay s _
  · exact .refl s

theorem openInRange_iff (f : DayOpenFields) :
    openInRange f = true ↔
      (1 ≤ f.day ∧ f.day ≤ 31 ∧ 1 ≤ f.month ∧ f.month ≤ 12 ∧ f.year ≤ 99 ∧ f.seconds ≤ 86399) ∧
      (f.minorDigits = 0 ∨ f.minorDigits = 2 ∨ f.minorDigits = 3) ∧ (∀ i, f.faces.get i ≤ Config.maxFace) ∧
      (f.postingLimit ≤ Config.maxAmount ∧ f.itemization ≤ Config.maxAmount) ∧
      (1 ≤ f.drawerMax ∧ (f.drawerMax : Int) ≤ Config.maxTotal ∧ f.tolerance ≤ Config.maxTolerance) := by
  simp only [openInRange, Bool.and_eq_true, decide_eq_true_eq, Vec.all_iff, and_assoc]

/-- The checks of a DAY-OPEN taken. -/
theorem judgeDayOpen_accepted {f : DayOpenFields} (h : s.judgeDayOpen f = .accepted) :
    s.day.state = .closed ∧ openInRange f = true ∧ openOrdered f = true ∧ s.cash.vaultKeeps (openTable f) = true := by
  unfold State.judgeDayOpen at h
  split at h
  · cases h
  · next closed =>
    split at h
    · cases h
    · next inRange =>
      split at h
      · cases h
      · next ordered =>
        split at h
        · cases h
        · next keeps => exact ⟨not_not.1 closed, by simpa using inRange, by simpa using ordered, by simpa using keeps⟩

theorem plainTo_openDay (f : DayOpenFields) (h : f.seconds ≤ 86399) : s.PlainTo (s.openDay f) := by
  refine .trans ?_ (plainTo_moveDay _ _)
  exact plainTo_setDay s _ _ _ _ s.ulc fun ⟨hundredths, _, phase, _⟩ => ⟨hundredths, h, phase, Nat.zero_le _⟩

theorem plainTo_dayOpen (f : DayOpenFields) : s.PlainTo (s.dayOpen f) := by
  refine State.PlainTo.trans (t := if s.judgeDayOpen f = .accepted then s.openDay f else s) (.ite (fun accepted => ?_) fun _ => .refl s)
    (uplinkTo_produce _ _).plain
  obtain ⟨_, inRange, _⟩ := judgeDayOpen_accepted s accepted
  exact plainTo_openDay s f ((openInRange_iff f).1 inRange).1.2.2.2.2.2

/-! ### Head office's messages (10 R179) -/

theorem plainTo_blockAck (number : Nat) : s.PlainTo (s.blockAck number) := by
  unfold State.blockAck
  split
  · exact .refl s
  · split
    · exact (plainTo_setDay s s.day s.cash s.bal _ _ id).trans (uplinkTo_fill _).plain
    · exact (uplinkTo_setUlc s _).plain

theorem plainTo_act (m : Message) : s.PlainTo (s.act m) := by
  cases m with
  | pingReply => exact .refl s
  | dayOpen f => exact plainTo_dayOpen s f
  | blockAck k => exact plainTo_blockAck s k
  | blockNak k => exact (uplinkTo_blockNak s k).plain
  | dayAccepted t => exact plainTo_dayAccepted s t
  | dayRejected r => exact plainTo_dayRejected s r

theorem plainTo_message (m : Message) : s.PlainTo (s.message m) := (uplinkTo_heard s).plain.trans (plainTo_act _ m)

theorem plainTo_receiveBits (bits : List Bool) : s.PlainTo (s.receiveBits bits) := by
  unfold State.receiveBits
  split
  · exact .refl s
  · split
    · exact .refl s
    · exact plainTo_message s _

/-! ### The configuration (02 R27, R28) -/

theorem clamp_bounds {low high : Nat} (v : Nat) (h : low ≤ high) : low ≤ clamp low high v ∧ clamp low high v ≤ high := by
  unfold clamp
  split <;> [omega; split <;> omega]

/-- A ping period brought into its range and down to a multiple of 4. -/
theorem pingPeriod_bounds {v : Nat} (h : 4 ≤ v ∧ v ≤ 1020) : 4 ≤ v / 4 * 4 ∧ v / 4 * 4 ≤ 1020 ∧ v / 4 * 4 % 4 = 0 := by
  omega

/-- An item stored lies in its range, whatever the value given. -/
theorem Settings.inRange_store {t : Settings} (c : ConfigLine) (h : t.InRange) : (t.store c).InRange := by
  obtain ⟨idle, bright, open_, service, transfer, override_, lines, pages, pitch, margin, period, pings, blocks⟩ := h
  obtain ⟨item, position, value⟩ := c
  have bounds := fun low high (ok : low ≤ high) => clamp_bounds (low := low) (high := high) value ok
  unfold Settings.store ConfigLine.stored
  dsimp only
  split
  · exact ⟨bounds 10 900 (by decide), bright, open_, service, transfer, override_, lines, pages, pitch, margin, period, pings, blocks⟩
  · exact ⟨idle, (bounds 0 15 (by decide)).2, open_, service, transfer, override_, lines, pages, pitch, margin, period, pings, blocks⟩
  · exact ⟨idle, bright, bounds 5 300 (by decide), service, transfer, override_, lines, pages, pitch, margin, period, pings, blocks⟩
  · exact ⟨idle, bright, open_, bounds 30 3600 (by decide), transfer, override_, lines, pages, pitch, margin, period, pings, blocks⟩
  · exact ⟨idle, bright, open_, service, bounds 30 600 (by decide), override_, lines, pages, pitch, margin, period, pings, blocks⟩
  · exact ⟨idle, bright, open_, service, transfer, bounds 30 600 (by decide), lines, pages, pitch, margin, period, pings, blocks⟩
  · exact ⟨idle, bright, open_, service, transfer, override_, lines, pages, pitch, margin, period, pings, blocks⟩
  · exact ⟨idle, bright, open_, service, transfer, override_, bounds 12 32 (by decide), pages, pitch, margin, period, pings, blocks⟩
  · exact ⟨idle, bright, open_, service, transfer, override_, lines, bounds 1 16 (by decide), pitch, margin, period, pings, blocks⟩
  · exact ⟨idle, bright, open_, service, transfer, override_, lines, pages, bounds 8 32 (by decide), margin, period, pings, blocks⟩
  · exact ⟨idle, bright, open_, service, transfer, override_, lines, pages, pitch, (bounds 0 255 (by decide)).2, period, pings, blocks⟩
  · have quarters := pingPeriod_bounds (bounds 4 1020 (by decide))
    exact ⟨idle, bright, open_, service, transfer, override_, lines, pages, pitch, margin, quarters, pings, blocks⟩
  · exact ⟨idle, bright, open_, service, transfer, override_, lines, pages, pitch, margin, period, (bounds 0 7 (by decide)).2, blocks⟩
  · exact ⟨idle, bright, open_, service, transfer, override_, lines, pages, pitch, margin, period, pings, (bounds 0 15 (by decide)).2⟩
  · split <;> exact ⟨idle, bright, open_, service, transfer, override_, lines, pages, pitch, margin, period, pings, blocks⟩
  · exact ⟨idle, bright, open_, service, transfer, override_, lines, pages, pitch, margin, period, pings, blocks⟩

theorem Settings.inRange_foldl_store {t : Settings} (lines : List ConfigLine) (h : t.InRange) :
    (lines.foldl Settings.store t).InRange := by
  induction lines generalizing t with
  | nil => exact h
  | cons c lines ih => exact ih (t.inRange_store c h)

theorem plainTo_configure (lines : List ConfigLine) : s.PlainTo (s.configure lines) := by
  have stored : s.PlainTo { s with settings := lines.foldl Settings.store s.settings } :=
    { State.PlainTo.refl s with settings := Settings.inRange_foldl_store lines }
  exact (stored.trans (printTo_assign _).plain).trans (uplinkTo_judgeRound _).plain

end

end Sys2Proof.Machine
end

section
/-! PROOF. Every request taken, and every event that occurs, as work that keeps the laws that hold by themselves. -/

namespace Sys2Proof.Machine

/-! ### What a judgement gives -/

/-- Where the judgement takes the request, the state it gives meets `P`. -/
def Gives (P : State → Prop) (j : Judged) : Prop := ∀ t, j = .ok t → P t.state

section
variable {P : State → Prop}

theorem Gives.error (c : Code) : Gives P (.error c) := fun _ h => nomatch h

theorem Gives.ok {t : Taken} (h : P t.state) : Gives P (.ok t) := by
  rintro _ ⟨⟩
  exact h

theorem Gives.okReply {s : State} {rest : Bytes} (h : P s) : Gives P (okReply s rest) := .ok h

theorem Gives.check {p : Prop} [Decidable p] {c : Code} {k : Judged} (h : p → Gives P k) : Gives P (check p c k) :=
  fun t e => h (check_eq_ok.1 e).1 t (check_eq_ok.1 e).2

/-- What a cash movement's check 5 establishes (04 R68). -/
structure Cash.Takes (c : Cash) (dir : CashDir) (amount : Nat) (lines : List Line) (r : CashRecord) : Prop where
  covered : ∀ i, (pieces false lines).get i ≤ r.counts.get i + (pieces true lines).get i
  counts : ∀ i, (r.moved c.faces dir amount lines).counts.get i ≤ Config.maxDrawerCount
  unitemized : -Config.maxUnitemized ≤ (r.moved c.faces dir amount lines).unitemized ∧
    (r.moved c.faces dir amount lines).unitemized ≤ Config.maxUnitemized
  total : 0 ≤ r.total + dir.signed amount ∧ r.total + dir.signed amount ≤ Config.maxTotal
  counter : if dir = .inward then c.cashIn + amount ≤ Config.maxCounter else c.cashOut + amount ≤ Config.maxCounter

theorem judgeEffect_ok {α : Type} {c : Cash} {dir : CashDir} {amount : Nat} {lines : List Line} {r : CashRecord}
    {k : Except Code α} {a : α} (h : c.judgeEffect dir amount lines r k = .ok a) :
    (dir ≠ .none → c.Takes dir amount lines r) ∧ k = .ok a := by
  unfold Cash.judgeEffect at h
  split at h
  · next hd => exact ⟨fun hne => absurd hd hne, h⟩
  · simp only [check_eq_ok] at h
    obtain ⟨covered, counts, _, unitemized, total, counter, rest⟩ := h
    exact ⟨fun _ => ⟨covered, counts, unitemized, total, counter⟩, rest⟩

theorem Gives.judgeEffect {c : Cash} {dir : CashDir} {amount : Nat} {lines : List Line} {r : CashRecord} {k : Judged}
    (h : (dir ≠ .none → c.Takes dir amount lines r) → Gives P k) : Gives P (c.judgeEffect dir amount lines r k) :=
  fun t e => h (judgeEffect_ok e).1 t (judgeEffect_ok e).2

theorem Gives.tellerHandler {l : Link} {handler : Fin 8 → State → Judged} {s : State}
    (h : ∀ n, l = .tl n → Gives P (handler n s)) : Gives P (tellerHandler l handler s) := by
  cases l with
  | tl n => exact h n rfl
  | sl => exact .error _

end

/-! ### Handlers and the laws that hold by themselves -/

section
variable (s : State)

theorem gives_refl_readings {s : State} (rest : Bytes) : Gives s.PlainTo (okReply s rest) := .okReply (.refl s)

theorem plainTo_clearNotices (l : Link) : s.PlainTo (s.onLink l fun r => { r with notices := Vec.fill false }) where
  line k := by
    by_cases h : k = l
    · subst h
      rw [State.link_onLink_self]
      exact ⟨rfl, rfl⟩
    · rw [State.link_onLink_ne _ _ h]
      exact ⟨rfl, rfl⟩
  power := rfl
  restart := Or.inl
  clock := id
  settings := id
  notice h k q hq := by
    by_cases e : k = l
    · subst e
      rw [State.link_onLink_self]
      exact Vec.get_fill _ _
    · rw [State.link_onLink_ne _ _ e]
      exact h k q hq
  lock := id

theorem plainTo_setWindows (v : Vec 8 Window) : s.PlainTo { s with windows := v } where
  line _ := ⟨rfl, rfl⟩
  power := rfl
  restart := Or.inl
  clock := id
  settings := id
  notice := id
  lock := id

/-- Work on the positions, whichever. -/
abbrev State.WorkAny (s t : State) : Prop := s.WorkTo (fun _ => True) t

theorem gives_post (body : Bytes) (n : Fin 8) : Gives s.PlainTo (post body n s) := by
  refine .check fun _ => ?_
  split
  · exact .error _
  · next p _ =>
    refine .check fun _ => .check fun _ => .check fun _ => .check fun _ => .check fun _ => .check fun _ =>
      .judgeEffect fun _ => .check fun _ => ?_
    split
    · exact .okReply (workTo_makePosting (touched := fun _ => True) s p trivial).plain
    · exact .check fun _ => .ok (workTo_holdPosting (touched := fun _ => True) s p trivial).plain

theorem gives_void (body : Bytes) (n : Fin 8) : Gives s.PlainTo (voidRecord body n s) := by
  refine .check fun _ => ?_
  split
  · exact .error _
  · refine .check fun _ => ?_
    split
    · exact .error _
    · exact .check fun _ => .check fun _ => .check fun _ => .judgeEffect fun _ => .check fun _ =>
        .okReply (workTo_makeVoid (touched := fun _ => True) s _ _ _ trivial).plain

theorem gives_propose (l : Link) (body : Bytes) : Gives s.PlainTo (propose l body s) := by
  unfold propose
  split
  · exact .error _
  · refine .check fun _ => ?_
    split
    · exact .error _
    · exact .check fun _ => .check fun _ => .check fun _ => .check fun _ => .check fun _ => .check fun _ => .check fun _ =>
        .okReply (workTo_createTransfer (touched := fun _ => True) s _ _ _).plain

theorem gives_confirm (l : Link) (id : Nat) : Gives s.PlainTo (confirm l id s) := by
  unfold confirm
  split
  · exact .error _
  · refine .check fun _ => ?_
    split
    · exact .check fun _ => .check fun _ => .check fun _ =>
        .okReply (workTo_makeTransfer s _ _ _ _ (fun _ _ => trivial) (fun _ _ => trivial) (Dct.idTouches_all _ _)).plain
    · unfold confirmOverride
      split
      · exact .okReply (workTo_makeHeld s _ _ trivial (Dct.idTouches_all _ _)).plain
      · exact .okReply (workTo_failHeld s _ _ trivial (Dct.idTouches_all _ _)).plain

theorem gives_decline (l : Link) (id : Nat) : Gives s.PlainTo (decline l id s) := by
  unfold decline
  split
  · exact .error _
  · exact .check fun _ => .okReply (workTo_decline s _ (fun _ _ => trivial) (Dct.idTouches_all _ _)).plain

theorem gives_withdraw (l : Link) (id : Nat) : Gives s.PlainTo (withdraw l id s) := by
  unfold withdraw
  split
  · exact .error _
  · exact .check fun _ => .okReply (workTo_withdraw s _ (fun _ _ => trivial) (Dct.idTouches_all _ _)).plain

theorem plainTo_forceSignOff (n : Fin 8) : s.PlainTo (s.forceSignOff n) := by
  rw [forceSignOff_eq]
  exact ((workTo_forcedOut (touched := fun _ => True) s trivial fun _ _ _ => Dct.idTouches_all _ _).plain.trans
    (printTo_cancelJob _ n).plain).trans
    ((workTo_putAway (touched := fun _ => True) _ trivial).trans (workTo_leave _ _ trivial)).plain

theorem gives_forceSignOff (v : Nat) : Gives s.PlainTo (forceSignOff v s) := by
  unfold forceSignOff
  split
  · exact .error _
  · exact .check fun _ => .check fun _ => .okReply (plainTo_forceSignOff s _)

theorem gives_declare (body : Bytes) (n : Fin 8) : Gives s.PlainTo (declare body n s) := by
  refine .check fun _ => .check fun _ => .check fun _ => ?_
  unfold judgeDeclaration
  dsimp only
  split
  · exact .check fun _ => .okReply (workTo_applyDeclaration (touched := fun _ => True) s _ _ trivial).plain
  · exact .okReply (workTo_miss (touched := fun _ => True) s _ _ trivial).plain

theorem gives_forceBalance (v : Nat) : Gives s.PlainTo (forceBalance v s) := by
  unfold forceBalance
  split
  · exact .error _
  · refine .check fun _ => ?_
    split
    · exact .error _
    · exact .check fun _ => .okReply (workTo_applyDeclaration (touched := fun _ => True) s _ _ trivial).plain

theorem gives_vaultDeclare (body : Bytes) : Gives s.PlainTo (vaultDeclare body s) :=
  .check fun _ => .check fun _ => .check fun _ => .check fun _ =>
    .okReply ((workTo_countVault (touched := fun _ => True) s _ _).trans (workTo_appendDifference _ _ _ _)).plain

theorem gives_readProfile (v : Nat) : Gives s.PlainTo (readProfile v s) := by
  unfold readProfile
  split
  · exact .error _
  · exact gives_refl_readings _

theorem gives_readPosition (v : Nat) : Gives s.PlainTo (readPosition v s) := by
  unfold readPosition
  split
  · exact .error _
  · exact gives_refl_readings _

theorem gives_readCashSupervisor (v : Nat) : Gives s.PlainTo (readCashSupervisor v s) := by
  unfold readCashSupervisor
  split
  · exact .error _
  all_goals exact gives_refl_readings _

theorem gives_printerService (printer action : Nat) : Gives s.PlainTo (printerService printer action s) := by
  unfold printerService
  split
  · exact .okReply (printTo_serviceOffline s _).plain
  · exact .okReply (printTo_serviceOnline s _).plain
  · exact .check fun _ => .okReply (printTo_serviceClear s _).plain
  · exact .error _

/-- A request that its handler takes keeps the laws that hold by themselves; `restart` is SL's alone. -/
theorem gives_handler {l : Link} {k : Kind} (body : Bytes) (allowed : k.allows l = true) (inWork : (s.link l).inWork = true) :
    Gives s.PlainTo (handler l body k s) := by
  cases k with
  | takeNotices => exact .okReply (plainTo_clearNotices s l)
  | status => cases l <;> exact gives_refl_readings _
  | cutoff => exact .check fun _ => .okReply (plainTo_moveDay s _)
  | reopenDay =>
    exact .check fun _ => .okReply ((State.PlainTo.ite (fun _ => plainTo_clearRejection s) fun _ => .refl s).trans
      (plainTo_moveDay _ _))
  | send =>
    exact .check fun _ => .check fun _ => .check fun _ =>
      .okReply ((plainTo_moveDay s _).trans (uplinkTo_startTransmission _).plain)
  | resend =>
    exact .check fun _ => .okReply (((plainTo_clearRejection s).trans (plainTo_moveDay _ _)).trans
      (uplinkTo_startTransmission _).plain)
  | config => exact .check fun _ => .check fun _ => .okReply (plainTo_configure s _)
  | restart =>
    have supervisor : l = .sl := by simpa [Kind.allows] using allowed
    exact .okReply { State.PlainTo.refl s with restart := fun _ => Or.inr (supervisor ▸ inWork) }
  | signOn =>
    exact .tellerHandler fun n _ => .check fun _ => .check fun _ => .check fun _ => .check fun _ => .check fun _ =>
      .okReply (workTo_signOn (touched := fun _ => True) s _ trivial).plain
  | openTxn =>
    exact .tellerHandler fun n _ => .check fun _ => .check fun _ => .check fun _ =>
      .okReply (workTo_openTxn (touched := fun _ => True) s trivial).plain
  | closeTxn =>
    exact .tellerHandler fun n _ => .check fun _ =>
      .okReply ((workTo_endTxn (touched := fun _ => True) s trivial).trans (workTo_movePos _ _ trivial)).plain
  | away =>
    exact .tellerHandler fun n _ => .check fun _ => .check fun _ =>
      .okReply (workTo_away (touched := fun _ => True) s trivial).plain
  | unlock =>
    exact .tellerHandler fun n _ => .check fun _ => .check fun _ => .check fun _ =>
      .okReply (workTo_movePos (touched := fun _ => True) s _ trivial).plain
  | signOff =>
    exact .tellerHandler fun n _ => .check fun _ => .check fun _ => .check fun _ => .check fun _ =>
      .okReply (workTo_signOff (touched := fun _ => True) s trivial fun _ _ _ => Dct.idTouches_all _ _).plain
  | forceSignOff => exact gives_forceSignOff s _
  | readPosition => exact gives_readPosition s _
  | post => exact .tellerHandler fun n _ => gives_post s body n
  | void => exact .tellerHandler fun n _ => gives_void s body n
  | readCash =>
    cases l with
    | tl n => exact gives_refl_readings _
    | sl => exact gives_readCashSupervisor s _
  | propose => exact gives_propose s l body
  | confirm => exact gives_confirm s l _
  | decline => exact gives_decline s l _
  | withdraw => exact gives_withdraw s l _
  | beginBalance =>
    exact .tellerHandler fun n _ => .check fun _ => .check fun _ =>
      .okReply (workTo_beginBalance (touched := fun _ => True) s trivial).plain
  | declare => exact .tellerHandler fun n _ => gives_declare s body n
  | reopen =>
    exact .tellerHandler fun n _ => .check fun _ => .okReply (workTo_movePos (touched := fun _ => True) s _ trivial).plain
  | forceBalance => exact gives_forceBalance s _
  | vaultDeclare => exact gives_vaultDeclare s body
  | readProfile => exact gives_readProfile s _
  | readJournal => exact .check fun _ => gives_refl_readings _
  | printBook =>
    exact .tellerHandler fun n _ => .check fun _ => .check fun _ => .check fun _ => .check fun _ => .check fun _ =>
      .check fun _ => .check fun _ => .ok (printTo_createJob s n _).plain
  | cancelPrint => exact .tellerHandler fun n _ => .check fun _ => .okReply (printTo_cancelJob s n).plain
  | printerService => exact gives_printerService s _ _
  | showText => exact .tellerHandler fun n _ => .check fun _ => .okReply (plainTo_setWindows s _)

end

/-! ### The rows of the command table -/

/-- The changes of an event that ends by composing the displays. -/
inductive Happening : (State → State) → Prop where
  | idle (n : Fin 8) : Happening fun s => s.idleReached n
  | sense (n : Fin 8) (level : Sensor) : Happening fun s => s.onPos n (Position.sense level)
  | opening (n : Fin 8) : Happening fun s => s.opening n
  | shutting (n : Fin 8) : Happening fun s => s.shutting n
  | windowEnd (n : Fin 8) : Happening fun s => s.windowEnd n
  | drawerLong (n : Fin 8) : Happening fun s => s.drawerLong n
  | serviceLong (n : Fin 8) : Happening fun s => s.serviceLong n
  | expiry (id : Nat) : Happening fun s => s.expireId id
  | insertion (p : Fin 2) : Happening fun s => s.insertion p
  | removal (p : Fin 2) : Happening fun s => s.removal p
  | waitEnds (p : Fin 2) {st : PrinterState} (outcome : PrintOutcome) (wait : st ≠ .fault) : Happening fun s => s.waitEnds p st outcome
  | bookConfirmed (p : Fin 2) : Happening fun s => s.bookConfirmed p
  | encoderStep (p : Fin 2) (dir : Direction) : Happening fun s => s.encoderStep p dir
  | jam (p : Fin 2) : Happening fun s => s.jam p
  | strikeDone (p : Fin 2) : Happening fun s => s.strikeDone p
  | strikeTimeEnd (p : Fin 2) : Happening fun s => s.strikeTimeEnd p
  | bookLeft (p : Fin 2) : Happening fun s => s.bookLeft p
  | seeTellerEnd (n : Fin 8) : Happening fun s => s.seeTellerEnd n
  | textEnd (n : Fin 8) : Happening fun s => s.textEnd n
  | message (m : Message) : Happening (State.message m)
  | bits (bits : List Bool) : Happening (State.receiveBits bits)

/-- The changes of an uplink event that no display shows. -/
inductive UplinkHappening : (State → State) → Prop where
  | answerTimeEnd (b : Fin 2) : UplinkHappening fun s => s.unanswered b
  | verdictWaitEnd : UplinkHappening State.verdictWaitEnd
  | frameSent : UplinkHappening State.frameSent
  | pingRound : UplinkHappening State.pingRound
  | pingWaitEnd : UplinkHappening State.pingWaitEnd

/-- What the command at the front of the queue, run on `s`, can make of it: one constructor for each kind of row. -/
inductive State.Row (s : State) : State → Prop where
  | byte (l : Link) (b : Byte) : s.Row (s.whenAlive (receiveByte l b))
  | abandon (l : Link) : s.Row (s.whenAlive fun s => s.onLink l LinkRec.abandon)
  | gap (l : Link) : s.Row (s.whenAlive fun s => s.onLink l LinkRec.gap)
  | silent (l : Link) : s.Row (s.whenAlive fun s => s.onLink l LinkRec.silent)
  | replySent (l : Link) : s.Row (s.whenAlive fun s => s.replySent l)
  | unknown (l : Link) (kind tag : Byte) : s.Row (unknownRequest l kind tag s)
  | request (l : Link) (k : Kind) (tag : Byte) (body : Bytes) : s.Row (request l k tag body (handler l body k) s)
  | happening {f : State → State} (h : Happening f) : s.Row (event f s)
  | uplink {f : State → State} (h : UplinkHappening f) : s.Row (s.whenAlive f)
  | senseInput (n : Fin 8) (level : Sensor) (dead : s.alive = false) : s.Row (s.onPos n fun p => { p with input := level })
  | bookInput (p : Fin 2) (level : Bool) (dead : s.alive = false) : s.Row (s.onPrinter p fun r => { r with input := level })
  | warmRestart : s.Row (s.whenAlive State.warmRestart)
  | assertReset : s.Row s.assertReset
  | releaseReset : s.Row s.releaseReset
  | powerFail : s.supply.mainPower = true → s.Row s.powerFail
  | powerAbsent : s.Row s
  | backupLow : s.Row s.backupLow
  | powerReturn : s.Row s.powerReturn
  | oneHz : s.Row (State.oneHz { s with day := { s.day with hundredths := 0 } })
  | eightHz : s.Row s.eightHzTick

theorem field_pair (a b : Byte) : field [a, b] 0 1 = a.toNat ∧ field [a, b] 1 1 = b.toNat := by
  simp [field, ofBytes]

/-- Every row of the table is one of these. -/
theorem exec_row {i : Instr} {s t : State} (h : exec i s = .next t) : s.Row t := by
  cases i with
  | lineFault l => cases h; exact .abandon l
  | lengthByteAbove250 l b => cases h; exact .byte l b
  | interByteGap l => cases h; exact .gap l
  | lineSilent l => cases h; exact .silent l
  | frameCheckFailed l => cases h; exact .abandon l
  | unknownKind l kind tag _ => cases h; exact .unknown l kind tag
  | replySent l => cases h; exact .replySent l
  | takeNotices l tag body => cases h; exact .request l .takeNotices tag body
  | statusTeller n tag body => cases h; exact .request (.tl n) .status tag body
  | statusSupervisor tag body => cases h; exact .request .sl .status tag body
  | cutoff l tag body => cases h; exact .request l .cutoff tag body
  | reopenDay l tag body => cases h; exact .request l .reopenDay tag body
  | send l tag body => cases h; exact .request l .send tag body
  | resend l tag body => cases h; exact .request l .resend tag body
  | config l tag body => cases h; exact .request l .config tag body
  | restart l tag body => cases h; exact .request l .restart tag body
  | warmRestart => cases h; exact .warmRestart
  | resetLineAsserted => cases h; exact .assertReset
  | warmLine => cases h; exact .releaseReset
  | mainPowerFail =>
    cases h
    split
    · next on => exact .powerFail on
    · exact .powerAbsent
  | backupLow => cases h; exact .backupLow
  | mainPowerReturn => cases h; exact .powerReturn
  | oneHzTick => cases h; exact .oneHz
  | eightHzTick => cases h; exact .eightHz
  | signOn l tag body => cases h; exact .request l .signOn tag body
  | openTxn l tag body => cases h; exact .request l .openTxn tag body
  | closeTxn l tag body => cases h; exact .request l .closeTxn tag body
  | away l tag body => cases h; exact .request l .away tag body
  | unlock l tag body => cases h; exact .request l .unlock tag body
  | signOff l tag body => cases h; exact .request l .signOff tag body
  | forceSignOff l tag body => cases h; exact .request l .forceSignOff tag body
  | readPosition l tag body => cases h; exact .request l .readPosition tag body
  | idle n => cases h; exact .happening (.idle n)
  | sensorInputChange n level =>
    cases h
    split
    · next alive =>
      rw [← event_alive (fun s => s.onPos n (Position.sense level)) alive]
      exact .happening (.sense n level)
    · next dead => exact .senseInput n level (by simpa using dead)
  | opening n => cases h; exact .happening (.opening n)
  | shutting n => cases h; exact .happening (.shutting n)
  | releaseWindowEnd n => cases h; exact .happening (.windowEnd n)
  | drawerLong n => cases h; exact .happening (.drawerLong n)
  | serviceLong n => cases h; exact .happening (.serviceLong n)
  | post l tag body => cases h; exact .request l .post tag body
  | void l tag body => cases h; exact .request l .void tag body
  | readCashTeller n tag body => cases h; exact .request (.tl n) .readCash tag body
  | readCashSupervisor tag body => cases h; exact .request .sl .readCash tag body
  | propose l tag body => cases h; exact .request l .propose tag body
  | confirm l tag body => cases h; exact .request l .confirm tag body
  | decline l tag body => cases h; exact .request l .decline tag body
  | withdraw l tag body => cases h; exact .request l .withdraw tag body
  | expiry id => cases h; exact .happening (.expiry id)
  | beginBalance l tag body => cases h; exact .request l .beginBalance tag body
  | declare l tag body => cases h; exact .request l .declare tag body
  | forceBalance l tag body => cases h; exact .request l .forceBalance tag body
  | reopen l tag body => cases h; exact .request l .reopen tag body
  | vaultDeclare l tag body => cases h; exact .request l .vaultDeclare tag body
  | readProfile l tag body => cases h; exact .request l .readProfile tag body
  | readJournal l tag body => cases h; exact .request l .readJournal tag body
  | printBook l tag body => cases h; exact .request l .printBook tag body
  | cancelPrint l tag body => cases h; exact .request l .cancelPrint tag body
  | printerServiceOffline l tag printer =>
    cases h
    rw [← (field_pair printer 1).1]
    exact .request l .printerService tag [printer, 1]
  | printerServiceOnline l tag printer =>
    cases h
    rw [← (field_pair printer 2).1]
    exact .request l .printerService tag [printer, 2]
  | printerServiceClear l tag printer =>
    cases h
    rw [← (field_pair printer 3).1]
    exact .request l .printerService tag [printer, 3]
  | insertion p =>
    cases h
    unfold State.bookEvent
    split
    · exact .happening (.insertion p)
    · next dead => exact .bookInput p true (by simpa using dead)
  | removal p =>
    cases h
    unfold State.bookEvent
    split
    · exact .happening (.removal p)
    · next dead => exact .bookInput p false (by simpa using dead)
  | noBook p => cases h; exact .happening (.waitEnds p .noBook (by decide : PrinterState.waitBook ≠ .fault))
  | pageTimeout p => cases h; exact .happening (.waitEnds p .pageTimeout (by decide : PrinterState.pageTurn ≠ .fault))
  | bookConfirmed p => cases h; exact .happening (.bookConfirmed p)
  | encoderStep p dir => cases h; exact .happening (.encoderStep p dir)
  | jam p => cases h; exact .happening (.jam p)
  | strikeDone p => cases h; exact .happening (.strikeDone p)
  | strikeTimeEnd p => cases h; exact .happening (.strikeTimeEnd p)
  | bookLeft p => cases h; exact .happening (.bookLeft p)
  | seeTellerTimeEnd n => cases h; exact .happening (.seeTellerEnd n)
  | showText l tag body => cases h; exact .request l .showText tag body
  | textHoldEnd n => cases h; exact .happening (.textEnd n)
  | uplinkFrameDiscarded bits => cases h; exact .happening (.bits bits)
  | pingReply => cases h; exact .happening (.message .pingReply)
  | dayOpen f => cases h; exact .happening (.message (.dayOpen f))
  | blockAck k => cases h; exact .happening (.message (.blockAck k))
  | blockNak k => cases h; exact .happening (.message (.blockNak k))
  | answerTimeEnd b => cases h; exact .uplink (.answerTimeEnd b)
  | dayAccepted t => cases h; exact .happening (.message (.dayAccepted t))
  | dayRejected r => cases h; exact .happening (.message (.dayRejected r))
  | verdictWaitEnd => cases h; exact .uplink .verdictWaitEnd
  | uplinkFrameSent => cases h; exact .uplink .frameSent
  | pingRound => cases h; exact .uplink .pingRound
  | pingWaitEnd => cases h; exact .uplink .pingWaitEnd
  | stationByteReceived l b => cases h; exact .byte l b

/-! ### Events and the laws that hold by themselves -/

theorem happening_plainTo {f : State → State} (h : Happening f) (s : State) : s.PlainTo (f s) := by
  cases h with
  | idle n => exact (workTo_idleReached (touched := fun _ => True) s trivial).plain
  | sense n level => exact (workTo_sense (touched := fun _ => True) s level trivial).plain
  | opening n => exact (workTo_opening (touched := fun _ => True) s trivial).plain
  | shutting n => exact (workTo_shutting (touched := fun _ => True) s trivial).plain
  | windowEnd n => exact (workTo_windowEnd (touched := fun _ => True) s trivial).plain
  | drawerLong n => exact (workTo_drawerLong (touched := fun _ => True) s trivial).plain
  | serviceLong n => exact (workTo_serviceLong (touched := fun _ => True) s trivial).plain
  | expiry id => exact (workTo_expireId s id (Dct.idTouches_all _ _)).plain
  | insertion p => exact (printTo_insertion s p).plain
  | removal p => exact (printTo_removal s p).plain
  | waitEnds p outcome wait => exact (printTo_waitEnds s p _ outcome).plain
  | bookConfirmed p => exact (printTo_bookConfirmed s p).plain
  | encoderStep p dir => exact (printTo_encoderStep s p dir).plain
  | jam p => exact (printTo_jam s p).plain
  | strikeDone p => exact (printTo_strikeDone s p).plain
  | strikeTimeEnd p => exact (printTo_strikeTimeEnd s p).plain
  | bookLeft p => exact (printTo_bookLeft s p).plain
  | seeTellerEnd n => exact (printTo_seeTellerEnd s n).plain
  | textEnd n => exact plainTo_setWindows s _
  | message m => exact plainTo_message s m
  | bits bits => exact plainTo_receiveBits s bits

theorem uplinkHappening_uplinkTo {f : State → State} (h : UplinkHappening f) (s : State) : s.UplinkTo (f s) := by
  cases h with
  | answerTimeEnd b => exact uplinkTo_unanswered s b
  | verdictWaitEnd => exact uplinkTo_verdictWaitEnd s
  | frameSent => exact uplinkTo_frameSent s
  | pingRound => exact uplinkTo_pingRound s
  | pingWaitEnd => exact uplinkTo_pingWaitEnd s

end Sys2Proof.Machine
end

section
/-! PROOF. Every step keeps the laws that hold by themselves: requests, resets, ticks and every other row. -/

namespace Sys2Proof.Machine

/-- The laws that hold by themselves. -/
def State.PlainLaws (s : State) : Prop := s.ClockLaw ∧ s.settings.InRange ∧ s.LinkLaw ∧ s.NoticeLaw ∧ s.LockLaw

theorem State.PlainTo.linkLaw {s t : State} (h : s.PlainTo t) (law : s.LinkLaw) : t.LinkLaw := by
  intro l
  rw [LinkRec.Law, (h.line l).1, (h.line l).2]
  exact law l

theorem State.PlainTo.plainLaws {s t : State} (h : s.PlainTo t) (laws : s.PlainLaws) : t.PlainLaws :=
  let ⟨clock, settings, link, notice, lock⟩ := laws
  ⟨h.clock clock, h.settings settings, h.linkLaw link, h.notice notice, h.lock lock⟩

/-! ### Composing, and work on a link's receiver -/

theorem State.PlainTo.whenAlive {s : State} {f : State → State} (h : s.PlainTo (f s)) : s.PlainTo (s.whenAlive f) :=
  .ite (fun _ => h) fun _ => .refl s

theorem lockLaw_of_core {s t : State} (h : ∀ n, (t.pos n).core = (s.pos n).core) (law : s.LockLaw) : t.LockLaw := by
  intro n hw
  have e := h n
  simp only [Position.core, Position.mk.injEq] at e
  obtain ⟨-, -, -, lock, window, sensor, -⟩ := e
  rw [lock, sensor]
  exact law n (window ▸ hw)

theorem plainTo_settle (s : State) : s.PlainTo s.settle where
  line l := by simp [link_settle]
  power := alive_settle s
  restart p := Or.inl (State.supply_settle s ▸ p)
  clock c := by rw [State.ClockLaw, State.day_settle]; exact c
  settings c := by rw [State.settings_settle]; exact c
  notice c l k hk := by rw [link_settle]; exact c l k hk
  lock := lockLaw_of_core (core_settle s)

theorem plainTo_event {s : State} {f : State → State} (h : s.PlainTo (f s)) : s.PlainTo (event f s) :=
  State.PlainTo.whenAlive (f := fun s => (f s).settle) (h.trans (plainTo_settle _))

/-- What a receiver's work leaves of its link. -/
def LinkRec.SameReplies (r q : LinkRec) : Prop := q.transmit = r.transmit ∧ q.inWork = r.inWork ∧ q.notices = r.notices

theorem plainTo_receiver {s t : State} (h : ∀ l, (s.link l).SameReplies (t.link l)) (supply : t.supply = s.supply)
    (day : t.day = s.day) (settings : t.settings = s.settings) (positions : t.positions = s.positions) : s.PlainTo t where
  line l := ⟨(h l).1, (h l).2.1⟩
  power := State.alive_of_supply supply
  restart p := Or.inl (supply ▸ p)
  clock c := by rw [State.ClockLaw, day]; exact c
  settings c := by rw [settings]; exact c
  notice c l k hk := by rw [(h l).2.2]; exact c l k hk
  lock := lockLaw_of_positions positions

theorem plainTo_onReceiver (s : State) (l : Link) {f : LinkRec → LinkRec} (h : (s.link l).SameReplies (f (s.link l))) :
    s.PlainTo (s.onLink l f) := by
  refine plainTo_receiver (fun k => ?_) rfl rfl rfl rfl
  by_cases e : k = l
  · subst e
    rw [State.link_onLink_self]
    exact h
  · rw [State.link_onLink_ne _ _ e]
    exact ⟨rfl, rfl, rfl⟩

theorem LinkRec.sameReplies_abandon (r : LinkRec) : r.SameReplies r.abandon := ⟨rfl, rfl, rfl⟩

theorem LinkRec.sameReplies_gap (r : LinkRec) : r.SameReplies r.gap := by
  unfold LinkRec.gap
  split <;> exact ⟨rfl, rfl, rfl⟩

theorem LinkRec.sameReplies_silent (r : LinkRec) : r.SameReplies r.silent := by
  unfold LinkRec.silent
  split <;> exact ⟨rfl, rfl, rfl⟩

theorem LinkRec.sameReplies_dueQuiet (r : LinkRec) : r.SameReplies r.dueQuiet := by
  unfold LinkRec.dueQuiet
  split
  · exact r.sameReplies_silent
  · exact ⟨rfl, rfl, rfl⟩

theorem LinkRec.sameReplies_byte (b : Byte) (r : LinkRec) : r.SameReplies (r.byte b) := by
  unfold LinkRec.byte
  split
  · split <;> exact ⟨rfl, rfl, rfl⟩
  · split <;> exact ⟨rfl, rfl, rfl⟩
  · exact ⟨rfl, rfl, rfl⟩

theorem plainTo_arrive (s : State) (l : Link) : s.PlainTo (s.arrive l) where
  line k := by
    by_cases e : k = l
    · subst e
      rw [link_arrive_self]
      exact ⟨rfl, rfl⟩
    · rw [link_arrive_ne s e]
      exact ⟨rfl, rfl⟩
  power := alive_arrive s l
  restart p := Or.inl (State.supply_arrive s l ▸ p)
  clock c := by rw [State.ClockLaw, State.day_arrive]; exact c
  settings c := by rw [State.settings_arrive]; exact c
  notice c k q hq := by
    by_cases e : k = l
    · subst e
      rw [link_arrive_self]
      exact c k q hq
    · rw [link_arrive_ne s e]
      exact c k q hq
  lock law n hw := by
    have e := core_arrive s l n
    unfold State.heardPos at e
    split at e <;>
      (simp only [Position.core, Position.mk.injEq] at e
       obtain ⟨-, -, -, lock, window, sensor, -⟩ := e
       rw [lock, sensor]
       exact law n (window ▸ hw))

/-! ### Replies (01 R5) -/

/-- A link's record set while the rest stands. -/
theorem plainLaws_onLink {s : State} {l : Link} {f : LinkRec → LinkRec} (laws : s.PlainLaws) (law : (f (s.link l)).Law)
    (notices : (f (s.link l)).notices = (s.link l).notices) : (s.onLink l f).PlainLaws := by
  obtain ⟨clock, settings, link, notice, lock⟩ := laws
  refine ⟨clock, settings, fun k => ?_, fun k q hq => ?_, lock⟩
  · by_cases e : k = l
    · subst e
      rw [State.link_onLink_self]
      exact law
    · rw [State.link_onLink_ne _ _ e]
      exact link k
  · by_cases e : k = l
    · subst e
      rw [State.link_onLink_self, notices]
      exact notice k q hq
    · rw [State.link_onLink_ne _ _ e]
      exact notice k q hq

/-- A BUSY reply joins a list with a free place. -/
theorem LinkRec.law_placeBusy {r : LinkRec} (kind tag : Byte) (law : r.Law) (inWork : r.inWork = true)
    (room : r.transmit.length < Config.transmitRoom) : (r.place kind tag .busy [] false).Law := by
  obtain ⟨own, -⟩ := law
  have split := List.length_eq_length_filter_add (l := r.transmit) Reply.own
  rw [inWork, if_pos rfl] at own
  refine ⟨?_, ?_⟩
  · simp [LinkRec.place, inWork, own]
  · simp only [LinkRec.place, List.filter_append, List.length_append]
    have busy : (r.transmit.filter fun a => !a.own).length = 0 := by
      simp only [Config.transmitRoom] at room
      omega
    simp [busy]

/-- The accepted request's own reply joins the list. -/
theorem LinkRec.law_placeOwn {r q : LinkRec} (kind tag : Byte) (c : Code) (rest : Bytes) (law : r.Law) (idle : r.inWork = false)
    (transmit : q.transmit = r.transmit) (inWork : q.inWork = true) : (q.place kind tag c rest true).Law := by
  obtain ⟨own, busy⟩ := law
  rw [idle] at own
  refine ⟨?_, ?_⟩
  · simp only [LinkRec.place, transmit, inWork, List.filter_append, List.length_append, own]
    rfl
  · simp only [LinkRec.place, transmit, List.filter_append, List.length_append]
    exact busy

theorem LinkRec.law_replySent {r : LinkRec} (law : r.Law) : r.replySent.Law := by
  cases h : r.transmit with
  | nil => rw [LinkRec.replySent_nil h]; exact law
  | cons a rest =>
    rw [LinkRec.replySent_cons h]
    obtain ⟨own, busy⟩ := law
    rw [h] at own busy
    cases ha : a.own
    · simp only [List.filter_cons, ha, Bool.not_false, if_true, List.length_cons, Bool.false_eq_true, if_false] at own busy
      exact ⟨by simpa [ha] using own, by simpa using Nat.le_of_succ_le busy⟩
    · simp only [List.filter_cons, ha, if_true, List.length_cons, Bool.not_true, Bool.false_eq_true, if_false] at own busy
      refine ⟨?_, by simpa using busy⟩
      cases hw : r.inWork <;> rw [hw] at own
      · cases own
      · simpa [ha] using own

theorem LinkRec.notices_replySent (r : LinkRec) : r.replySent.notices = r.notices := by
  unfold LinkRec.replySent
  split <;> rfl

/-- An accepted request answered, whatever its work `u` on the laws that hold by themselves. -/
theorem plainLaws_reply {s u : State} {l : Link} (kind tag : Byte) (c : Code) (rest : Bytes) (laws : s.PlainLaws)
    (idle : (s.link l).inWork = false) (work : (s.accept l).PlainTo u) : (u.reply l kind tag c rest).PlainLaws := by
  obtain ⟨clock, settings, link, notice, lock⟩ := (plainTo_arrive s l).plainLaws laws
  have accepted : (s.accept l).NoticeLaw := by
    intro k q hq
    by_cases e : k = l
    · subst e
      rw [State.accept, State.link_onLink_self]
      exact notice k q hq
    · rw [State.accept, State.link_onLink_ne _ _ e]
      exact notice k q hq
  refine ⟨work.clock clock, work.settings settings, fun k => ?_, fun k q hq => ?_, work.lock lock⟩
  · by_cases e : k = l
    · subst e
      rw [link_reply_self]
      have line := work.line k
      rw [link_accept_self] at line
      exact LinkRec.law_placeOwn kind tag c rest (laws.2.2.1 k) idle line.1 line.2
    · rw [link_reply_ne _ _ _ _ _ e, LinkRec.Law, (work.line k).1, (work.line k).2, link_accept_ne s e]
      exact laws.2.2.1 k
  · by_cases e : k = l
    · subst e
      rw [link_reply_self]
      exact work.notice accepted k q hq
    · rw [link_reply_ne _ _ _ _ _ e]
      exact work.notice accepted k q hq

theorem plainTo_recordTag (s : State) (l : Link) (tag : Byte) : s.PlainTo (s.recordTag l tag) :=
  plainTo_onReceiver s l ⟨rfl, rfl, rfl⟩

/-- A request's three ways: found in work, refused, and taken. -/
theorem plainLaws_requestWith {s : State} {l : Link} (kind tag : Byte) (acting : Bool) {judge : State → Judged}
    (laws : s.PlainLaws) (judged : Gives (s.accept l).PlainTo (judge (s.accept l))) :
    (requestWith l kind tag acting judge s).PlainLaws := by
  cases alive : s.alive
  · rw [requestWith_dead alive]
    exact laws
  · cases inWork : (s.link l).inWork
    · cases hj : judge (s.accept l) with
      | error c =>
        rw [requestWith_error ⟨alive, inWork⟩ hj]
        exact (plainTo_settle _).plainLaws (plainLaws_reply kind tag c [] laws inWork (.refl _))
      | ok t =>
        rw [requestWith_ok ⟨alive, inWork⟩ hj]
        refine (plainTo_settle _).plainLaws (plainLaws_reply kind tag t.code t.rest laws inWork ?_)
        exact (judged t hj).trans (.ite (fun _ => plainTo_recordTag _ _ _) fun _ => .refl _)
    · rw [requestWith_busy alive inWork]
      have arrived := (plainTo_arrive s l).plainLaws laws
      have record := link_arrive_self s l
      refine (plainTo_settle _).plainLaws (plainLaws_onLink arrived ?_ (by split <;> rfl))
      split
      · next room => exact LinkRec.law_placeBusy kind tag (arrived.2.2.1 l) (by rw [record]; exact inWork) (by rw [record]; exact room)
      · exact arrived.2.2.1 l

theorem gives_judgeRequest {s : State} {l : Link} {k : Kind} (body : Bytes) :
    Gives (s.accept l).PlainTo (judgeRequest l k body (handler l body k) (s.accept l)) :=
  .check fun allowed => .check fun _ => gives_handler _ body allowed (by rw [link_accept_self])

theorem plainLaws_request {s : State} (l : Link) (k : Kind) (tag : Byte) (body : Bytes) (laws : s.PlainLaws) :
    (request l k tag body (handler l body k) s).PlainLaws :=
  plainLaws_requestWith _ _ _ laws (gives_judgeRequest body)

theorem plainLaws_unknownRequest {s : State} (l : Link) (kind tag : Byte) (laws : s.PlainLaws) :
    (unknownRequest l kind tag s).PlainLaws := plainLaws_requestWith _ _ _ laws (.error _)

theorem plainLaws_requestFrame {s : State} (l : Link) (kind tag : Byte) (body : Bytes) (laws : s.PlainLaws) :
    (requestFrame l kind tag body s).PlainLaws := by
  unfold requestFrame
  split
  · exact plainLaws_request l _ tag body laws
  · exact plainLaws_unknownRequest l kind tag laws

theorem plainLaws_receiveByte {s : State} (l : Link) (b : Byte) (laws : s.PlainLaws) : (receiveByte l b s).PlainLaws := by
  have received : (s.onLink l fun _ => (s.link l).byte b).PlainLaws :=
    (plainTo_onReceiver s l (LinkRec.sameReplies_byte b _)).plainLaws laws
  unfold receiveByte
  dsimp only
  split
  · unfold completeFrame
    split
    · exact plainLaws_requestFrame l _ _ _ received
    · exact (plainTo_onReceiver _ l (LinkRec.sameReplies_abandon _)).plainLaws received
  · exact received

/-! ### Resets (02 R31 to R34) -/

theorem highJournal_uncarried {s t : State} {k : Notice} {l : Link} (h : k.carriedBy l = false) :
    (s.highJournal t).contains (k, l) = false := by
  unfold State.highJournal
  split
  · cases l <;> cases k <;> first | rfl | cases h
  · rfl

theorem LinkRec.law_idle {r : LinkRec} (inWork : r.inWork = false) (transmit : r.transmit = []) : r.Law := by
  rw [LinkRec.Law, inWork, transmit]
  exact ⟨rfl, Nat.zero_le _⟩

theorem noticeLaw_resetKept (s : State) : s.resetKept.NoticeLaw := by
  intro l k hk
  rw [resetKept_eq, link_lit, notices_resetBase, highJournal_uncarried hk, Bool.or_false]
  cases k <;> first | rfl | (rw [carriedBy_restarted] at hk; cases hk)

theorem linkLaw_resetKept (s : State) : s.resetKept.LinkLaw := by
  intro l
  rw [resetKept_eq, link_lit, link_resetBase]
  exact LinkRec.law_idle rfl rfl

theorem pos_resetKept (s : State) (n : Fin 8) :
    s.resetKept.pos n = { (s.pos n).reset s.settings.openLimit with
      idle := ((s.pos n).reset s.settings.openLimit).isIdle s.settings.idleBlank } := by
  rw [resetKept_eq, pos_lit, pos_resetBase, settings_resetBase]

theorem plainLaws_resetKept {s : State} (clock : s.ClockLaw) (settings : s.settings.InRange) : s.resetKept.PlainLaws := by
  refine ⟨?_, ?_, linkLaw_resetKept s, noticeLaw_resetKept s, fun n hw => ?_⟩
  · rw [State.ClockLaw, resetKept_eq, State.day_lit, day_resetBase]
    exact clock
  · rw [resetKept_eq, State.settings_lit, settings_resetBase]
    exact settings
  · rw [pos_resetKept] at hw
    exact absurd rfl hw

theorem holdAt_le (bound n : Nat) : holdAt bound n ≤ bound := by
  unfold holdAt
  split <;> omega

theorem plainLaws_warmReset {s : State} (c : ResetCause) (clock : s.ClockLaw) (settings : s.settings.InRange) :
    (s.warmReset c).PlainLaws :=
  plainLaws_resetKept (s := s.setCause c (holdAt 255 (s.day.warmCount + 1)))
    ⟨clock.1, clock.2.1, clock.2.2.1, holdAt_le _ _⟩ settings

theorem plainLaws_warmRestart {s : State} (laws : s.PlainLaws) : s.warmRestart.PlainLaws := by
  unfold State.warmRestart
  split
  · exact plainLaws_warmReset (s := s.onLink .sl LinkRec.ownSent) _ laws.1 laws.2.1
  · exact laws

theorem plainLaws_replySent {s : State} (l : Link) (laws : s.PlainLaws) : (s.replySent l).PlainLaws := by
  unfold State.replySent
  split
  · exact plainLaws_warmRestart laws
  · exact plainLaws_onLink laws (LinkRec.law_replySent (laws.2.2.1 l)) (LinkRec.notices_replySent _)

theorem plainLaws_cold (pending : List Instr) (line : Bool) (straps : Vec 9 Speed) (sensors : Vec 8 Sensor) (books : Vec 2 Bool) :
    (State.cold pending line straps sensors books).PlainLaws :=
  have sound := sound_cold pending line straps sensors books
  ⟨sound.clock, sound.settings, sound.link, sound.notice, sound.lock⟩

theorem pos_holdReset (s : State) (n : Fin 8) : s.holdReset.pos n = (s.pos n).secure := Vec.get_map _ _ _

theorem plainLaws_holdReset {s : State} (laws : s.PlainLaws) : s.holdReset.PlainLaws := by
  obtain ⟨clock, settings, link, notice, -⟩ := laws
  refine ⟨clock, settings, link, notice, fun n hw => ?_⟩
  rw [pos_holdReset] at hw
  exact absurd rfl hw

theorem plainLaws_assertReset {s : State} (laws : s.PlainLaws) : s.assertReset.PlainLaws := by
  unfold State.assertReset
  split
  · exact plainLaws_holdReset (s := { s with supply := { s.supply with resetLine := true, restartPending := false } }) laws
  · exact laws

theorem plainLaws_releaseReset {s : State} (laws : s.PlainLaws) : s.releaseReset.PlainLaws := by
  unfold State.releaseReset
  dsimp only
  split
  · exact plainLaws_warmReset (s := { s with supply := { s.supply with resetLine := false } }) _ laws.1 laws.2.1
  · exact laws

theorem link_powerFail (s : State) (l : Link) : s.powerFail.link l = { s.link l with inWork := false, transmit := [] } :=
  Vec.get_map _ _ _

theorem plainLaws_powerFail {s : State} (laws : s.PlainLaws) : s.powerFail.PlainLaws := by
  obtain ⟨clock, settings, -, notice, lock⟩ := laws
  refine ⟨clock, settings, fun l => ?_, fun l k hk => ?_, lock⟩
  · rw [link_powerFail]
    exact LinkRec.law_idle rfl rfl
  · rw [link_powerFail]
    exact notice l k hk

theorem plainLaws_powerUp {s : State} (clock : s.ClockLaw) (settings : s.settings.InRange) : s.powerUp.PlainLaws := by
  unfold State.powerUp
  exact plainLaws_resetKept clock settings

/-- The part held where the reset line is asserted. -/
def State.holdIfAsserted (s : State) : State := if s.supply.resetLine then s.holdReset else s

/-- Main power is present again. -/
def State.powered (s : State) : State := { s with supply := { s.supply with mainPower := true } }

theorem powerReturn_eq (s : State) :
    s.powerReturn = (if s.powered.day.intact then s.powered.powerUp else s.powered.coldStart).holdIfAsserted := rfl

theorem plainLaws_holdIfAsserted {s : State} (laws : s.PlainLaws) : s.holdIfAsserted.PlainLaws := by
  unfold State.holdIfAsserted
  split
  · exact plainLaws_holdReset laws
  · exact laws

theorem plainLaws_powerReturn {s : State} (laws : s.PlainLaws) : s.powerReturn.PlainLaws := by
  have returned : (if s.powered.day.intact then s.powered.powerUp else s.powered.coldStart).PlainLaws := by
    split
    · exact plainLaws_powerUp laws.1 laws.2.1
    · exact plainLaws_cold _ _ _ _ _
  exact plainLaws_holdIfAsserted returned

/-! ### The clock and the ticks (02 R24 to R26) -/

/-- A day's clock set, and windows: nothing else of the laws that hold by themselves. -/
theorem plainTo_setClock (s : State) (d : Day) (w : Vec 8 Window)
    (h : s.ClockLaw → d.hundredths ≤ 99 ∧ d.seconds ≤ 86399 ∧ d.phase ≤ 7 ∧ d.warmCount ≤ 255) :
    s.PlainTo { s with day := d, windows := w } where
  line _ := ⟨rfl, rfl⟩
  power := rfl
  restart := Or.inl
  clock := h
  settings := id
  notice := id
  lock := id

theorem phaseOf_le (count : Nat) : phaseOf count ≤ 7 := by
  have := List.length_filter_le (fun t => decide (t ≤ count)) tickCounts
  simp only [tickCounts, List.length_cons, List.length_nil] at this
  simp only [phaseOf, tickCounts]
  omega

theorem tickCounts_getD_le (i : Nat) : tickCounts[i]?.getD 0 ≤ 99 := by
  cases h : tickCounts[i]? with
  | none => exact Nat.zero_le _
  | some t =>
    have all : ∀ t ∈ tickCounts, t ≤ 99 := by decide
    exact all t (List.mem_of_getElem? h)

theorem plainTo_eightHz (s : State) {phase : Nat} (h : phase ≤ 7) : s.PlainTo (s.eightHz phase) := by
  have phased := plainTo_setClock s { s.day with phase := phase } s.windows fun ⟨hundredths, seconds, _, warm⟩ =>
    ⟨hundredths, seconds, h, warm⟩
  exact phased.trans (State.PlainTo.whenAlive (plainTo_setWindows _ _))

theorem nextSecond_le (n : Nat) : nextSecond n ≤ 86399 := by
  unfold nextSecond
  split <;> omega

theorem plainTo_oneHz (s : State) : s.PlainTo s.oneHz :=
  plainTo_setClock s { s.day with seconds := nextSecond s.day.seconds } s.windows fun ⟨hundredths, _, phase, warm⟩ =>
    ⟨hundredths, nextSecond_le _, phase, warm⟩

theorem plainTo_setHundredths (s : State) {h : Nat} (le : h ≤ 99) :
    s.PlainTo { s with day := { s.day with hundredths := h } } :=
  plainTo_setClock s _ s.windows fun ⟨_, seconds, phase, warm⟩ => ⟨le, seconds, phase, warm⟩

theorem plainTo_eightHzTick (s : State) : s.PlainTo s.eightHzTick :=
  .ite (fun _ => plainTo_eightHz s (phaseOf_le _)) fun _ =>
    (plainTo_setHundredths s (tickCounts_getD_le _)).trans (plainTo_eightHz _ (by omega))

theorem plainTo_advanceClock (s : State) : s.PlainTo s.advanceClock := by
  have advanced := plainTo_setHundredths s (h := if s.day.hundredths < 99 then s.day.hundredths + 1 else 0) (by split <;> omega)
  have ticked := advanced.trans (State.PlainTo.ite (c := (if s.day.hundredths < 99 then s.day.hundredths + 1 else 0) = 0)
    (fun _ => plainTo_oneHz _) fun _ => .refl _)
  exact .ite (fun _ => ticked.trans (plainTo_eightHz _ (phaseOf_le _))) fun _ => ticked

/-! ### Counting and what falls due (02 R26) -/

theorem plainTo_countAll (s : State) : s.PlainTo s.countAll where
  line l := by
    rw [show s.countAll.link l = (s.link l).count from Vec.get_map _ _ _]
    exact ⟨rfl, rfl⟩
  power := rfl
  restart := Or.inl
  clock := id
  settings := id
  notice law l k hk := by
    rw [show s.countAll.link l = (s.link l).count from Vec.get_map _ _ _]
    exact law l k hk
  lock law n hw := by
    rw [show s.countAll.pos n = (s.pos n).count from Vec.get_map _ _ _] at hw ⊢
    refine law n fun e => hw ?_
    simp only [Position.count, e, countDown]

theorem plainTo_dueQuiet (s : State) : s.PlainTo { s with links := s.links.map LinkRec.dueQuiet } := by
  refine plainTo_receiver (fun l => ?_) rfl rfl rfl rfl
  rw [show State.link { s with links := s.links.map LinkRec.dueQuiet } l = (s.link l).dueQuiet from Vec.get_map _ _ _]
  exact LinkRec.sameReplies_dueQuiet _

/-- What falls due at a position, one duration at a time: the sensor's hold, the release window, the open drawer's time, the
service time, the see-teller time and the text's hold. -/
def State.dueHold (s : State) (n : Fin 8) : State :=
  if (s.pos n).hold = some 0 then (if (s.pos n).input = .opened then s.opening n else s.shutting n) else s
def State.dueWindow (s : State) (n : Fin 8) : State := if (s.pos n).window = some 0 then s.windowEnd n else s
def State.dueOpenTime (s : State) (n : Fin 8) : State :=
  if (s.pos n).openLimit * 100 ≤ (s.pos n).openTime then s.drawerLong n else s
def State.dueService (s : State) (n : Fin 8) : State :=
  if (s.pos n).serviceLimit * 100 ≤ (s.pos n).stopwatch then s.serviceLong n else s
def State.dueSeeTeller (s : State) (n : Fin 8) : State := if s.pbu.seeTeller.get n = some 0 then s.seeTellerEnd n else s
def State.dueText (s : State) (n : Fin 8) : State :=
  match (s.window n).text with
  | some t => if t.hold = 0 then s.textEnd n else s
  | none => s

theorem duePosition_eq (s : State) (n : Fin 8) :
    s.duePosition n = (((((s.dueHold n).dueWindow n).dueOpenTime n).dueService n).dueSeeTeller n).dueText n := by
  unfold State.duePosition
  extract_lets a b c d e
  have ha : a = s.dueHold n := rfl
  clear_value a
  have hb : b = a.dueWindow n := rfl
  clear_value b
  have hc : c = b.dueOpenTime n := rfl
  clear_value c
  have hd : d = c.dueService n := rfl
  clear_value d
  have he : e = d.dueSeeTeller n := rfl
  clear_value e
  rw [← ha, ← hb, ← hc, ← hd, ← he]
  rfl

section
variable {touched : Fin 8 → Prop} {n : Fin 8} (s : State)

theorem workTo_dueHold (hn : touched n) : s.WorkTo touched (s.dueHold n) :=
  .ite (fun _ => .ite (fun _ => workTo_opening s hn) fun _ => workTo_shutting s hn) fun _ => .refl s

theorem workTo_dueWindow (hn : touched n) : s.WorkTo touched (s.dueWindow n) :=
  .ite (fun _ => workTo_windowEnd s hn) fun _ => .refl s

theorem workTo_dueOpenTime (hn : touched n) : s.WorkTo touched (s.dueOpenTime n) :=
  .ite (fun _ => workTo_drawerLong s hn) fun _ => .refl s

theorem workTo_dueService (hn : touched n) : s.WorkTo touched (s.dueService n) :=
  .ite (fun _ => workTo_serviceLong s hn) fun _ => .refl s

theorem printTo_dueSeeTeller (n : Fin 8) : s.PrintTo (s.dueSeeTeller n) :=
  .ite (fun _ => printTo_seeTellerEnd s n) fun _ => .refl s

theorem plainTo_dueText (n : Fin 8) : s.PlainTo (s.dueText n) := by
  unfold State.dueText
  split
  · exact .ite (fun _ => plainTo_setWindows s _) fun _ => .refl s
  · exact .refl s

theorem plainTo_duePosition (n : Fin 8) : s.PlainTo (s.duePosition n) := by
  rw [duePosition_eq]
  have due := (((workTo_dueHold (touched := fun _ => True) (n := n) s trivial).trans (workTo_dueWindow (n := n) _ trivial)).trans
    (workTo_dueOpenTime (n := n) _ trivial)).trans (workTo_dueService (n := n) _ trivial)
  exact (due.plain.trans (printTo_dueSeeTeller _ n).plain).trans (plainTo_dueText _ n)

end

theorem plainTo_foldl {α : Type} {f : State → α → State} (h : ∀ (s : State) (a : α), s.PlainTo (f s a)) (l : List α) (s : State) :
    s.PlainTo (l.foldl f s) := by
  induction l generalizing s with
  | nil => exact .refl s
  | cons a l ih => exact (h s a).trans (ih _)

theorem plainTo_dueEntries (s : State) : s.PlainTo s.dueEntries :=
  plainTo_foldl (fun s id => (workTo_expireId s id (Dct.idTouches_all _ _)).plain) _ s

theorem uplinkTo_dueUplink (s : State) : s.UplinkTo ((s.dueAnswer 0).dueAnswer 1).dueVerdict.duePing :=
  (((uplinkTo_dueAnswer s 0).trans (uplinkTo_dueAnswer _ 1)).trans (uplinkTo_dueVerdict _)).trans (uplinkTo_duePing _)

theorem plainTo_dueAll (s : State) : s.PlainTo s.dueAll := by
  refine (plainTo_dueQuiet s).trans ?_
  refine (plainTo_foldl plainTo_duePosition (List.finRange 8) _).trans ?_
  refine (plainTo_dueEntries _).trans ?_
  exact ((printTo_duePrinter _ 0).trans (printTo_duePrinter _ 1)).plain.trans (uplinkTo_dueUplink _).plain

theorem plainTo_tick (s : State) : s.PlainTo s.tick :=
  (plainTo_advanceClock s).trans (State.PlainTo.whenAlive (f := fun s => s.countAll.dueAll.settle)
    (((plainTo_countAll _).trans (plainTo_dueAll _)).trans (plainTo_settle _)))

/-! ### Every row -/

theorem plainLaws_row {s t : State} (h : s.Row t) (laws : s.PlainLaws) : t.PlainLaws := by
  have onReceiver {l : Link} {f : LinkRec → LinkRec} (hf : (s.link l).SameReplies (f (s.link l))) :
      (s.whenAlive fun s => s.onLink l f).PlainLaws :=
    (State.PlainTo.whenAlive (f := fun s => s.onLink l f) (plainTo_onReceiver s l hf)).plainLaws laws
  have alive {f : State → State} (hf : (f s).PlainLaws) : (s.whenAlive f).PlainLaws := by
    unfold State.whenAlive
    split
    · exact hf
    · exact laws
  cases h with
  | byte l b => exact alive (plainLaws_receiveByte l b laws)
  | abandon l => exact onReceiver (LinkRec.sameReplies_abandon _)
  | gap l => exact onReceiver (LinkRec.sameReplies_gap _)
  | silent l => exact onReceiver (LinkRec.sameReplies_silent _)
  | replySent l => exact alive (plainLaws_replySent l laws)
  | unknown l kind tag => exact plainLaws_unknownRequest l kind tag laws
  | request l k tag body => exact plainLaws_request l k tag body laws
  | happening h => exact (plainTo_event (happening_plainTo h s)).plainLaws laws
  | uplink h => exact (State.PlainTo.whenAlive (uplinkHappening_uplinkTo h s).plain).plainLaws laws
  | senseInput n level => exact (workTo_onPos (touched := fun _ => True) s (fun p => { p with input := level }) trivial fun h => h).plain.plainLaws laws
  | bookInput p level => exact (printTo_onPrinter s p fun r => { r with input := level }).plain.plainLaws laws
  | warmRestart => exact alive (plainLaws_warmRestart laws)
  | assertReset => exact plainLaws_assertReset laws
  | releaseReset => exact plainLaws_releaseReset laws
  | powerFail => exact plainLaws_powerFail laws
  | powerAbsent => exact laws
  | backupLow =>
    unfold State.backupLow
    split
    · exact laws
    · exact laws
  | powerReturn => exact plainLaws_powerReturn laws
  | oneHz => exact ((plainTo_setHundredths s (Nat.zero_le _)).trans (plainTo_oneHz _)).plainLaws laws
  | eightHz => exact (plainTo_eightHzTick s).plainLaws laws

/-- What one step is: a hundredth of an idle part, or a row run on the queue's rest. -/
theorem step_cases {s t : State} (h : step s = .next t) :
    t = s.tick ∨ ∃ rest : List Instr, State.Row { s with pending := rest } t := by
  cases queue : s.pending with
  | nil =>
    rw [step_nil queue] at h
    cases h
    exact Or.inl rfl
  | cons c rest =>
    rw [step_cons queue] at h
    exact Or.inr ⟨rest, exec_row h⟩

end Sys2Proof.Machine

open Sys2Proof Sys2Proof.Machine

/-- Settles O59: an idle hundredth and every row keep the laws that hold by themselves. -/
theorem plainLawsAreKept : Obligations.PlainLawsAreKept := by
  intro s t laws h
  obtain rfl | ⟨rest, row⟩ := step_cases h
  · exact (plainTo_tick s).plainLaws laws
  · exact plainLaws_row row laws
end

section
/-! PROOF. A sound state taken apart: the laws of the branch as a whole, the laws of one position, and the laws of the
blocks beside them; and what of them stands where an operation does not touch them. -/

namespace Sys2Proof.Machine

/-! ### The laws of one position (03, 04 R79, 05 R86, 06) -/

/-- A position record by itself, with the number that the journal gives next. -/
structure Position.Own (next : Nat) (p : Position) : Prop where
  teller : p.teller = none ↔ p.state = .closed
  start : p.txnStart ≠ none ↔ p.state.inTxn = true
  running : p.running = true ↔ p.state.inTxn = true
  window : ∀ w, p.window = some w → w ≤ Config.releaseWindow
  reached : ∀ q, p.txnStart = some q → 1 ≤ q ∧ q ≤ next
  range : p.InRange

/-- A declaration that DECLARE's checks admit (06 R102). -/
def Admitted (faces : Vec 12 (Option Nat)) (counts : Vec 12 Nat) : Prop :=
  (∀ i, counts.get i ≤ Config.maxDrawerCount) ∧ (∀ i, faces.get i = none → counts.get i = 0) ∧
  worth faces counts ≤ Config.maxTotal

/-- A balancing context against a position state (06 R100, R105). -/
structure Context.Fits (faces : Vec 12 (Option Nat)) (st : PosState) (c : Context) : Prop where
  most : c.attempts ≤ 3
  balancing : st = .balancing → c.attempts = 0
  outOfBalance : st = .outOfBalance → c.attempts = 1 ∨ c.attempts = 2
  forceWait : st = .forceWait → c.attempts = 3 ∧ ∃ counts, c.declaration = some counts ∧ Admitted faces counts

/-- What the laws say of position `n`, were its record `p`. -/
structure State.PosLawAt (s : State) (n : Fin 8) (p : Position) : Prop where
  outside : s.day.state ≠ .opened → s.day.state ≠ .cutoff → p.state = .closed
  own : p.Own s.jnl.next
  amount : (s.window n).amount ≠ none → p.state.inTxn = true
  bright : (s.window n).current ≤ 15 ∧ (s.window n).target ≤ 15
  empty : p.state = .closed → (s.drawer n).isEmpty = true ∧ s.cash.high.get n = false
  held : s.dct.overrides n = if p.state = .held then 1 else 0
  context : (s.context n).Fits s.cash.faces p.state
  profile : (s.profile n).Law s.cash

def State.PosLaw (s : State) (n : Fin 8) : Prop := s.PosLawAt n (s.pos n)

/-! ### The laws of the branch (02 R15, R21, 03 R38, 04, 05 R84, 07 R118) -/

/-- The cash unit by itself. -/
structure Cash.Law (c : Cash) : Prop where
  increasing : increasing (c.faces.toList.filterMap id) = true
  faces : ∀ i v, c.faces.get i = some v → 1 ≤ v ∧ v ≤ Config.maxFace
  drawers : ∀ n, (c.drawers.get n).Law c.faces Config.maxDrawerCount
  vault : c.vault.Law c.faces Config.maxVaultCount
  counters : c.CountersInRange
  conserved : c.Conserved

/-- The dual-control table by itself. -/
structure Dct.Law (c : Cash) (d : Dct) : Prop where
  room : d.entries.length ≤ Config.tableRoom
  distinct : (d.entries.map Entry.id).Nodup
  entries : ∀ e ∈ d.entries, 1 ≤ e.id ∧ e.id ≤ 255 ∧ e.Law c
  cursor : d.cursor ≤ 255

/-- The journal in a day state. -/
structure Journal.Law (st : DayState) (j : Journal) : Prop where
  numbers : j.records.map Record.seq = List.range' 1 j.records.length
  next : j.next = j.records.length + 1
  room : j.records.length ≤ Config.journalRoom
  customers : j.customers ≤ Config.customerRoom
  closed : st = .closed → j.records = []
  unsent : st = .opened ∨ st = .cutoff → ∀ r ∈ j.records, r.sent = false
  records : ∀ r ∈ j.records, r.Law
  unjournaled : j.unjournaled ≤ Config.hold16
  carry : j.carry.length ≤ Config.carryRoom

structure State.BranchLaw (s : State) : Prop where
  parameters : s.day.ParametersInRange
  outside : s.day.state ≠ .opened → s.day.state ≠ .cutoff → s.dct.entries = []
  tellers : ∀ n m, (s.pos n).teller = (s.pos m).teller → (s.pos n).teller ≠ none → n = m
  cash : s.cash.Law
  table : s.dct.Law s.cash
  journal : s.jnl.Law s.day.state

/-- The branch's books: its laws as a whole and those of every position. -/
structure State.Books (s : State) : Prop where
  branch : s.BranchLaw
  pos : ∀ n, s.PosLaw n

/-- Everything sound but the station lines, and that the displays are composed. -/
structure State.Core (s : State) : Prop where
  settings : s.settings.InRange
  books : s.Books
  lamp : s.LampLaw
  printer : s.PrinterLaw
  uplink : s.UplinkLaw

/-! ### A sound state is these -/

theorem Context.fits_iff {s : State} (n : Fin 8) :
    (s.context n).Fits s.cash.faces (s.pos n).state ↔
    (s.context n).attempts ≤ 3 ∧
    match (s.pos n).state with
    | .balancing => (s.context n).attempts = 0
    | .outOfBalance => (s.context n).attempts = 1 ∨ (s.context n).attempts = 2
    | .forceWait =>
      (s.context n).attempts = 3 ∧ ∃ counts, (s.context n).declaration = some counts ∧
        (∀ i, counts.get i ≤ Config.maxDrawerCount) ∧ (∀ i, s.cash.faces.get i = none → counts.get i = 0) ∧
        worth s.cash.faces counts ≤ Config.maxTotal
    | _ => True := by
  constructor
  · rintro ⟨most, balancing, outOfBalance, forceWait⟩
    refine ⟨most, ?_⟩
    split
    · next h => exact balancing h
    · next h => exact outOfBalance h
    · next h => exact forceWait h
    · trivial
  · rintro ⟨most, rest⟩
    refine ⟨most, fun h => ?_, fun h => ?_, fun h => ?_⟩
    all_goals
      rw [h] at rest
      exact rest

theorem contextLaw_iff (s : State) : s.ContextLaw ↔ ∀ n, (s.context n).Fits s.cash.faces (s.pos n).state := by
  simp only [Context.fits_iff]
  exact Iff.rfl

theorem Cash.law_of_cashLaw {s : State} (h : s.CashLaw) : s.cash.Law := by
  obtain ⟨⟨increasing, faces⟩, ⟨drawers, vault⟩, -, counters, conserved⟩ := h
  exact ⟨increasing, faces, drawers, vault, counters, conserved⟩

theorem State.Sound.posLaw {s : State} (h : s.Sound) (n : Fin 8) : s.PosLaw n := by
  obtain ⟨start, running, amount⟩ := h.txn n
  obtain ⟨window, reached⟩ := h.watch n
  obtain ⟨range, bright⟩ := h.range n
  obtain ⟨outside, teller, -⟩ := h.day
  obtain ⟨-, -, empty, -⟩ := h.cash
  obtain ⟨-, -, -, -, held⟩ := h.table
  exact {
    outside := fun a b => (outside a b).1 n
    own := ⟨teller n, start, running, window, reached, range⟩
    amount := amount
    bright := bright
    empty := empty n
    held := held n
    context := (contextLaw_iff s).1 h.context n
    profile := h.profile n }

theorem State.Sound.branchLaw {s : State} (h : s.Sound) : s.BranchLaw := by
  obtain ⟨outside, -, tellers⟩ := h.day
  obtain ⟨room, distinct, entries, cursor, -⟩ := h.table
  obtain ⟨numbers, next, full, customers, closed, unsent, records, unjournaled, carry⟩ := h.journal
  exact {
    parameters := h.parameters
    outside := fun a b => (outside a b).2
    tellers := tellers
    cash := Cash.law_of_cashLaw h.cash
    table := ⟨room, distinct, entries, cursor⟩
    journal := ⟨numbers, next, full, customers, closed, unsent, records, unjournaled, carry⟩ }

theorem State.Sound.core {s : State} (h : s.Sound) : s.Core :=
  ⟨h.settings, ⟨h.branchLaw, h.posLaw⟩, h.lamp, h.printer, h.uplink⟩

theorem State.Sound.plainLaws {s : State} (h : s.Sound) : s.PlainLaws := ⟨h.clock, h.settings, h.link, h.notice, h.lock⟩

/-- A sound state put together. -/
theorem State.Core.sound {s : State} (h : s.Core) (plain : s.PlainLaws) (restart : s.RestartLaw) (composed : s.ComposedLaw) :
    s.Sound := by
  obtain ⟨settings, ⟨branch, pos⟩, lamp, printer, uplink⟩ := h
  obtain ⟨clock, -, link, notice, lock⟩ := plain
  obtain ⟨numbers, next, full, customers, closed, unsent, records, unjournaled, carry⟩ := branch.journal
  exact {
    clock := clock, settings := settings, parameters := branch.parameters
    day := ⟨fun a b => ⟨fun n => (pos n).outside a b, branch.outside a b⟩, fun n => (pos n).own.teller, branch.tellers⟩
    txn := fun n => ⟨(pos n).own.start, (pos n).own.running, (pos n).amount⟩
    lock := lock
    watch := fun n => ⟨(pos n).own.window, (pos n).own.reached⟩
    range := fun n => ⟨(pos n).own.range, (pos n).bright⟩
    link := link, restart := restart, notice := notice
    cash := ⟨⟨branch.cash.increasing, branch.cash.faces⟩, ⟨branch.cash.drawers, branch.cash.vault⟩, fun n => (pos n).empty,
      branch.cash.counters, branch.cash.conserved⟩
    table := ⟨branch.table.room, branch.table.distinct, branch.table.entries, branch.table.cursor, fun n => (pos n).held⟩
    context := (contextLaw_iff s).2 fun n => (pos n).context
    profile := fun n => (pos n).profile
    journal := ⟨numbers, next, full, customers, closed, unsent, records, unjournaled, carry⟩
    printer := printer, uplink := uplink, composed := composed, lamp := lamp }

/-! ### What an operation does not touch -/

theorem Position.Own.mono {next next' : Nat} {p : Position} (h : p.Own next) (le : next ≤ next') : p.Own next' :=
  { h with reached := fun q hq => ⟨(h.reached q hq).1, Nat.le_trans (h.reached q hq).2 le⟩ }

theorem Profile.Law.mono {c d : Cash} {f : Profile} (h : f.Law c)
    (grow : c.cashIn ≤ d.cashIn ∧ c.cashOut ≤ d.cashOut ∧ c.dayOver ≤ d.dayOver ∧ c.dayShort ≤ d.dayShort) : f.Law d := by
  obtain ⟨transactions, least, greatest, sum, postings, overrides, cashIn, cashOut, largest, above, below⟩ := h
  obtain ⟨gIn, gOut, gOver, gShort⟩ := grow
  exact ⟨transactions, least, greatest, sum, postings, overrides, Nat.le_trans cashIn gIn, Nat.le_trans cashOut gOut, largest,
    Nat.le_trans above gOver, Nat.le_trans below gShort⟩

/-- A position's laws stand where its entries do, the journal has not gone back and the day counters have not shrunk. -/
theorem State.PosLaw.of_work {touched : Fin 8 → Prop} {s t : State} {n : Fin 8} (h : s.PosLaw n) (w : s.WorkTo touched t)
    (hn : ¬touched n) : t.PosLaw n := by
  have same := w.same n hn
  obtain ⟨outside, own, amount, bright, empty, held, context, profile⟩ := h
  unfold State.PosLaw
  rw [same.pos]
  exact {
    outside := by rw [w.day]; exact outside
    own := own.mono w.next
    amount := by rw [same.amount]; exact amount
    bright := by rw [w.layers n]; exact bright
    empty := by rw [same.drawer, same.high]; exact empty
    held := by rw [same.overrides]; exact held
    context := by rw [same.context, w.faces]; exact context
    profile := by rw [same.profile]; exact profile.mono w.grow }

/-- The books that positions, cash, table and journal keep alike. -/
structure State.SameBooks (s t : State) : Prop where
  day : t.day = s.day := by rfl
  tellers : ∀ n, (t.pos n).teller = (s.pos n).teller := by exact fun _ => rfl
  cash : t.cash = { s.cash with high := t.cash.high } := by rfl
  entries : t.dct.entries = s.dct.entries := by rfl
  cursor : t.dct.cursor = s.dct.cursor := by rfl
  jnl : t.jnl = s.jnl := by rfl

theorem Entry.Law.of_faces {c d : Cash} {e : Entry} (h : e.Law c) (faces : d.faces = c.faces) : e.Law d := by
  obtain ⟨least, most, rest⟩ := h
  refine ⟨least, most, ?_⟩
  cases hp : e.proposal with
  | transfer src dst lines =>
    simp only [hp] at rest ⊢
    simpa only [Cash.proposalOk, Cash.linesSound, Cash.face?, faces] using rest
  | override n p =>
    simp only [hp] at rest ⊢
    simpa only [Cash.breakdownOk, Cash.linesSound, Cash.face?, faces] using rest

theorem Dct.Law.of_faces {c c' : Cash} {d : Dct} (h : d.Law c) (faces : c'.faces = c.faces) : d.Law c' :=
  { h with entries := fun e he =>
      let ⟨least, most, law⟩ := h.entries e he
      ⟨least, most, law.of_faces faces⟩ }

theorem Dct.Law.of_same {c : Cash} {d d' : Dct} (h : d.Law c) (entries : d'.entries = d.entries) (cursor : d'.cursor = d.cursor) :
    d'.Law c where
  room := by rw [entries]; exact h.room
  distinct := by rw [entries]; exact h.distinct
  entries := by rw [entries]; exact h.entries
  cursor := by rw [cursor]; exact h.cursor

theorem Cash.Law.of_high {c d : Cash} (h : c.Law) (same : d = { c with high := d.high }) : d.Law := by
  rw [same]
  exact ⟨h.increasing, h.faces, h.drawers, h.vault, h.counters, h.conserved⟩

theorem State.BranchLaw.of_sameBooks {s t : State} (h : s.BranchLaw) (same : s.SameBooks t) : t.BranchLaw where
  parameters := by rw [same.day]; exact h.parameters
  outside := by rw [same.day, same.entries]; exact h.outside
  tellers n m := by rw [same.tellers, same.tellers]; exact h.tellers n m
  cash := h.cash.of_high same.cash
  table := (h.table.of_faces (by rw [same.cash])).of_same same.entries same.cursor
  journal := by rw [same.jnl, same.day]; exact h.journal

/-- Books that no position's entries have been changed in. -/
theorem State.Books.of_work {s t : State} (h : s.Books) (w : s.WorkTo (fun _ => False) t) (branch : t.BranchLaw) : t.Books :=
  ⟨branch, fun n => (h.pos n).of_work w id⟩

/-- Books that one position's entries have been changed in. -/
theorem State.Books.of_touch {s t : State} (n : Fin 8) (h : s.Books) (w : s.WorkTo (· = n) t) (branch : t.BranchLaw)
    (self : t.PosLaw n) : t.Books where
  branch := branch
  pos m := by
    by_cases e : m = n
    · exact e ▸ self
    · exact (h.pos m).of_work w e

/-- The rest of a state's core after work on its books. -/
theorem State.Core.of_work {touched : Fin 8 → Prop} {s t : State} (h : s.Core) (w : s.WorkTo touched t) (books : t.Books) :
    t.Core where
  settings := by rw [w.settings]; exact h.settings
  books := books
  lamp alive m := by
    rw [w.layers m, w.day]
    exact h.lamp (by rwa [State.alive_of_supply w.supply] at alive) m
  printer := by
    unfold State.PrinterLaw State.printer
    rw [w.pbu]
    exact h.printer
  uplink := by
    unfold State.UplinkLaw
    rw [w.day, w.ulc]
    exact h.uplink

/-! ### Marks (07 R125 to R128) and the uplink's own work -/

theorem Journal.MarksTo.map_eq {α : Type} {j k : Journal} (h : j.MarksTo k) (f : Record → α)
    (hf : ∀ r q : Record, r.MarkedTo q → f q = f r) : k.records.map f = j.records.map f := by
  obtain ⟨records, -, -, -⟩ := h
  generalize j.records = l at records
  generalize k.records = m at records
  induction records with
  | nil => rfl
  | cons hab _ ih => rw [List.map_cons, List.map_cons, ih, hf _ _ hab]

theorem Journal.MarksTo.mem {j k : Journal} (h : j.MarksTo k) {q : Record} (hq : q ∈ k.records) :
    ∃ r ∈ j.records, r.MarkedTo q := by
  obtain ⟨records, -, -, -⟩ := h
  generalize j.records = l at records ⊢
  generalize k.records = m at records hq
  induction records with
  | nil => cases hq
  | @cons a b l m hab _ ih =>
    rcases List.mem_cons.1 hq with rfl | hq
    · exact ⟨a, List.mem_cons_self .., hab⟩
    · obtain ⟨r, hr, hm⟩ := ih hq
      exact ⟨r, List.mem_cons_of_mem _ hr, hm⟩

theorem Journal.MarksTo.length {j k : Journal} (h : j.MarksTo k) : k.records.length = j.records.length :=
  h.records.length_eq.symm

theorem Journal.customers_eq (j : Journal) : j.customers = ((j.records.map Record.kind).filter RecordKind.customer).length := by
  rw [List.filter_map, List.length_map]
  rfl

/-- The journal's law does not depend on marks. -/
theorem Journal.Law.of_marks {st : DayState} {j k : Journal} (h : j.Law st) (m : j.MarksTo k) : k.Law st where
  numbers := by rw [m.map_eq Record.seq fun _ _ e => e.1, m.length]; exact h.numbers
  next := by rw [m.next, m.length]; exact h.next
  room := by rw [m.length]; exact h.room
  customers := by
    rw [Journal.customers_eq, m.map_eq Record.kind fun _ _ e => e.2.1, ← Journal.customers_eq]
    exact h.customers
  closed e := List.length_eq_zero_iff.1 (by rw [m.length, h.closed e]; rfl)
  unsent e q hq := by
    obtain ⟨r, hr, marked⟩ := m.mem hq
    rw [marked.2.2.1]
    exact h.unsent e r hr
  records q hq := by
    obtain ⟨r, hr, marked⟩ := m.mem hq
    exact marked.2.2.2 (h.records r hr)
  unjournaled := by rw [m.unjournaled]; exact h.unjournaled
  carry := Nat.le_trans m.carry h.carry

/-- Positions, windows, cash, table and balancing stand, and the journal but for its marks. -/
theorem State.Books.of_marks {s t : State} (h : s.Books) (day : t.day = s.day) (positions : t.positions = s.positions)
    (cash : t.cash = s.cash) (dct : t.dct = s.dct) (bal : t.bal = s.bal) (windows : t.windows = s.windows)
    (marks : s.jnl.MarksTo t.jnl) : t.Books where
  branch := {
    parameters := by rw [day]; exact h.branch.parameters
    outside := by rw [day, dct]; exact h.branch.outside
    tellers := by unfold State.pos; rw [positions]; exact h.branch.tellers
    cash := by rw [cash]; exact h.branch.cash
    table := by rw [dct, cash]; exact h.branch.table
    journal := by rw [day]; exact h.branch.journal.of_marks marks }
  pos n := by
    obtain ⟨outside, own, amount, bright, empty, held, context, profile⟩ := h.pos n
    unfold State.PosLaw State.pos
    rw [positions]
    exact {
      outside := by rw [day]; exact outside
      own := by rw [marks.next]; exact own
      amount := by unfold State.window; rw [windows]; exact amount
      bright := by unfold State.window; rw [windows]; exact bright
      empty := by unfold State.drawer; rw [cash]; exact empty
      held := by rw [dct]; exact held
      context := by unfold State.context; rw [bal, cash]; exact context
      profile := by unfold State.profile; rw [bal, cash]; exact profile }

theorem lampLaw_of_same {s t : State} (supply : t.supply = s.supply) (day : t.day = s.day) (windows : t.windows = s.windows)
    (h : s.LampLaw) : t.LampLaw := by
  intro alive m
  unfold State.window
  rw [windows, day]
  exact h (by rwa [State.alive_of_supply supply] at alive) m

theorem State.Core.of_print {s t : State} (h : s.Core) (w : s.PrintTo t) (printer : t.PrinterLaw) : t.Core where
  settings := by rw [w.settings]; exact h.settings
  books := h.books.of_marks w.day w.positions w.cash w.dct w.bal w.windows w.marks
  lamp := lampLaw_of_same w.supply w.day w.windows h.lamp
  printer := printer
  uplink := by
    unfold State.UplinkLaw
    rw [w.day, w.ulc]
    exact h.uplink

theorem State.Core.of_uplink {s t : State} (h : s.Core) (w : s.UplinkTo t) (uplink : t.UplinkLaw) : t.Core where
  settings := by rw [w.settings]; exact h.settings
  books := h.books.of_marks w.day w.positions w.cash w.dct w.bal w.windows (by rw [w.jnl]; exact .refl _)
  lamp := lampLaw_of_same w.supply w.day w.windows h.lamp
  printer := by
    unfold State.PrinterLaw State.printer
    rw [w.pbu]
    exact h.printer
  uplink := uplink

end Sys2Proof.Machine
end

section
/-! PROOF. Cash arithmetic (04 R60 to R63): the value of pieces is additive, an absent slot never gains a piece, and every
change of a cash record keeps the grand total equal to what the day counters say. -/

namespace Sys2Proof.Machine

/-! ### The value of pieces (04 R61) -/

theorem Vec.sum_tab {n : Nat} (f : Fin n → Int) : (Vec.tab f).sum = ∑ i, f i := by
  rw [Fin.sum_univ_def]
  rfl

theorem worth_eq_sum (faces : Vec 12 (Option Nat)) (counts : Vec 12 Nat) :
    worth faces counts = ∑ i, (counts.get i : Int) * ((faces.get i).getD 0 : Int) := by
  simp only [worth, Vec.sum_tab, Nat.cast_mul]

theorem worth_nonneg (faces : Vec 12 (Option Nat)) (counts : Vec 12 Nat) : 0 ≤ worth faces counts := by
  rw [worth_eq_sum]
  exact Finset.sum_nonneg fun i _ => Int.mul_nonneg (Int.natCast_nonneg _) (Int.natCast_nonneg _)

/-- Counts that differ slot by slot as given differ in value so. -/
theorem worth_of_counts (faces : Vec 12 (Option Nat)) {a b c d : Vec 12 Nat}
    (h : ∀ i, (a.get i : Int) + c.get i = (b.get i : Int) + d.get i) :
    worth faces a + worth faces c = worth faces b + worth faces d := by
  simp only [worth_eq_sum, ← Finset.sum_add_distrib, ← Int.add_mul, h]

/-! ### Pieces of a breakdown (04 R66) -/

theorem pieces_get (isIn : Bool) (lines : List Line) (i : Fin 12) :
    (pieces isIn lines).get i = ((lines.filter fun l => l.isIn == isIn && l.slot == i.val).map Line.count).sum :=
  Vec.get_tab _ _

theorem Cash.face?_of_lt (c : Cash) {slot : Nat} (i : Fin 12) (h : slot = i.val) : c.face? slot = c.faces.get i := by
  subst h
  simp [Cash.face?]

/-- Sound lines name no absent slot. -/
theorem pieces_absent {c : Cash} {lines : List Line} (sound : c.linesSound lines = true) (isIn : Bool) {i : Fin 12}
    (absent : c.faces.get i = none) : (pieces isIn lines).get i = 0 := by
  have none : lines.filter (fun l => l.isIn == isIn && l.slot == i.val) = [] := by
    refine List.filter_eq_nil_iff.2 fun l hl named => ?_
    simp only [Cash.linesSound, Bool.and_eq_true, List.all_eq_true] at sound
    obtain ⟨-, slot⟩ := by simpa using named
    have present := (sound.1 l hl).1
    rw [c.face?_of_lt i slot, absent] at present
    exact absurd present Bool.false_ne_true
  rw [pieces_get, none]
  rfl

/-! ### Cash records (04 R61) -/

/-- A cash record recomputed meets its law where its figures lie in their ranges. -/
theorem CashRecord.law_make {faces : Vec 12 (Option Nat)} {bound : Nat} {counts : Vec 12 Nat} {u : Int}
    (absent : ∀ i, faces.get i = none → counts.get i = 0) (most : ∀ i, counts.get i ≤ bound)
    (unitemized : -Config.maxUnitemized ≤ u ∧ u ≤ Config.maxUnitemized)
    (total : 0 ≤ worth faces counts + u ∧ worth faces counts + u ≤ Config.maxTotal) :
    (CashRecord.make faces counts u).Law faces bound := ⟨rfl, absent, most, unitemized, total⟩

theorem CashRecord.isEmpty_iff (r : CashRecord) : r.isEmpty = true ↔ (∀ i, r.counts.get i = 0) ∧ r.unitemized = 0 := by
  simp [CashRecord.isEmpty, Vec.all_iff]

theorem worth_of_zero (faces : Vec 12 (Option Nat)) {counts : Vec 12 Nat} (h : ∀ i, counts.get i = 0) : worth faces counts = 0 := by
  rw [worth_eq_sum]
  exact Finset.sum_eq_zero fun i _ => by rw [h i]; exact Int.zero_mul _

theorem CashRecord.total_of_isEmpty {faces : Vec 12 (Option Nat)} {bound : Nat} {r : CashRecord} (law : r.Law faces bound)
    (empty : r.isEmpty = true) : r.total = 0 := by
  obtain ⟨counts, unitemized⟩ := r.isEmpty_iff.1 empty
  rw [law.1, unitemized, worth_of_zero faces counts]
  rfl

/-- The value that a sound breakdown adds to a record is its direction's signed amount. -/
theorem total_moved {c : Cash} {dir : CashDir} {amount : Nat} {lines : List Line} {r : CashRecord} {bound : Nat}
    (law : r.Law c.faces bound) (moves : dir ≠ .none) (sound : c.breakdownOk dir amount lines = true)
    (takes : c.Takes dir amount lines r) : (r.moved c.faces dir amount lines).total = r.total + dir.signed amount := by
  obtain ⟨total, -⟩ := law
  unfold CashRecord.moved
  split
  · simp only [CashRecord.make, total]
    omega
  · next itemized =>
    simp only [Cash.breakdownOk, itemized, Bool.false_or, Bool.and_eq_true, decide_eq_true_eq] at sound
    obtain ⟨-, net⟩ := sound
    have value := worth_of_counts c.faces (a := Vec.tab fun i => r.counts.get i + (pieces true lines).get i - (pieces false lines).get i)
      (c := pieces false lines) (b := r.counts) (d := pieces true lines) fun i => by
        have := takes.covered i
        rw [Vec.get_tab]
        omega
    simp only [CashRecord.make, total]
    cases dir with
    | none => exact absurd rfl moves
    | inward =>
      simp only [breakdownNet] at net
      simp only [CashDir.signed]
      omega
    | outward =>
      simp only [breakdownNet] at net
      simp only [CashDir.signed]
      omega

/-- A movement that check 5 admits leaves a record that meets its law (04 R68). -/
theorem CashRecord.law_moved {c : Cash} {dir : CashDir} {amount : Nat} {lines : List Line} {r : CashRecord}
    (law : r.Law c.faces Config.maxDrawerCount) (moves : dir ≠ .none) (sound : c.breakdownOk dir amount lines = true)
    (takes : c.Takes dir amount lines r) : (r.moved c.faces dir amount lines).Law c.faces Config.maxDrawerCount := by
  refine ⟨?_, fun i absent => ?_, takes.counts, takes.unitemized, ?_⟩
  · unfold CashRecord.moved
    split <;> rfl
  · obtain ⟨-, none, -⟩ := law
    unfold CashRecord.moved
    split
    · exact none i absent
    · next itemized =>
      simp only [Cash.breakdownOk, itemized, Bool.false_or, Bool.and_eq_true, decide_eq_true_eq] at sound
      simp only [CashRecord.make, Vec.get_tab, none i absent, pieces_absent sound.1 _ absent]
  · rw [total_moved law moves sound takes]
    exact takes.total

/-! ### The grand total (04 R63) -/

theorem Cash.grandTotal_eq (c : Cash) : c.grandTotal = c.vault.total + ∑ n, (c.drawers.get n).total := by
  have tab : c.drawers.map CashRecord.total = Vec.tab fun n => (c.drawers.get n).total := by
    ext n
    simp
  rw [Cash.grandTotal, tab, Vec.sum_tab]

/-- A drawer replaced moves the grand total by the drawers' difference. -/
theorem sum_set_drawer (v : Vec 8 CashRecord) (n : Fin 8) (r : CashRecord) :
    ∑ m, ((v.set n r).get m).total = (∑ m, (v.get m).total) + r.total - (v.get n).total := by
  have rest : ∑ m ∈ Finset.univ.erase n, ((v.set n r).get m).total = ∑ m ∈ Finset.univ.erase n, (v.get m).total :=
    Finset.sum_congr rfl fun m hm => by rw [Vec.get_set_ne _ _ (Finset.ne_of_mem_erase hm)]
  rw [← Finset.add_sum_erase _ _ (Finset.mem_univ n), ← Finset.add_sum_erase (a := n) _ (fun m => (v.get m).total) (Finset.mem_univ n),
    rest, Vec.get_set_self]
  omega

/-- The cash law but for conservation, from which the grand total is off by `d`. -/
structure Cash.Off (d : Int) (c : Cash) : Prop where
  increasing : increasing (c.faces.toList.filterMap id) = true
  faces : ∀ i v, c.faces.get i = some v → 1 ≤ v ∧ v ≤ Config.maxFace
  drawers : ∀ n, (c.drawers.get n).Law c.faces Config.maxDrawerCount
  vault : c.vault.Law c.faces Config.maxVaultCount
  counters : c.CountersInRange
  off : c.grandTotal = (c.opening : Int) + c.cashIn - c.cashOut + c.dayOver - c.dayShort + d

theorem Cash.Law.off {c : Cash} (h : c.Law) : c.Off 0 :=
  ⟨h.increasing, h.faces, h.drawers, h.vault, h.counters, by rw [Int.add_zero]; exact h.conserved⟩

theorem Cash.Off.law {c : Cash} {d : Int} (h : c.Off d) (zero : d = 0) : c.Law :=
  ⟨h.increasing, h.faces, h.drawers, h.vault, h.counters, by rw [Cash.Conserved, h.off, zero, Int.add_zero]⟩

theorem Cash.Off.setDrawer {c : Cash} {d : Int} (h : c.Off d) (n : Fin 8) {r : CashRecord}
    (law : r.Law c.faces Config.maxDrawerCount) :
    ({ c with drawers := c.drawers.set n r } : Cash).Off (d + r.total - (c.drawers.get n).total) where
  increasing := h.increasing
  faces := h.faces
  drawers m := by
    show ((c.drawers.set n r).get m).Law _ _
    rw [Vec.get_set]
    split
    · exact law
    · exact h.drawers m
  vault := h.vault
  counters := h.counters
  off := by
    have before := h.off
    rw [Cash.grandTotal_eq] at before ⊢
    simp only [sum_set_drawer]
    omega

theorem Cash.Off.setVault {c : Cash} {d : Int} (h : c.Off d) {r : CashRecord} (law : r.Law c.faces Config.maxVaultCount) :
    ({ c with vault := r } : Cash).Off (d + r.total - c.vault.total) where
  increasing := h.increasing
  faces := h.faces
  drawers := h.drawers
  vault := law
  counters := h.counters
  off := by
    have before := h.off
    rw [Cash.grandTotal_eq] at before ⊢
    dsimp only
    omega

theorem Cash.Off.setCounters {c : Cash} {d : Int} (h : c.Off d) {cashIn cashOut dayOver dayShort : Nat}
    (most : cashIn ≤ Config.maxCounter ∧ cashOut ≤ Config.maxCounter ∧ dayOver ≤ Config.maxCounter ∧ dayShort ≤ Config.maxCounter) :
    ({ c with cashIn := cashIn, cashOut := cashOut, dayOver := dayOver, dayShort := dayShort } : Cash).Off
      (d - (cashIn - c.cashIn) + (cashOut - c.cashOut) - (dayOver - c.dayOver) + (dayShort - c.dayShort)) where
  increasing := h.increasing
  faces := h.faces
  drawers := h.drawers
  vault := h.vault
  counters := ⟨h.counters.1, most⟩
  off := by
    have before := h.off
    rw [Cash.grandTotal_eq] at before ⊢
    dsimp only
    omega

/-- An accepted difference brings the grand total back (06 R104, R110). -/
theorem Cash.Off.addDifference {c : Cash} {d : Int} (h : c.Off d) (takes : c.takesDifference d = true) :
    (c.addDifference d).Law := by
  obtain ⟨opening, cashIn, cashOut, dayOver, dayShort⟩ := h.counters
  simp only [Cash.takesDifference, Bool.and_eq_true, Bool.or_eq_true, decide_eq_true_eq] at takes
  obtain ⟨above, below⟩ := takes
  refine (h.setCounters ⟨cashIn, cashOut, ?_, ?_⟩).law ?_
  · split <;> omega
  · split <;> omega
  · split <;> split <;> omega

/-! ### The books when cash changes -/

section
variable {s : State} {n : Fin 8}

theorem sameBooks_notify (s : State) (k : Notice) (l : Link) : s.SameBooks (s.notify k l) where
  day := by simp
  tellers m := by rw [pos_notify]
  cash := by simp
  entries := by simp
  cursor := by simp
  jnl := by simp

theorem State.SameBooks.trans {s t u : State} (h : s.SameBooks t) (k : t.SameBooks u) : s.SameBooks u where
  day := k.day.trans h.day
  tellers m := (k.tellers m).trans (h.tellers m)
  cash := by rw [k.cash, h.cash]
  entries := k.entries.trans h.entries
  cursor := k.cursor.trans h.cursor
  jnl := k.jnl.trans h.jnl

theorem State.Books.notify (h : s.Books) (k : Notice) (l : Link) : (s.notify k l).Books :=
  h.of_work (workTo_notify s k l) (h.branch.of_sameBooks (sameBooks_notify s k l))

/-- A closed position's drawer is empty and ARMED. -/
def State.EmptyIn (s : State) (c : Cash) (n : Fin 8) : Prop :=
  (s.pos n).state = .closed → (c.drawers.get n).isEmpty = true ∧ c.high.get n = false

theorem State.PosLawAt.setCash {p : Position} (h : s.PosLawAt n p) (c : Cash) (faces : c.faces = s.cash.faces)
    (grow : s.cash.cashIn ≤ c.cashIn ∧ s.cash.cashOut ≤ c.cashOut ∧ s.cash.dayOver ≤ c.dayOver ∧ s.cash.dayShort ≤ c.dayShort)
    (empty : p.state = .closed → (c.drawers.get n).isEmpty = true ∧ c.high.get n = false) :
    State.PosLawAt { s with cash := c } n p :=
  ⟨h.outside, h.own, h.amount, h.bright, empty, h.held, Eq.mpr (congrArg (fun f => Context.Fits f _ _) faces) h.context,
    h.profile.mono grow⟩

theorem State.BranchLaw.setCash (h : s.BranchLaw) {c : Cash} (law : c.Law) (faces : c.faces = s.cash.faces) :
    State.BranchLaw { s with cash := c } :=
  { h with cash := law, table := h.table.of_faces faces }

/-- A cash unit that meets its law, over the same denominations and with counters that have not shrunk. -/
theorem State.Books.setCash (h : s.Books) (c : Cash) (law : c.Law) (faces : c.faces = s.cash.faces)
    (grow : s.cash.cashIn ≤ c.cashIn ∧ s.cash.cashOut ≤ c.cashOut ∧ s.cash.dayOver ≤ c.dayOver ∧ s.cash.dayShort ≤ c.dayShort)
    (empty : ∀ n, s.EmptyIn c n) : State.Books { s with cash := c } :=
  ⟨h.branch.setCash law faces, fun n => (h.pos n).setCash c faces grow (empty n)⟩

/-- A drawer of a position that is not CLOSED says nothing of the closed ones. -/
theorem State.Books.emptyIn_set (h : s.Books) (hn : (s.pos n).state ≠ .closed) (r : CashRecord) (c : Cash)
    (drawers : c.drawers = s.cash.drawers.set n r) (high : c.high = s.cash.high) (m : Fin 8) : s.EmptyIn c m := by
  intro closed
  have other : m ≠ n := fun e => hn (e ▸ closed)
  rw [drawers, Vec.get_set_ne _ _ other, high]
  exact (h.pos m).empty closed

theorem State.Books.setHigh (h : s.Books) (b : Bool) (hn : (s.pos n).state = .closed → b = false) :
    State.Books { s with cash := { s.cash with high := s.cash.high.set n b } } := by
  refine h.setCash _ (h.branch.cash.of_high rfl) rfl ⟨Nat.le_refl _, Nat.le_refl _, Nat.le_refl _, Nat.le_refl _⟩ fun m closed => ?_
  obtain ⟨empty, armed⟩ := (h.pos m).empty closed
  refine ⟨empty, ?_⟩
  show (s.cash.high.set n b).get m = false
  rw [Vec.get_set]
  split
  · next e => exact hn (e ▸ closed)
  · exact armed

theorem State.Books.rearm (h : s.Books) (n : Fin 8) : (s.rearm n).Books := by
  unfold State.rearm
  split
  · exact h.setHigh false fun _ => rfl
  · exact h

theorem State.Books.judgeHigh (h : s.Books) (hn : (s.pos n).state ≠ .closed) : (s.judgeHigh n).Books := by
  unfold State.judgeHigh
  split
  · exact (h.setHigh true fun closed => absurd closed hn).notify _ _
  · exact h.rearm n

/-- A cash movement at a window (04 R70). -/
theorem State.Books.moveCash (h : s.Books) {dir : CashDir} {amount : Nat} {lines : List Line} (hn : (s.pos n).state ≠ .closed)
    (sound : s.cash.breakdownOk dir amount lines = true) (takes : dir ≠ .none → s.cash.Takes dir amount lines (s.drawer n)) :
    (s.moveCash n dir amount lines).Books := by
  unfold State.moveCash
  split
  · exact h
  · next moves =>
    have takes := takes moves
    have law : (s.drawer n).Law s.cash.faces Config.maxDrawerCount := h.branch.cash.drawers n
    have total := total_moved law moves sound takes
    obtain ⟨-, cashIn, cashOut, dayOver, dayShort⟩ := h.branch.cash.counters
    have bound := takes.counter
    have drawn := h.branch.cash.off.setDrawer n (CashRecord.law_moved law moves sound takes)
    refine h.setCash _ ((drawn.setCounters ⟨?_, ?_, dayOver, dayShort⟩).law ?_) rfl ?_ (h.emptyIn_set hn _ _ rfl rfl)
    · split
      · next inward => simpa [inward] using bound
      · exact cashIn
    · split
      · next outward => simpa [outward] using bound
      · exact cashOut
    · show 0 + CashRecord.total _ - (s.drawer n).total - _ + _ - _ + _ = 0
      rw [total]
      cases dir with
      | none => exact absurd rfl moves
      | inward => simp [CashDir.signed]
      | outward => simp [CashDir.signed]
    · refine ⟨?_, ?_, Nat.le_refl _, Nat.le_refl _⟩
      · show s.cash.cashIn ≤ if dir = .inward then s.cash.cashIn + amount else s.cash.cashIn
        split <;> omega
      · show s.cash.cashOut ≤ if dir = .outward then s.cash.cashOut + amount else s.cash.cashOut
        split <;> omega

/-! ### Transfers (05 R88, R91) -/

/-- What a proposal's breakdown says (05 R88, check 7). -/
theorem Cash.proposalOk_iff {c : Cash} {amount : Nat} {lines : List Line} :
    c.proposalOk amount lines = true ↔
      lines ≠ [] ∧ (∀ l ∈ lines, l.isIn = true) ∧ c.linesSound lines = true ∧ worth c.faces (pieces true lines) = amount := by
  simp [Cash.proposalOk, and_assoc]

theorem State.sourceCovers_iff {h : Holder} {amount : Nat} {lines : List Line} :
    s.sourceCovers h amount lines = true ↔
      (∀ i, (pieces true lines).get i ≤ (s.holding h).counts.get i) ∧ (amount : Int) ≤ (s.holding h).total := by
  simp [State.sourceCovers]

theorem State.destinationTakes_iff {h : Holder} {amount : Nat} {lines : List Line} :
    s.destinationTakes h amount lines = true ↔
      (∀ i, (s.holding h).counts.get i + (pieces true lines).get i ≤ h.maxCount) ∧
        (s.holding h).total + (amount : Int) ≤ Config.maxTotal := by
  simp [State.destinationTakes]

/-- The record that pieces leave, and the record that they join. -/
def CashRecord.without (faces : Vec 12 (Option Nat)) (lines : List Line) (r : CashRecord) : CashRecord :=
  CashRecord.make faces (Vec.tab fun i => r.counts.get i - (pieces true lines).get i) r.unitemized
def CashRecord.joined (faces : Vec 12 (Option Nat)) (lines : List Line) (r : CashRecord) : CashRecord :=
  CashRecord.make faces (Vec.tab fun i => r.counts.get i + (pieces true lines).get i) r.unitemized

theorem total_without {c : Cash} {bound amount : Nat} {lines : List Line} {r : CashRecord} (law : r.Law c.faces bound)
    (ok : c.proposalOk amount lines = true) (covers : ∀ i, (pieces true lines).get i ≤ r.counts.get i) :
    (r.without c.faces lines).total = r.total - amount := by
  obtain ⟨-, -, -, value⟩ := Cash.proposalOk_iff.1 ok
  obtain ⟨total, -⟩ := law
  have moved := worth_of_counts c.faces (a := Vec.tab fun i => r.counts.get i - (pieces true lines).get i)
    (c := pieces true lines) (b := r.counts) (d := Vec.fill 0) fun i => by
      have := covers i
      rw [Vec.get_tab, Vec.get_fill]
      omega
  rw [worth_zero] at moved
  simp only [CashRecord.without, CashRecord.make, total]
  omega

theorem total_joined {c : Cash} {bound amount : Nat} {lines : List Line} {r : CashRecord} (law : r.Law c.faces bound)
    (ok : c.proposalOk amount lines = true) : (r.joined c.faces lines).total = r.total + amount := by
  obtain ⟨-, -, -, value⟩ := Cash.proposalOk_iff.1 ok
  obtain ⟨total, -⟩ := law
  have moved := worth_of_counts c.faces (a := Vec.tab fun i => r.counts.get i + (pieces true lines).get i)
    (c := Vec.fill 0) (b := r.counts) (d := pieces true lines) fun i => by
      rw [Vec.get_tab, Vec.get_fill]
      omega
  rw [worth_zero] at moved
  simp only [CashRecord.joined, CashRecord.make, total]
  omega

theorem CashRecord.law_without {c : Cash} {bound amount : Nat} {lines : List Line} {r : CashRecord} (law : r.Law c.faces bound)
    (ok : c.proposalOk amount lines = true) (covers : ∀ i, (pieces true lines).get i ≤ r.counts.get i)
    (enough : (amount : Int) ≤ r.total) : (r.without c.faces lines).Law c.faces bound := by
  have value := total_without law ok covers
  obtain ⟨-, absent, most, unitemized, total⟩ := law
  refine ⟨rfl, fun i none => ?_, fun i => ?_, unitemized, by rw [value]; omega⟩
  · simp only [CashRecord.without, CashRecord.make, Vec.get_tab, absent i none, Nat.zero_sub]
  · simp only [CashRecord.without, CashRecord.make, Vec.get_tab]
    exact Nat.le_trans (Nat.sub_le _ _) (most i)

theorem CashRecord.law_joined {c : Cash} {bound amount : Nat} {lines : List Line} {r : CashRecord} (law : r.Law c.faces bound)
    (ok : c.proposalOk amount lines = true) (fits : ∀ i, r.counts.get i + (pieces true lines).get i ≤ bound)
    (room : r.total + (amount : Int) ≤ Config.maxTotal) : (r.joined c.faces lines).Law c.faces bound := by
  have value := total_joined law ok
  obtain ⟨-, -, sound, -⟩ := Cash.proposalOk_iff.1 ok
  obtain ⟨-, absent, -, unitemized, total⟩ := law
  refine ⟨rfl, fun i none => ?_, fun i => ?_, unitemized, by rw [value]; omega⟩
  · simp only [CashRecord.joined, CashRecord.make, Vec.get_tab, absent i none, pieces_absent sound true none]
  · simp only [CashRecord.joined, CashRecord.make, Vec.get_tab]
    exact fits i

/-- The cash unit with a holding replaced. -/
def Cash.setHolding (c : Cash) (h : Holder) (r : CashRecord) : Cash :=
  match h with
  | .drawer n => { c with drawers := c.drawers.set n r }
  | .vault => { c with vault := r }
def Cash.holding (c : Cash) : Holder → CashRecord
  | .drawer n => c.drawers.get n
  | .vault => c.vault

theorem holding_eq (s : State) (h : Holder) : s.holding h = s.cash.holding h := by cases h <;> rfl
theorem Cash.holding_setHolding_ne (c : Cash) {h k : Holder} (r : CashRecord) (ne : k ≠ h) :
    (c.setHolding h r).holding k = c.holding k := by
  cases h <;> cases k
  · exact Vec.get_set_ne _ _ fun e => ne (by rw [e])
  · rfl
  · rfl
  · exact absurd rfl ne

theorem Cash.faces_setHolding (c : Cash) (h : Holder) (r : CashRecord) : (c.setHolding h r).faces = c.faces := by cases h <;> rfl

theorem Cash.Off.holding {c : Cash} {d : Int} (off : c.Off d) (h : Holder) : (c.holding h).Law c.faces h.maxCount := by
  cases h with
  | drawer n => exact off.drawers n
  | vault => exact off.vault

theorem Cash.Off.setHolding {c : Cash} {d : Int} (off : c.Off d) (h : Holder) {r : CashRecord} (law : r.Law c.faces h.maxCount) :
    (c.setHolding h r).Off (d + r.total - (c.holding h).total) := by
  cases h with
  | drawer n => exact off.setDrawer n law
  | vault => exact off.setVault law

/-- A drawer's position is not CLOSED. -/
def State.OpenHolder (s : State) (h : Holder) : Prop := ∀ n, h = .drawer n → (s.pos n).state ≠ .closed

theorem State.EmptyIn.setHolding {c : Cash} {h : Holder} (opened : s.OpenHolder h) (r : CashRecord) {m : Fin 8} (e : s.EmptyIn c m) :
    s.EmptyIn (c.setHolding h r) m := by
  intro closed
  cases h with
  | drawer n =>
    have other : m ≠ n := fun k => opened n rfl (k ▸ closed)
    refine ⟨?_, (e closed).2⟩
    show ((c.drawers.set n r).get m).isEmpty = true
    rw [Vec.get_set_ne _ _ other]
    exact (e closed).1
  | vault => exact e closed

theorem Cash.counters_setHolding (c : Cash) (h : Holder) (r : CashRecord) :
    (c.setHolding h r).cashIn = c.cashIn ∧ (c.setHolding h r).cashOut = c.cashOut ∧
      (c.setHolding h r).dayOver = c.dayOver ∧ (c.setHolding h r).dayShort = c.dayShort := by
  cases h <;> exact ⟨rfl, rfl, rfl, rfl⟩

/-- Pieces taken from a place, and put into one. -/
def Cash.take (c : Cash) (h : Holder) (lines : List Line) : Cash := c.setHolding h ((c.holding h).without c.faces lines)
def Cash.put (c : Cash) (h : Holder) (lines : List Line) : Cash := c.setHolding h ((c.holding h).joined c.faces lines)

theorem movePieces_eq (s : State) (src dst : Holder) (lines : List Line) :
    s.movePieces src dst lines = { s with cash := Cash.put (s.cash.take src lines) dst lines } := by
  cases src <;> cases dst <;> rfl

theorem Cash.Off.take {c : Cash} {d : Int} (off : c.Off d) {h : Holder} {amount : Nat} {lines : List Line}
    (ok : c.proposalOk amount lines = true) (covers : ∀ i, (pieces true lines).get i ≤ (c.holding h).counts.get i)
    (enough : (amount : Int) ≤ (c.holding h).total) : (c.take h lines).Off (d - amount) := by
  have taken := off.setHolding h (CashRecord.law_without (off.holding h) ok covers enough)
  rw [total_without (off.holding h) ok covers] at taken
  have same : d + ((c.holding h).total - amount) - (c.holding h).total = d - amount := by omega
  rw [same] at taken
  exact taken

theorem Cash.Off.put {c : Cash} {d : Int} (off : c.Off d) {h : Holder} {amount : Nat} {lines : List Line}
    (ok : c.proposalOk amount lines = true) (fits : ∀ i, (c.holding h).counts.get i + (pieces true lines).get i ≤ h.maxCount)
    (room : (c.holding h).total + (amount : Int) ≤ Config.maxTotal) : (c.put h lines).Off (d + amount) := by
  have joined := off.setHolding h (CashRecord.law_joined (off.holding h) ok fits room)
  rw [total_joined (off.holding h) ok] at joined
  have same : d + ((c.holding h).total + amount) - (c.holding h).total = d + amount := by omega
  rw [same] at joined
  exact joined

theorem Cash.proposalOk_of_faces {c e : Cash} {amount : Nat} {lines : List Line} (faces : e.faces = c.faces)
    (ok : c.proposalOk amount lines = true) : e.proposalOk amount lines = true := by
  simpa only [Cash.proposalOk, Cash.linesSound, Cash.face?, faces] using ok

/-- A transfer's pieces moved between two places (05 R91). -/
theorem State.Books.movePieces (h : s.Books) {src dst : Holder} {amount : Nat} {lines : List Line} (ne : src ≠ dst)
    (ok : s.cash.proposalOk amount lines = true) (covers : s.sourceCovers src amount lines = true)
    (takes : s.destinationTakes dst amount lines = true) (openSrc : s.OpenHolder src) (openDst : s.OpenHolder dst) :
    (s.movePieces src dst lines).Books := by
  rw [State.sourceCovers_iff, holding_eq] at covers
  rw [State.destinationTakes_iff, holding_eq, ← Cash.holding_setHolding_ne s.cash _ ne.symm] at takes
  have left : (s.cash.take src lines).Off (0 - amount) := h.branch.cash.off.take ok covers.1 covers.2
  have moved := left.put (h := dst) (Cash.proposalOk_of_faces (Cash.faces_setHolding _ _ _) ok) takes.1 takes.2
  rw [movePieces_eq]
  refine h.setCash _ (moved.law (by omega)) ((Cash.faces_setHolding _ _ _).trans (Cash.faces_setHolding _ _ _)) ?_ fun m => ?_
  · obtain ⟨a, b, c, d⟩ := Cash.counters_setHolding s.cash src ((s.cash.holding src).without s.cash.faces lines)
    obtain ⟨a', b', c', d'⟩ := Cash.counters_setHolding (s.cash.take src lines) dst
      (((s.cash.take src lines).holding dst).joined (s.cash.take src lines).faces lines)
    exact ⟨Nat.le_of_eq (a'.trans a).symm, Nat.le_of_eq (b'.trans b).symm, Nat.le_of_eq (c'.trans c).symm,
      Nat.le_of_eq (d'.trans d).symm⟩
  · exact State.EmptyIn.setHolding openDst _ (State.EmptyIn.setHolding openSrc _ (h.pos m).empty)

/-! ### Put-away (03 R45) -/

theorem CashRecord.fitsVault_iff {r : CashRecord} :
    r.fitsVault = true ↔ (∀ i, r.counts.get i ≤ Config.maxVaultCount) ∧
      (-Config.maxUnitemized ≤ r.unitemized ∧ r.unitemized ≤ Config.maxUnitemized) ∧ (0 ≤ r.total ∧ r.total ≤ Config.maxTotal) := by
  simp only [CashRecord.fitsVault, Vec.all_iff, Bool.and_eq_true, decide_eq_true_eq, and_assoc]

theorem total_vaultAfterPutAway (h : s.BranchLaw) (n : Fin 8) :
    (s.vaultAfterPutAway n).total = s.cash.vault.total + (s.drawer n).total := by
  obtain ⟨vault, -⟩ := h.cash.vault
  obtain ⟨drawer, -⟩ := h.cash.drawers n
  have value := worth_of_counts s.cash.faces (a := Vec.tab fun i => s.cash.vault.counts.get i + (s.drawer n).counts.get i)
    (c := Vec.fill 0) (b := s.cash.vault.counts) (d := (s.drawer n).counts) fun i => by
      rw [Vec.get_tab, Vec.get_fill]
      omega
  rw [worth_zero] at value
  simp only [State.vaultAfterPutAway, CashRecord.make, vault]
  simp only [State.drawer] at value ⊢
  omega

/-- The cash unit after a put-away, before the empty drawer re-arms. -/
def State.afterPutAway (s : State) (n : Fin 8) : State :=
  State.setDrawer { s with cash := { s.cash with vault := s.vaultAfterPutAway n } } n (CashRecord.make s.cash.faces (Vec.fill 0) 0)

theorem putAway_eq (s : State) (n : Fin 8) : s.putAway n = (s.afterPutAway n).rearm n := rfl

theorem CashRecord.isEmpty_make_zero (faces : Vec 12 (Option Nat)) : (CashRecord.make faces (Vec.fill 0) 0).isEmpty = true :=
  (CashRecord.isEmpty_iff _).2 ⟨fun _ => Vec.get_fill _ _, rfl⟩

theorem CashRecord.law_make_zero (faces : Vec 12 (Option Nat)) (bound : Nat) :
    (CashRecord.make faces (Vec.fill 0) 0).Law faces bound := by
  refine CashRecord.law_make (fun i _ => Vec.get_fill _ _) (fun i => ?_) (by decide) (by rw [worth_zero]; decide)
  rw [Vec.get_fill]
  exact Nat.zero_le _

theorem sameBooks_rearm (s : State) (n : Fin 8) : s.SameBooks (s.rearm n) := by
  unfold State.rearm
  split <;> exact {}

theorem State.BranchLaw.putAway (h : s.BranchLaw) (can : s.canPutAway n = true) : (s.putAway n).BranchLaw := by
  rw [putAway_eq]
  refine State.BranchLaw.of_sameBooks ?_ (sameBooks_rearm _ n)
  obtain ⟨counts, unitemized, total⟩ := CashRecord.fitsVault_iff.1 can
  have absent : ∀ i, s.cash.faces.get i = none → (s.vaultAfterPutAway n).counts.get i = 0 := by
    intro i none
    obtain ⟨-, vault, -⟩ := h.cash.vault
    obtain ⟨-, drawer, -⟩ := h.cash.drawers n
    simp only [State.vaultAfterPutAway, CashRecord.make, Vec.get_tab, State.drawer, vault i none, drawer i none]
  have full := h.cash.off.setVault (r := s.vaultAfterPutAway n) ⟨rfl, absent, counts, unitemized, total⟩
  have emptied := full.setDrawer n (CashRecord.law_make_zero s.cash.faces Config.maxDrawerCount)
  refine h.setCash (emptied.law ?_) rfl
  rw [total_vaultAfterPutAway h]
  simp only [CashRecord.make, worth_zero, State.drawer]
  omega

theorem rearm_eq (s : State) (n : Fin 8) :
    ∃ b, s.rearm n = { s with cash := { s.cash with high := s.cash.high.set n b } } ∧
      (b = false ∨ b = s.cash.high.get n ∧ (s.cash.high.get n && decide ((s.drawer n).total ≤ rearmLevel s.day.drawerMax)) = false) := by
  unfold State.rearm
  split
  · exact ⟨false, rfl, Or.inl rfl⟩
  · next stays =>
    refine ⟨s.cash.high.get n, ?_, Or.inr ⟨rfl, by simpa using stays⟩⟩
    rw [Vec.set_get_self]

/-- After its put-away a drawer is empty and ARMED (03 R45, 04 R79). -/
theorem putAway_empty (s : State) (n : Fin 8) :
    ((s.putAway n).drawer n).isEmpty = true ∧ (s.putAway n).cash.high.get n = false := by
  have drawer : (s.afterPutAway n).drawer n = CashRecord.make s.cash.faces (Vec.fill 0) 0 := drawer_setDrawer_self _ _ _
  obtain ⟨b, e, hb⟩ := rearm_eq (s.afterPutAway n) n
  rw [putAway_eq, e]
  refine ⟨?_, (Vec.get_set_self _ _ _).trans ?_⟩
  · show ((s.afterPutAway n).drawer n).isEmpty = true
    rw [drawer]
    exact CashRecord.isEmpty_make_zero _
  · rcases hb with rfl | ⟨rfl, stays⟩
    · rfl
    · have low : ((s.afterPutAway n).drawer n).total ≤ rearmLevel (s.afterPutAway n).day.drawerMax := by
        rw [drawer]
        simp only [CashRecord.make, worth_zero, rearmLevel]
        omega
      simpa [low] using stays

theorem State.PosLawAt.putAway {p : Position} (h : s.PosLawAt n p) : (s.putAway n).PosLawAt n p := by
  have empty := putAway_empty s n
  obtain ⟨b, e, -⟩ := rearm_eq (s.afterPutAway n) n
  rw [putAway_eq, e] at empty ⊢
  exact h.setCash _ rfl ⟨Nat.le_refl _, Nat.le_refl _, Nat.le_refl _, Nat.le_refl _⟩ fun _ => empty

/-! ### Counted holdings (06 R104, R110) -/

/-- A drawer or a vault counted: what it holds is what was counted, and the difference is booked. -/
theorem State.Books.countDrawer (h : s.Books) {counts : Vec 12 Nat} (admitted : Admitted s.cash.faces counts)
    (hn : (s.pos n).state ≠ .closed) {d : Int} (hd : d = worth s.cash.faces counts - (s.drawer n).total)
    (takes : s.cash.takesDifference d = true) :
    State.Books { s with cash :=
      ({ s.cash with drawers := s.cash.drawers.set n (CashRecord.make s.cash.faces counts 0) } : Cash).addDifference d } := by
  obtain ⟨most, absent, total⟩ := admitted
  have law : (CashRecord.make s.cash.faces counts 0).Law s.cash.faces Config.maxDrawerCount :=
    CashRecord.law_make absent most (by decide) ⟨by simpa using worth_nonneg _ _, by simpa using total⟩
  have off := h.branch.cash.off.setDrawer n law
  have exact_ : (0 + (CashRecord.make s.cash.faces counts 0).total - (s.cash.drawers.get n).total) = d := by
    simp only [CashRecord.make, hd, State.drawer]
    omega
  rw [exact_] at off
  exact h.setCash _ (off.addDifference takes) rfl (workTo_addDifference (touched := fun _ => True)
    { s with cash := { s.cash with drawers := s.cash.drawers.set n (CashRecord.make s.cash.faces counts 0) } } d).grow
    (h.emptyIn_set hn _ _ rfl rfl)

theorem State.Books.countVault (h : s.Books) {counts : Vec 12 Nat} (most : ∀ i, counts.get i ≤ Config.maxVaultCount)
    (absent : ∀ i, s.cash.faces.get i = none → counts.get i = 0) (total : worth s.cash.faces counts ≤ Config.maxTotal) {d : Int}
    (hd : d = worth s.cash.faces counts - s.cash.vault.total) (takes : s.cash.takesDifference d = true) :
    State.Books { s with cash := ({ s.cash with vault := CashRecord.make s.cash.faces counts 0 } : Cash).addDifference d } := by
  have law : (CashRecord.make s.cash.faces counts 0).Law s.cash.faces Config.maxVaultCount :=
    CashRecord.law_make absent most (by decide) ⟨by simpa using worth_nonneg _ _, by simpa using total⟩
  have off := h.branch.cash.off.setVault law
  have exact_ : (0 + (CashRecord.make s.cash.faces counts 0).total - s.cash.vault.total) = d := by
    simp only [CashRecord.make, hd]
    omega
  rw [exact_] at off
  exact h.setCash _ (off.addDifference takes) rfl (workTo_addDifference (touched := fun _ => True)
    { s with cash := { s.cash with vault := CashRecord.make s.cash.faces counts 0 } } d).grow fun m => (h.pos m).empty

end

end Sys2Proof.Machine
end

section
/-! PROOF. The books when the journal, the dual-control table and one position change. -/

namespace Sys2Proof.Machine

/-! ### Appended records (07 R121 to R123) -/

/-- A record fit to be appended: its marks by their law, and not marked sent. -/
def Record.Fresh (r : Record) : Prop := r.Law ∧ r.sent = false

theorem Record.fresh_plain {kind : RecordKind} (place : Place) (teller amount : Nat) (h : kind.posting? = none) :
    (Record.plain kind place teller amount).Fresh :=
  ⟨⟨fun b => absurd b Bool.false_ne_true, fun p => absurd p Bool.false_ne_true, fun k => absurd h k⟩, rfl⟩

theorem Journal.Law.withRecord {st : DayState} {j : Journal} (h : j.Law st) (time : Nat) {r : Record} (fresh : r.Fresh)
    (opened : st ≠ .closed) (room : j.records.length < Config.journalRoom)
    (customer : r.kind.customer = true → j.customers < Config.customerRoom) : (j.withRecord time r).Law st where
  numbers := by
    simp only [Journal.withRecord, List.map_append, List.length_append, List.map_cons, List.map_nil, List.length_cons,
      List.length_nil, h.numbers, Nat.zero_add, h.next]
    rw [List.range'_1_concat, Nat.add_comm 1]
  next := by simp [Journal.withRecord, h.next]
  room := by simpa [Journal.withRecord] using room
  customers := by
    have most := h.customers
    simp only [Journal.customers, Journal.withRecord, List.filter_append, List.length_append] at *
    cases k : r.kind.customer
    · simpa [k] using most
    · simpa [k] using customer k
  closed e := absurd e opened
  unsent e q hq := by
    rcases List.mem_append.1 hq with hq | hq
    · exact h.unsent e q hq
    · obtain rfl := List.mem_singleton.1 hq
      exact fresh.2
  records q hq := by
    rcases List.mem_append.1 hq with hq | hq
    · exact h.records q hq
    · obtain rfl := List.mem_singleton.1 hq
      exact fresh.1
  unjournaled := h.unjournaled
  carry := h.carry

theorem Journal.Law.withSystem {st : DayState} {j : Journal} (h : j.Law st) (time : Nat) {r : Record} (fresh : r.Fresh)
    (opened : st ≠ .closed) (system : r.kind.customer = false) : (j.withSystem time r).Law st := by
  unfold Journal.withSystem
  split
  · next room => exact h.withRecord time fresh opened room fun c => absurd c (by simp [system])
  · exact { h with unjournaled := Nat.min_le_left _ _ }

/-- A day in which a position may be open. -/
def DayState.working (st : DayState) : Prop := st = .opened ∨ st = .cutoff

theorem DayState.working.ne_closed {st : DayState} (h : st.working) : st ≠ .closed := by
  rintro rfl
  rcases h with h | h <;> cases h

section
variable {s : State} {n : Fin 8}

/-- Branch laws whose journal alone has changed. -/
theorem State.BranchLaw.of_jnl {t : State} (h : s.BranchLaw) (day : t.day = s.day) (positions : t.positions = s.positions)
    (cash : t.cash = s.cash) (dct : t.dct = s.dct) (jnl : t.jnl.Law s.day.state) : t.BranchLaw where
  parameters := by rw [day]; exact h.parameters
  outside := by rw [day, dct]; exact h.outside
  tellers := by unfold State.pos; rw [positions]; exact h.tellers
  cash := by rw [cash]; exact h.cash
  table := by rw [dct, cash]; exact h.table
  journal := by rw [day]; exact jnl

theorem State.Books.append (h : s.Books) {r : Record} (fresh : r.Fresh) (working : s.day.state.working)
    (takes : s.jnl.takesCustomer = true) : (s.append r).Books := by
  obtain ⟨customer, room⟩ : s.jnl.customers < Config.customerRoom ∧ s.jnl.records.length < Config.journalRoom := by
    simpa [Journal.takesCustomer] using takes
  refine h.of_work (workTo_append s r) (h.branch.of_jnl (by simp) (by simp) (by simp) (by simp) ?_)
  rw [append_jnl]
  exact h.branch.journal.withRecord _ fresh working.ne_closed room fun _ => customer

theorem State.BranchLaw.appendSystem (h : s.BranchLaw) {r : Record} (fresh : r.Fresh) (working : s.day.state.working)
    (system : r.kind.customer = false) : (s.appendSystem r).BranchLaw := by
  refine h.of_jnl (by simp) (by simp) (by simp) (by simp) ?_
  rw [appendSystem_jnl]
  exact h.journal.withSystem _ fresh working.ne_closed system

theorem State.Books.appendSystem (h : s.Books) {r : Record} (fresh : r.Fresh) (working : s.day.state.working)
    (system : r.kind.customer = false) : (s.appendSystem r).Books :=
  h.of_work (workTo_appendSystem s r) (h.branch.appendSystem fresh working system)

/-- A posting's or sign-on's record where the original's marks have changed first (04 R76). -/
theorem State.Books.setMarks (h : s.Books) {j : Journal} (marks : s.jnl.MarksTo j) : State.Books { s with jnl := j } :=
  h.of_marks rfl rfl rfl rfl rfl rfl marks

/-! ### The dual-control table (05 R84 to R86) -/

/-- A position in a state other than CLOSED stands in a working day. -/
theorem State.Books.working (h : s.Books) (hn : (s.pos n).state ≠ .closed) : s.day.state.working := by
  by_contra away
  obtain ⟨opened, cutoff⟩ := not_or.1 away
  exact hn ((h.pos n).outside opened cutoff)

/-- An entry stands in the table only in a working day. -/
theorem State.Books.working_of_entry (h : s.Books) {e : Entry} (he : e ∈ s.dct.entries) : s.day.state.working := by
  by_contra away
  obtain ⟨opened, cutoff⟩ := not_or.1 away
  rw [h.branch.outside opened cutoff] at he
  cases he

theorem Dct.Law.eq_of_id {c : Cash} {d : Dct} (h : d.Law c) {e k : Entry} (he : e ∈ d.entries) (hk : k ∈ d.entries)
    (hid : k.id = e.id) : k = e := List.inj_on_of_nodup_map h.distinct hk he hid

theorem Dct.Law.filter {c : Cash} {d : Dct} (h : d.Law c) (p : Entry → Bool) :
    ({ d with entries := d.entries.filter p } : Dct).Law c where
  room := Nat.le_trans (List.length_filter_le _ _) h.room
  distinct := h.distinct.sublist (List.filter_sublist.map _)
  entries e he := h.entries e (List.mem_of_mem_filter he)
  cursor := h.cursor

theorem Dct.Law.drop {c : Cash} {d : Dct} (h : d.Law c) (id : Nat) : (d.drop id).Law c := h.filter _

/-- An entry's id touches what the entry itself does. -/
theorem Dct.Law.idTouches {c : Cash} {d : Dct} (h : d.Law c) {e : Entry} (he : e ∈ d.entries) {touched : Fin 8 → Prop}
    (ht : e.OverrideTouches touched) : d.IdTouches touched e.id := fun _ hk hid m hm =>
  ht m (h.eq_of_id he hk hid ▸ hm)

/-- A table that meets its law, empty outside a working day, and holds the overrides that the positions' states say. -/
theorem State.Books.setDct (h : s.Books) {d : Dct} (law : d.Law s.cash)
    (outside : ¬s.day.state.working → d.entries = []) (overrides : ∀ m, d.overrides m = s.dct.overrides m) :
    State.Books { s with dct := d } :=
  h.of_work (workTo_setDct s d fun m _ => overrides m)
    { h.branch with table := law, outside := fun a b => outside (not_or.2 ⟨a, b⟩) }

theorem State.Books.entries_outside (h : s.Books) (out : ¬s.day.state.working) : s.dct.entries = [] :=
  h.branch.outside (not_or.1 out).1 (not_or.1 out).2

/-- An entry that is no override leaves the table. -/
theorem State.Books.dropEntry (h : s.Books) {e : Entry} (he : e ∈ s.dct.entries) (no : ∀ m, e.isOverrideOf m = false) :
    (s.dropEntry e.id).Books := by
  refine h.setDct (h.branch.table.drop e.id) (fun out => ?_) fun m => Dct.overrides_drop fun k hk hid => ?_
  · rw [Dct.drop, h.entries_outside out, List.filter_nil]
  · rw [h.branch.table.eq_of_id he hk hid]
    exact no m

/-- The id after the cursor, `k` places on. -/
def idAfter (c k : Nat) : Nat := (c + k) % 255 + 1

/-- The id a new entry takes is not in use, unless all those tried are. -/
theorem nextId_spec (inUse : List Nat) (fuel c : Nat) (hc : c ≤ 255) :
    (nextId inUse fuel c ∉ inUse ∧ ∃ k < fuel, nextId inUse fuel c = idAfter c k) ∨ ∀ k < fuel, idAfter c k ∈ inUse := by
  induction fuel generalizing c with
  | zero => exact Or.inr fun k hk => absurd hk (Nat.not_lt_zero _)
  | succ fuel ih =>
    have step : (if c < 255 then c + 1 else 1) = idAfter c 0 := by
      unfold idAfter
      split <;> omega
    have shift : ∀ k, idAfter (idAfter c 0) k = idAfter c (k + 1) := fun k => by
      simp only [idAfter]
      omega
    simp only [nextId, step, List.contains_iff_mem]
    split
    · next used =>
      rcases ih (idAfter c 0) (by unfold idAfter; omega) with ⟨free, k, hk, e⟩ | all
      · exact Or.inl ⟨free, k + 1, by omega, by rw [e, shift]⟩
      · refine Or.inr fun k hk => ?_
        cases k with
        | zero => exact used
        | succ k => rw [← shift]; exact all k (by omega)
    · next free => exact Or.inl ⟨free, 0, by omega, rfl⟩

theorem idAfter_inj {c k l : Nat} (hk : k < 255) (hl : l < 255) (h : idAfter c k = idAfter c l) : k = l := by
  unfold idAfter at h
  omega

/-- A table with a free place finds a free id (05 R85). -/
theorem Dct.freshId_spec {c : Cash} {d : Dct} (h : d.Law c) :
    d.freshId ∉ d.entries.map Entry.id ∧ 1 ≤ d.freshId ∧ d.freshId ≤ 255 := by
  rcases nextId_spec (d.entries.map Entry.id) (d.entries.length + 1) d.cursor h.cursor with ⟨free, k, -, e⟩ | all
  · refine ⟨free, ?_⟩
    have := Nat.mod_lt (d.cursor + k) (by decide : 0 < 255)
    simp only [Dct.freshId, e, idAfter]
    omega
  · have room := h.room
    simp only [Config.tableRoom] at room
    have distinct : ((List.range (d.entries.length + 1)).map (idAfter d.cursor)).Nodup := by
      refine List.Nodup.map_on (fun k hk l hl e => ?_) List.nodup_range
      simp only [List.mem_range] at hk hl
      exact idAfter_inj (by omega) (by omega) e
    have used : (List.range (d.entries.length + 1)).map (idAfter d.cursor) ⊆ d.entries.map Entry.id := by
      intro x hx
      obtain ⟨k, hk, rfl⟩ := List.mem_map.1 hx
      exact all k (List.mem_range.1 hk)
    have := (distinct.subperm used).length_le
    simp at this

theorem Dct.Law.create {c : Cash} {d : Dct} (h : d.Law c) (room : d.entries.length < Config.tableRoom) {proposer confirmer : Link}
    {amount remaining : Nat} {pr : Proposal} (law : Entry.Law c ⟨d.freshId, proposer, confirmer, amount, remaining, pr⟩) :
    (d.create proposer confirmer amount remaining pr).Law c where
  room := by simpa [Dct.create] using room
  distinct := by
    obtain ⟨free, -⟩ := d.freshId_spec h
    simp only [Dct.create, List.map_append, List.map_cons, List.map_nil]
    exact List.nodup_append.2 ⟨h.distinct, List.nodup_singleton _, fun a ha b hb e => by
      obtain rfl := List.mem_singleton.1 hb
      exact free (e ▸ ha)⟩
  entries e he := by
    obtain ⟨-, least, most⟩ := d.freshId_spec h
    rcases List.mem_append.1 he with he | he
    · exact h.entries e he
    · obtain rfl := List.mem_singleton.1 he
      exact ⟨least, most, law⟩
  cursor := (d.freshId_spec h).2.2

/-! ### One position (03) -/

/-- A position's laws for another record, where what they ask of the rest of the state holds. -/
theorem State.PosLawAt.change {p q : Position} (h : s.PosLawAt n p) (own : q.Own s.jnl.next)
    (outside : ¬s.day.state.working → q.state = .closed) (amount : q.state.inTxn = true ∨ (s.window n).amount = none)
    (empty : q.state = .closed → (s.drawer n).isEmpty = true ∧ s.cash.high.get n = false)
    (held : s.dct.overrides n = if q.state = .held then 1 else 0) (context : (s.context n).Fits s.cash.faces q.state) :
    s.PosLawAt n q where
  outside a b := outside (not_or.2 ⟨a, b⟩)
  own := own
  amount a := amount.resolve_right a
  bright := h.bright
  empty := empty
  held := held
  context := context
  profile := h.profile

/-- A record in the same state asks nothing more of the rest. -/
theorem State.PosLawAt.same {p q : Position} (h : s.PosLawAt n p) (state : q.state = p.state) (own : q.Own s.jnl.next) :
    s.PosLawAt n q := by
  obtain ⟨outside, -, amount, bright, empty, held, context, profile⟩ := h
  rw [← state] at outside amount empty held context
  exact ⟨outside, own, amount, bright, empty, held, context, profile⟩

/-- Laws of a position's entries, for whatever record, after work that does not touch them. -/
theorem State.PosLawAt.of_work {touched : Fin 8 → Prop} {t : State} {p : Position} (h : s.PosLawAt n p) (w : s.WorkTo touched t)
    (hn : ¬touched n) : t.PosLawAt n p := by
  have same := w.same n hn
  obtain ⟨outside, own, amount, bright, empty, held, context, profile⟩ := h
  exact {
    outside := by rw [w.day]; exact outside
    own := own.mono w.next
    amount := by rw [same.amount]; exact amount
    bright := by rw [w.layers n]; exact bright
    empty := by rw [same.drawer, same.high]; exact empty
    held := by rw [same.overrides]; exact held
    context := by rw [same.context, w.faces]; exact context
    profile := by rw [same.profile]; exact profile.mono w.grow }

theorem State.PosLawAt.onPos {p : Position} {f : Position → Position} (h : s.PosLawAt n p) : (s.onPos n f).PosLawAt n p :=
  ⟨h.outside, h.own, h.amount, h.bright, h.empty, h.held, h.context, h.profile⟩

theorem State.PosLawAt.notify {p : Position} (h : s.PosLawAt n p) (k : Notice) (l : Link) : (s.notify k l).PosLawAt n p :=
  h.of_work (workTo_notify (touched := fun _ => False) s k l) id

theorem State.PosLawAt.movePos {p : Position} {st : PosState} (h : s.PosLawAt n p) : (s.movePos n st).PosLawAt n p :=
  h.onPos.notify _ _

theorem State.PosLawAt.setAmount {p : Position} (h : s.PosLawAt n p) (a : Option Nat) (ha : a ≠ none → p.state.inTxn = true) :
    (s.setAmount n a).PosLawAt n p where
  outside := h.outside
  own := h.own
  amount := by
    rw [State.setAmount, State.window_onWindow_self]
    exact ha
  bright := by
    rw [State.setAmount, State.window_onWindow_self]
    exact h.bright
  empty := h.empty
  held := h.held
  context := h.context
  profile := h.profile

theorem State.PosLawAt.onProfile {p : Position} (h : s.PosLawAt n p) {f : Profile → Profile}
    (law : (f (s.profile n)).Law s.cash) : (s.onProfile n f).PosLawAt n p where
  outside := h.outside
  own := h.own
  amount := h.amount
  bright := h.bright
  empty := h.empty
  held := h.held
  context := h.context
  profile := by
    rw [State.profile_onProfile_self]
    exact law

theorem State.PosLawAt.onContext {p : Position} (h : s.PosLawAt n p) {f : Context → Context}
    (fits : (f (s.context n)).Fits s.cash.faces p.state) : (s.onContext n f).PosLawAt n p where
  outside := h.outside
  own := h.own
  amount := h.amount
  bright := h.bright
  empty := h.empty
  held := h.held
  context := by
    rw [State.context_onContext_self]
    exact fits
  profile := h.profile

theorem pos_movePos_self (s : State) (n : Fin 8) (st : PosState) : (s.movePos n st).pos n = { s.pos n with state := st } := by
  rw [State.movePos, pos_notify, State.pos_onPos_self]

/-! ### Branch laws when one position changes -/

/-- The teller IDs stay distinct where the position's new one, if it has one, is no other's. -/
theorem State.BranchLaw.onPos (h : s.BranchLaw) {f : Position → Position}
    (teller : ∀ m, m ≠ n → (f (s.pos n)).teller = (s.pos m).teller → (f (s.pos n)).teller = none) : (s.onPos n f).BranchLaw :=
  { h with
    tellers := by
      intro i j hij hi
      by_cases ei : i = n
      · subst ei
        by_cases ej : j = i
        · exact ej.symm
        · rw [State.pos_onPos_self] at hij hi
          rw [State.pos_onPos_ne _ _ ej] at hij
          exact absurd (teller j ej hij) hi
      · rw [State.pos_onPos_ne _ _ ei] at hij hi
        by_cases ej : j = n
        · subst ej
          rw [State.pos_onPos_self] at hij
          exact absurd (hij.trans (teller i ei hij.symm)) hi
        · rw [State.pos_onPos_ne _ _ ej] at hij
          exact h.tellers i j hij hi }

theorem sameBooks_onPos (s : State) {f : Position → Position} (teller : (f (s.pos n)).teller = (s.pos n).teller) :
    s.SameBooks (s.onPos n f) where
  tellers m := by
    by_cases e : m = n
    · subst e
      rw [State.pos_onPos_self]
      exact teller
    · rw [State.pos_onPos_ne _ _ e]

theorem sameBooks_movePos (s : State) (st : PosState) : s.SameBooks (s.movePos n st) := by
  have moved : s.SameBooks (s.onPos n fun p => { p with state := st }) := sameBooks_onPos s rfl
  exact moved.trans (sameBooks_notify _ _ _)

theorem sameBooks_setAmount (s : State) (a : Option Nat) : s.SameBooks (s.setAmount n a) where
theorem sameBooks_onProfile (s : State) (f : Profile → Profile) : s.SameBooks (s.onProfile n f) where
theorem sameBooks_onContext (s : State) (f : Context → Context) : s.SameBooks (s.onContext n f) where
theorem sameBooks_setOutcome (s : State) (o : OverrideOutcome) : s.SameBooks (s.setOutcome n o) where

/-! ### Books when one position's entries change -/

/-- The position's record changed with its teller ID kept. -/
theorem State.Books.onPos (h : s.Books) {f : Position → Position} (w : s.WorkTo (· = n) (s.onPos n f))
    (teller : (f (s.pos n)).teller = (s.pos n).teller) (self : s.PosLawAt n (f (s.pos n))) : (s.onPos n f).Books := by
  refine h.of_touch n w (h.branch.of_sameBooks (sameBooks_onPos s teller)) ?_
  unfold State.PosLaw
  rw [State.pos_onPos_self]
  exact self.onPos

/-- The position's record changed in what its state does not speak of: lock, sensor, window and times. -/
theorem State.Books.onPosWatch (h : s.Books) {f : Position → Position} (w : s.WorkTo (· = n) (s.onPos n f))
    (same : ∀ p, (f p).state = p.state ∧ (f p).teller = p.teller ∧ (f p).txnStart = p.txnStart ∧ (f p).running = p.running)
    (window : (∀ w, (s.pos n).window = some w → w ≤ Config.releaseWindow) →
      ∀ w, (f (s.pos n)).window = some w → w ≤ Config.releaseWindow)
    (range : (s.pos n).InRange → (f (s.pos n)).InRange) : (s.onPos n f).Books := by
  obtain ⟨state, teller, start, running⟩ := same (s.pos n)
  have own := (h.pos n).own
  refine h.onPos w teller ((h.pos n).same state ⟨?_, ?_, ?_, window own.window, ?_, range own.range⟩)
  · rw [teller, state]; exact own.teller
  · rw [start, state]; exact own.start
  · rw [running, state]; exact own.running
  · rw [start]; exact own.reached

theorem Position.same_release (p : Position) :
    p.release.state = p.state ∧ p.release.teller = p.teller ∧ p.release.txnStart = p.txnStart ∧ p.release.running = p.running := by
  unfold Position.release
  split <;> exact ⟨rfl, rfl, rfl, rfl⟩

theorem State.Books.release (h : s.Books) (n : Fin 8) : (s.release n).Books := by
  refine h.onPosWatch (workTo_release s rfl) Position.same_release (fun old w hw => ?_) fun range => ?_
  · unfold Position.release at hw
    split at hw
    · obtain rfl := Option.some.inj hw
      exact Nat.le_refl _
    · exact old w hw
    · cases hw
  · unfold Position.release
    split <;> exact range

end

end Sys2Proof.Machine
end

section
/-! PROOF. The books when a posting, a VOID, a transfer or an override is made, held, refused or removed (04, 05). -/

namespace Sys2Proof.Machine

/-! ### Profiles (06 R114, R115) -/

theorem Profile.Law.addDuration {c : Cash} {f : Profile} (h : f.Law c) {d : Nat} (hd : d ≤ Config.maxStopwatch) :
    (f.addDuration d).Law c := by
  obtain ⟨transactions, least, greatest, sum, postings, overrides, cashIn, cashOut, largest, above, below⟩ := h
  have grown : f.serviceSum ≤ max f.serviceMax d * f.transactions :=
    Nat.le_trans sum (Nat.mul_le_mul_right _ (Nat.le_max_left _ _))
  have ordered : min f.serviceMin d ≤ max f.serviceMax d := Nat.le_trans (Nat.min_le_right _ _) (Nat.le_max_right _ _)
  have bounded : max f.serviceMax d ≤ Config.maxStopwatch := Nat.max_le.2 ⟨greatest, hd⟩
  unfold Profile.addDuration
  split
  · next room =>
    by_cases first : f.transactions = 0
    · simp only [first, if_true]
      rw [first, Nat.mul_zero] at sum
      exact ⟨by dsimp only; omega, Nat.le_refl _, hd, by dsimp only; omega, postings, overrides, cashIn, cashOut, largest, above, below⟩
    · simp only [first, if_false]
      refine ⟨room, ordered, bounded, ?_, postings, overrides, cashIn, cashOut, largest, above, below⟩
      have more := Nat.le_max_right f.serviceMax d
      dsimp only
      rw [Nat.mul_add, Nat.mul_one]
      omega
  · exact ⟨transactions, ordered, bounded, grown, postings, overrides, cashIn, cashOut, largest, above, below⟩

theorem Profile.Law.addPosting {c e : Cash} {f : Profile} (h : f.Law c) {dir : CashDir} {amount : Nat}
    (most : amount ≤ Config.maxAmount) (cashIn : (if dir = .inward then c.cashIn + amount else c.cashIn) ≤ e.cashIn)
    (cashOut : (if dir = .outward then c.cashOut + amount else c.cashOut) ≤ e.cashOut) (dayOver : c.dayOver ≤ e.dayOver)
    (dayShort : c.dayShort ≤ e.dayShort) : (f.addPosting dir amount).Law e := by
  obtain ⟨transactions, least, greatest, sum, -, overrides, within, without, largest, above, below⟩ := h
  refine ⟨transactions, least, greatest, sum, holdAt_le _ _, overrides, ?_, ?_, Nat.max_le.2 ⟨largest, most⟩,
    Nat.le_trans above dayOver, Nat.le_trans below dayShort⟩
  · simp only [Profile.addPosting]
    split at cashIn <;> simp only [*, if_true, if_false] <;> omega
  · simp only [Profile.addPosting]
    split at cashOut <;> simp only [*, if_true, if_false] <;> omega

theorem Profile.Law.addOverride {c : Cash} {f : Profile} (h : f.Law c) : f.addOverride.Law c := by
  obtain ⟨transactions, least, greatest, sum, postings, -, rest⟩ := h
  exact ⟨transactions, least, greatest, sum, postings, holdAt_le _ _, rest⟩

theorem Profile.Law.addDifference {c : Cash} {f : Profile} (h : f.Law c) (d : Int) : (f.addDifference d).Law (c.addDifference d) := by
  obtain ⟨transactions, least, greatest, sum, postings, overrides, cashIn, cashOut, largest, above, below⟩ := h
  unfold Profile.addDifference Cash.addDifference
  split
  · next pos =>
    refine ⟨transactions, least, greatest, sum, postings, overrides, cashIn, cashOut, largest, ?_, ?_⟩
    · dsimp only; omega
    · simp only [show ¬d < 0 by omega, if_false]; exact below
  · next notPos =>
    split
    · next neg =>
      refine ⟨transactions, least, greatest, sum, postings, overrides, cashIn, cashOut, largest, ?_, ?_⟩
      · exact above
      · dsimp only; omega
    · next notNeg =>
      refine ⟨transactions, least, greatest, sum, postings, overrides, cashIn, cashOut, largest, ?_, ?_⟩
      · exact above
      · exact below

section
variable {s : State} {n : Fin 8}

theorem State.Books.onProfile (h : s.Books) {f : Profile → Profile} (law : (f (s.profile n)).Law s.cash) :
    (s.onProfile n f).Books :=
  h.of_touch n (workTo_onProfile s f rfl) (h.branch.of_sameBooks (sameBooks_onProfile s f)) ((h.pos n).onProfile law)

theorem State.Books.onContext (h : s.Books) {f : Context → Context}
    (fits : (f (s.context n)).Fits s.cash.faces (s.pos n).state) : (s.onContext n f).Books :=
  h.of_touch n (workTo_onContext s f rfl) (h.branch.of_sameBooks (sameBooks_onContext s f)) ((h.pos n).onContext fits)

theorem State.Books.setAmount (h : s.Books) (a : Option Nat) (ha : a ≠ none → (s.pos n).state.inTxn = true) :
    (s.setAmount n a).Books :=
  h.of_touch n (workTo_setAmount s a rfl) (h.branch.of_sameBooks (sameBooks_setAmount s a)) ((h.pos n).setAmount a ha)

theorem PosState.ne_closed_of_inTxn {st : PosState} (h : st.inTxn = true) : st ≠ .closed := by
  rintro rfl
  cases h

/-! ### Postings (04 R70) -/

theorem state_release (s : State) (n m : Fin 8) : ((s.release n).pos m).state = (s.pos m).state := by
  by_cases e : m = n
  · subst e
    rw [State.release, State.pos_onPos_self]
    exact (Position.same_release _).1
  · rw [State.release, State.pos_onPos_ne _ _ e]

theorem State.Books.afterMovement (h : s.Books) {dir : CashDir} {amount : Nat} (txn : (s.pos n).state.inTxn = true)
    (profile : ((s.profile n).addPosting dir amount).Law s.cash) : (s.afterMovement n dir amount).Books := by
  have booked : ((s.onProfile n (Profile.addPosting dir amount)).setAmount n (some amount)).Books :=
    (h.onProfile profile).setAmount _ fun _ => txn
  unfold State.afterMovement
  split
  · exact booked
  · exact (booked.release n).judgeHigh (by rw [state_release]; exact PosState.ne_closed_of_inTxn txn)

theorem jnl_moveCash (s : State) (n : Fin 8) (dir : CashDir) (amount : Nat) (lines : List Line) :
    (s.moveCash n dir amount lines).jnl = s.jnl := by
  unfold State.moveCash
  split <;> rfl

theorem positions_moveCash (s : State) (n : Fin 8) (dir : CashDir) (amount : Nat) (lines : List Line) :
    (s.moveCash n dir amount lines).positions = s.positions := by
  unfold State.moveCash
  split <;> rfl

theorem profile_moveCash (s : State) (n : Fin 8) (dir : CashDir) (amount : Nat) (lines : List Line) :
    ((s.moveCash n dir amount lines).profile n) = s.profile n := by
  unfold State.moveCash
  split <;> rfl

/-- A movement feeds the day counter of its direction. -/
theorem counters_moveCash (s : State) (n : Fin 8) (dir : CashDir) (amount : Nat) (lines : List Line) :
    (s.moveCash n dir amount lines).cash.cashIn = (if dir = .inward then s.cash.cashIn + amount else s.cash.cashIn) ∧
      (s.moveCash n dir amount lines).cash.cashOut = (if dir = .outward then s.cash.cashOut + amount else s.cash.cashOut) ∧
      (s.moveCash n dir amount lines).cash.dayOver = s.cash.dayOver ∧
      (s.moveCash n dir amount lines).cash.dayShort = s.cash.dayShort := by
  unfold State.moveCash
  split
  · next none => simp [none]
  · exact ⟨rfl, rfl, rfl, rfl⟩

/-- What an admitted movement makes of the position's profile. -/
theorem State.PosLaw.profile_posting (h : s.PosLaw n) {dir : CashDir} {amount : Nat} (lines : List Line)
    (most : amount ≤ Config.maxAmount) :
    ((s.profile n).addPosting dir amount).Law (s.moveCash n dir amount lines).cash := by
  obtain ⟨cashIn, cashOut, dayOver, dayShort⟩ := counters_moveCash s n dir amount lines
  exact h.profile.addPosting most (Nat.le_of_eq cashIn.symm) (Nat.le_of_eq cashOut.symm) (Nat.le_of_eq dayOver.symm)
    (Nat.le_of_eq dayShort.symm)

theorem Posting.fresh_record {p : Posting} (n : Fin 8) (teller : Nat) (most : p.amount ≤ Config.maxAmount)
    (account : p.book = true → p.account ≠ 0) : (p.record n teller).Fresh := by
  have kind : p.kind.record.posting? ≠ none := by cases p.kind <;> exact Option.some_ne_none _
  refine ⟨⟨fun book => ⟨?_, Or.inl kind⟩, fun book => ⟨book, rfl⟩, fun _ => most⟩, rfl⟩
  simp only [Posting.record, account book, if_false]
  exact Option.some_ne_none _

/-- What a posting's checks establish of it where it is made or held (04 R65, R66). -/
structure Posting.Sound (c : Cash) (p : Posting) : Prop where
  least : 1 ≤ p.amount
  most : p.amount ≤ Config.maxAmount
  account : p.book = true → p.account ≠ 0
  breakdown : c.breakdownOk p.kind.dir p.amount p.lines = true

theorem State.Books.makePosting (h : s.Books) {p : Posting} (txn : (s.pos n).state.inTxn = true) (sound : p.Sound s.cash)
    (takes : p.kind.dir ≠ .none → s.cash.Takes p.kind.dir p.amount p.lines (s.drawer n))
    (room : s.jnl.takesCustomer = true) : (s.makePosting n p).Books := by
  have opened := PosState.ne_closed_of_inTxn txn
  have moved := h.moveCash opened sound.breakdown takes
  have positions := positions_moveCash s n p.kind.dir p.amount p.lines
  have written := moved.append (p.fresh_record n (s.pos n).tellerNum sound.most sound.account)
    (moved.working (n := n) (by simpa only [State.pos, positions] using opened)) (by rw [jnl_moveCash]; exact room)
  refine written.afterMovement (by simpa only [State.pos, State.positions_append, positions] using txn) ?_
  have profile := (h.pos n).profile_posting (dir := p.kind.dir) p.lines sound.most
  rw [← profile_moveCash s n p.kind.dir p.amount p.lines] at profile
  simpa only [State.profile, State.bal_append, State.cash_append] using profile

/-! ### Voids (04 R75, R76) -/

theorem Journal.marksTo_void (j : Journal) (seq by_ : Nat) : j.MarksTo (j.void seq by_) := by
  refine Journal.marksTo_map
    (fun r : Record => if r.seq = seq then { r with link := .voidedBy by_, pending := false } else r)
    (fun r => ?_) rfl rfl rfl (Nat.le_refl _)
  split
  · exact ⟨rfl, rfl, rfl, fun h => ⟨h.1, fun p => absurd p Bool.false_ne_true, h.2.2⟩⟩
  · exact .refl r

theorem fresh_reversalOf {r : Record} (law : r.Law) (k : PostKind) (n : Fin 8) (teller : Nat) : (reversalOf r k n teller).Fresh := by
  refine ⟨⟨fun book => ⟨(law.1 book).1, Or.inr rfl⟩, fun pending => ⟨?_, rfl⟩, fun kind => absurd rfl kind⟩, rfl⟩
  simp only [reversalOf, Bool.and_eq_true] at pending
  exact pending.1

/-- The record that a VOID cancels is the journal's, and a posting (04 R74). -/
theorem voidable_spec {seq : Nat} {r : Record} {k : PostKind} (h : s.voidable n seq = some (r, k)) :
    r ∈ s.jnl.records ∧ r.kind.posting? = some k := by
  unfold State.voidable at h
  split at h
  · next q start found _ =>
    split at h
    · split at h
      · next k' kind =>
        cases h
        exact ⟨List.mem_of_find?_eq_some found, kind⟩
      · cases h
    · cases h
  · cases h

theorem takesCustomer_of_marks {j k : Journal} (m : j.MarksTo k) (h : j.takesCustomer = true) : k.takesCustomer = true := by
  have customers : k.customers = j.customers := by
    rw [Journal.customers_eq, m.map_eq Record.kind fun _ _ e => e.2.1, ← Journal.customers_eq]
  rw [Journal.takesCustomer, customers, m.length]
  exact h

theorem State.Books.makeVoid (h : s.Books) {r : Record} {k : PostKind} {lines : List Line} (txn : (s.pos n).state.inTxn = true)
    (law : r.Law) (kind : r.kind.posting? = some k)
    (sound : s.cash.breakdownOk k.reversalDir r.amount lines = true)
    (takes : k.reversalDir ≠ .none → s.cash.Takes k.reversalDir r.amount lines (s.drawer n))
    (room : s.jnl.takesCustomer = true) : (s.makeVoid n r k lines).Books := by
  have opened := PosState.ne_closed_of_inTxn txn
  have moved := h.moveCash opened sound takes
  have positions := positions_moveCash s n k.reversalDir r.amount lines
  have marks := (s.moveCash n k.reversalDir r.amount lines).jnl.marksTo_void r.seq s.jnl.next
  have marked := moved.setMarks marks
  have working : (s.moveCash n k.reversalDir r.amount lines).day.state.working :=
    moved.working (n := n) (by simpa only [State.pos, positions] using opened)
  have written := marked.append (fresh_reversalOf law k n (s.pos n).tellerNum) working
    (takesCustomer_of_marks marks (by rw [jnl_moveCash]; exact room))
  refine written.afterMovement (by simpa only [State.pos, State.positions_append, positions] using txn) ?_
  have profile := (h.pos n).profile_posting (dir := k.reversalDir) lines (law.2.2 (by rw [kind]; exact Option.some_ne_none _))
  rw [← profile_moveCash s n k.reversalDir r.amount lines] at profile
  simpa only [State.profile, State.bal_append, State.cash_append] using profile

/-! ### Proposals (05 R85, R88) -/

theorem State.BranchLaw.setDct (h : s.BranchLaw) {d : Dct} (law : d.Law s.cash) (working : s.day.state.working) :
    State.BranchLaw { s with dct := d } :=
  { h with table := law, outside := fun a b => absurd working (not_or.2 ⟨a, b⟩) }

theorem State.Books.createTransfer (h : s.Books) {l confirmer : Link} {b : ProposeBody} (working : s.day.state.working)
    (room : s.dct.entries.length < Config.tableRoom) (ne : b.source ≠ b.destination)
    (party : confirmingParty l b.source b.destination = some confirmer)
    (amount : 1 ≤ b.amount ∧ b.amount ≤ Config.maxAmount) (ok : s.cash.proposalOk b.amount b.lines = true) :
    (s.createTransfer l confirmer b).Books := by
  refine State.Books.notify ?_ _ _
  refine h.setDct (h.branch.table.create room ⟨amount.1, amount.2, ne, ok, party⟩) (fun out => absurd working out) fun m => ?_
  exact Dct.overrides_create _ _ _ _ _ _ _

/-- A posting held for override: its position goes from SERVING to HELD, with one override in the table (04 R69, 05 R86). -/
theorem State.Books.holdPosting (h : s.Books) {p : Posting} (serving : (s.pos n).state = .serving) (sound : p.Sound s.cash)
    (room : s.dct.entries.length < Config.tableRoom) : (s.holdPosting n p).Books := by
  have working := h.working (n := n) (by rw [serving]; exact PosState.noConfusion)
  have law := h.branch.table.create room (proposer := .tl n) (confirmer := .sl) (remaining := s.settings.overrideExpiry * 100)
    (pr := .override n p) ⟨sound.least, sound.most, rfl, sound.breakdown, sound.account, rfl, rfl⟩
  have created := h.branch.setDct law working
  have branch : (s.holdPosting n p).BranchLaw :=
    created.of_sameBooks (((sameBooks_setOutcome _ _).trans (sameBooks_notify _ _ _)).trans (sameBooks_movePos _ _))
  refine h.of_touch n (workTo_holdPosting s p rfl) branch ?_
  obtain ⟨outside, own, amount, bright, -, held, context, profile⟩ := h.pos n
  have own' : ({ s.pos n with state := .held } : Position).Own s.jnl.next := by
    obtain ⟨teller, start, running, window, reached, range⟩ := own
    rw [serving] at teller start running
    exact ⟨by simpa using teller, by simpa [PosState.inTxn] using start, by simpa [PosState.inTxn] using running, window, reached,
      range⟩
  have counted : (s.dct.create (.tl n) .sl p.amount (s.settings.overrideExpiry * 100) (.override n p)).overrides n = 1 := by
    rw [Dct.overrides_create, held, serving]
    simp [Entry.isOverrideOf]
  have at_ : State.PosLawAt
      { s with dct := s.dct.create (.tl n) .sl p.amount (s.settings.overrideExpiry * 100) (.override n p) } n
      { s.pos n with state := .held } :=
    ⟨fun a b => absurd working (not_or.2 ⟨a, b⟩), own', fun _ => rfl, bright, fun closed => PosState.noConfusion closed, counted,
      ⟨context.most, fun e => PosState.noConfusion e, fun e => PosState.noConfusion e, fun e => PosState.noConfusion e⟩, profile⟩
  have moved := ((at_.of_work (workTo_setOutcome (touched := fun _ => False) _ n (.pending s.dct.freshId)) id).notify
    .overrideAsked .sl).movePos (st := .held)
  unfold State.PosLaw State.holdPosting
  rw [pos_movePos_self, pos_notify]
  exact moved

/-! ### Transfers (05 R91) -/

theorem Entry.not_override_of_transfer {e : Entry} {src dst : Holder} {lines : List Line} (h : e.proposal = .transfer src dst lines)
    (m : Fin 8) : e.isOverrideOf m = false := by simp [Entry.isOverrideOf, h]

theorem positions_setHolding (s : State) (h : Holder) (r : CashRecord) : (s.setHolding h r).positions = s.positions := by
  cases h <;> rfl

theorem state_movePieces (s : State) (src dst : Holder) (lines : List Line) (m : Fin 8) :
    ((s.movePieces src dst lines).pos m).state = (s.pos m).state := by
  unfold State.pos State.movePieces
  rw [positions_setHolding, positions_setHolding]

theorem state_releaseHolder (s : State) (h : Holder) (m : Fin 8) : ((s.releaseHolder h).pos m).state = (s.pos m).state := by
  cases h with
  | drawer n => exact state_release s n m
  | vault => rfl

theorem positions_rearm (s : State) (n : Fin 8) : (s.rearm n).positions = s.positions := by
  unfold State.rearm
  split <;> rfl
theorem positions_judgeHigh (s : State) (n : Fin 8) : (s.judgeHigh n).positions = s.positions := by
  unfold State.judgeHigh
  split
  · simp
  · exact positions_rearm s n

theorem state_judgeHolder (s : State) (h : Holder) (m : Fin 8) : ((s.judgeHolder h).pos m).state = (s.pos m).state := by
  cases h with
  | drawer n => exact congrArg (fun v : Vec 8 Position => (v.get m).state) (positions_judgeHigh s n)
  | vault => rfl

theorem State.Books.releaseHolder (h : s.Books) (holder : Holder) : (s.releaseHolder holder).Books := by
  cases holder with
  | drawer n => exact h.release n
  | vault => exact h

theorem State.Books.judgeHolder (h : s.Books) {holder : Holder} (opened : s.OpenHolder holder) : (s.judgeHolder holder).Books := by
  cases holder with
  | drawer n => exact h.judgeHigh (opened n rfl)
  | vault => exact h

theorem fresh_transferRecord (s : State) (e : Entry) (src dst : Holder) :
    (s.transferRecord e src dst).Fresh ∧ (s.transferRecord e src dst).kind.customer = false := by
  unfold State.transferRecord
  split
  · next n _ => exact ⟨Record.fresh_plain (kind := .transfer) (.position n) (s.pos n).tellerNum e.amount rfl, rfl⟩
  · exact ⟨Record.fresh_plain (kind := .transfer) .none 0 e.amount rfl, rfl⟩

/-- States of positions that a chain of cash work leaves. -/
theorem State.OpenHolder.of_states {t : State} {h : Holder} (o : s.OpenHolder h) (e : ∀ m, (t.pos m).state = (s.pos m).state) :
    t.OpenHolder h := fun n hn => by rw [e]; exact o n hn

theorem State.Books.makeTransfer (h : s.Books) {e : Entry} {src dst : Holder} {lines : List Line} (he : e ∈ s.dct.entries)
    (proposal : e.proposal = .transfer src dst lines) (covers : s.sourceCovers src e.amount lines = true)
    (takes : s.destinationTakes dst e.amount lines = true) (openSrc : s.OpenHolder src) (openDst : s.OpenHolder dst) :
    (s.makeTransfer e src dst lines).Books := by
  obtain ⟨ne, ok, -⟩ : src ≠ dst ∧ s.cash.proposalOk e.amount lines = true ∧
      confirmingParty e.proposer src dst = some e.confirmer := by
    have law := (h.branch.table.entries e he).2.2.2.2
    rwa [proposal] at law
  have working := h.working_of_entry he
  obtain ⟨fresh, system⟩ := fresh_transferRecord s e src dst
  have moved := h.movePieces ne ok covers takes openSrc openDst
  have workingMoved : (s.movePieces src dst lines).day.state.working := by
    rw [(workTo_movePieces (touched := fun _ => True) s src dst lines (fun _ _ => trivial) fun _ _ => trivial).day]
    exact working
  have written := moved.appendSystem fresh workingMoved system
  have writtenStates : ∀ m, (((s.movePieces src dst lines).appendSystem (s.transferRecord e src dst)).pos m).state = (s.pos m).state :=
    fun m => by simp only [State.pos, State.positions_appendSystem]; exact state_movePieces s src dst lines m
  have released := (written.releaseHolder src).releaseHolder dst
  have states : ∀ m, (((((s.movePieces src dst lines).appendSystem (s.transferRecord e src dst)).releaseHolder src).releaseHolder
      dst).pos m).state = (s.pos m).state := fun m => by rw [state_releaseHolder, state_releaseHolder, writtenStates]
  have judged : (s.movedTransfer e src dst lines).Books :=
    (released.judgeHolder (openSrc.of_states states)).judgeHolder
      (openDst.of_states fun m => by rw [state_judgeHolder, states])
  rw [makeTransfer_eq]
  have member : e ∈ (s.movedTransfer e src dst lines).dct.entries := by rw [dct_movedTransfer]; exact he
  exact ((judged.dropEntry member (Entry.not_override_of_transfer proposal)).notify _ _).notify _ _

/-! ### Overrides that end (05 R92 to R95) -/

/-- The position of an override in the table is HELD, and the entry is its only one. -/
theorem State.Books.held_of_override (h : s.Books) {e : Entry} (he : e ∈ s.dct.entries) (ho : e.isOverrideOf n = true) :
    (s.pos n).state = .held ∧ ∀ k ∈ s.dct.entries, k.isOverrideOf n = true → k = e := by
  have one := (h.pos n).held
  unfold Dct.overrides at one
  have member : e ∈ s.dct.entries.filter (Entry.isOverrideOf n) := List.mem_filter.2 ⟨he, ho⟩
  split at one
  · next held =>
    refine ⟨held, fun k hk hko => ?_⟩
    obtain ⟨x, hx⟩ := List.length_eq_one_iff.1 one
    rw [hx] at member
    have also : k ∈ s.dct.entries.filter (Entry.isOverrideOf n) := List.mem_filter.2 ⟨hk, hko⟩
    rw [hx] at also
    rw [List.mem_singleton.1 also, List.mem_singleton.1 member]
  · rw [List.length_eq_zero_iff.1 one] at member
    cases member

/-- With its entry gone the table holds no override of the position. -/
theorem Dct.overrides_filter_zero {d : Dct} {p : Entry → Bool} (h : ∀ k ∈ d.entries, k.isOverrideOf n = true → p k = false) :
    ({ d with entries := d.entries.filter p } : Dct).overrides n = 0 := by
  unfold Dct.overrides
  refine List.length_eq_zero_iff.2 (List.filter_eq_nil_iff.2 fun k hk ho => ?_)
  obtain ⟨hk, hp⟩ := List.mem_filter.1 hk
  rw [h k hk ho] at hp
  exact Bool.false_ne_true hp

/-- The position's record as a customer's transaction goes on. -/
theorem Position.own_serving {p : Position} {next : Nat} (own : p.Own next) (held : p.state = .held) :
    ({ p with state := .serving } : Position).Own next := by
  obtain ⟨teller, start, running, window, reached, range⟩ := own
  rw [held] at teller start running
  exact ⟨by simpa using teller, by simpa [PosState.inTxn] using start, by simpa [PosState.inTxn] using running, window, reached,
    range⟩

theorem State.Books.endOverride (h : s.Books) {e : Entry} (he : e ∈ s.dct.entries) (ho : e.isOverrideOf n = true)
    (o : OverrideOutcome) : (s.endOverride e n o).Books := by
  obtain ⟨held, only⟩ := h.held_of_override he ho
  have working := h.working_of_entry he
  have branch : (s.endOverride e n o).BranchLaw :=
    (h.branch.setDct (h.branch.table.drop e.id) working).of_sameBooks
      ((sameBooks_setOutcome _ o).trans (sameBooks_movePos _ _))
  have touches : e.OverrideTouches (· = n) := fun m hm => by
    cases hp : e.proposal with
    | transfer src dst lines => rw [Entry.not_override_of_transfer hp] at hm; cases hm
    | override k p =>
      simp only [Entry.isOverrideOf, hp, beq_iff_eq] at hm ho
      exact hm.symm.trans ho
  refine h.of_touch n (workTo_endOverride s e o rfl (h.branch.table.idTouches he touches)) branch ?_
  obtain ⟨-, own, -, bright, -, -, context, profile⟩ := h.pos n
  have none : (s.dct.drop e.id).overrides n = 0 := Dct.overrides_filter_zero fun k hk hko => by
    rw [only k hk hko]
    simp
  have at_ : State.PosLawAt { s with dct := s.dct.drop e.id } n { s.pos n with state := .serving } :=
    ⟨fun a b => absurd working (not_or.2 ⟨a, b⟩), Position.own_serving own held, fun _ => rfl, bright,
      fun closed => PosState.noConfusion closed, none,
      ⟨context.most, fun e => PosState.noConfusion e, fun e => PosState.noConfusion e, fun e => PosState.noConfusion e⟩, profile⟩
  have moved := (at_.of_work (workTo_setOutcome (touched := fun _ => False) _ n o) id).movePos (st := .serving)
  unfold State.PosLaw State.endOverride
  rw [pos_movePos_self]
  exact moved

theorem Entry.isOverrideOf_self {e : Entry} {p : Posting} (h : e.proposal = .override n p) : e.isOverrideOf n = true := by
  simp [Entry.isOverrideOf, h]

/-- A held posting is one that POST's checks admitted (05 R84). -/
theorem State.Books.sound_of_entry (h : s.Books) {e : Entry} {p : Posting} (he : e ∈ s.dct.entries)
    (proposal : e.proposal = .override n p) : p.Sound s.cash := by
  obtain ⟨-, -, least, most, rest⟩ := h.branch.table.entries e he
  rw [proposal] at rest
  obtain ⟨amount, breakdown, account, -⟩ := rest
  exact ⟨amount ▸ least, amount ▸ most, account, breakdown⟩

theorem State.Books.makeHeld (h : s.Books) {e : Entry} {p : Posting} (he : e ∈ s.dct.entries)
    (proposal : e.proposal = .override n p) (takes : p.kind.dir ≠ .none → s.cash.Takes p.kind.dir p.amount p.lines (s.drawer n))
    (room : s.jnl.takesCustomer = true) : (s.makeHeld e n p).Books := by
  obtain ⟨held, -⟩ := h.held_of_override he (Entry.isOverrideOf_self proposal)
  have made := h.makePosting (n := n) (by rw [held]; rfl) (h.sound_of_entry he proposal) takes room
  have counted := made.onProfile (n := n) (f := Profile.addOverride) (made.pos n).profile.addOverride
  have member : e ∈ ((s.makePosting n p).onProfile n Profile.addOverride).dct.entries := by
    rw [State.dct_onProfile, dct_makePosting]
    exact he
  exact (counted.endOverride member (Entry.isOverrideOf_self proposal) _).notify _ _

theorem State.Books.failHeld (h : s.Books) {e : Entry} {p : Posting} (he : e ∈ s.dct.entries)
    (proposal : e.proposal = .override n p) (c : Code) : (s.failHeld e n c).Books :=
  (h.endOverride he (Entry.isOverrideOf_self proposal) _).notify _ _

theorem State.Books.decline (h : s.Books) {e : Entry} (he : e ∈ s.dct.entries) : (s.decline e).Books := by
  unfold State.decline
  split
  · next hp => exact (h.dropEntry he (Entry.not_override_of_transfer hp)).notify _ _
  · next hp => exact (h.endOverride he (Entry.isOverrideOf_self hp) _).notify _ _

theorem State.Books.withdraw (h : s.Books) {e : Entry} (he : e ∈ s.dct.entries) : (s.withdraw e).Books := by
  unfold State.withdraw
  split
  · next hp => exact (h.dropEntry he (Entry.not_override_of_transfer hp)).notify _ _
  · next hp => exact h.endOverride he (Entry.isOverrideOf_self hp) _

theorem State.Books.expire (h : s.Books) {e : Entry} (he : e ∈ s.dct.entries) : (s.expire e).Books := by
  unfold State.expire
  split
  · next hp => exact ((h.dropEntry he (Entry.not_override_of_transfer hp)).notify _ _).notify _ _
  · next hp => exact (h.endOverride he (Entry.isOverrideOf_self hp) _).notify _ _

theorem Dct.mem_of_find {d : Dct} {id : Nat} {e : Entry} (h : d.find id = some e) : e ∈ d.entries :=
  List.mem_of_find?_eq_some h

theorem State.Books.expireId (h : s.Books) (id : Nat) : (s.expireId id).Books := by
  unfold State.expireId
  split
  · next e found => exact h.expire (Dct.mem_of_find found)
  · exact h

end

end Sys2Proof.Machine
end

section
/-! PROOF. The books when a position signs on or off, opens and closes a transaction, moves its drawer or balances (03, 06). -/

namespace Sys2Proof.Machine

section
variable {s : State} {n : Fin 8}

/-! ### A position between transactions (03 R37) -/

/-- The states in which a drawer is being counted. -/
def PosState.counts : PosState → Bool
  | .balancing | .outOfBalance | .forceWait => true
  | .closed | .ready | .serving | .held | .away | .balanced => false

theorem Context.Fits.plain {faces : Vec 12 (Option Nat)} {st : PosState} {c : Context} (most : c.attempts ≤ 3)
    (other : st.counts = false) : c.Fits faces st := by
  refine ⟨most, ?_, ?_, ?_⟩ <;> (rintro rfl; cases other)

/-- Outside a transaction a position has no transaction start, its stopwatch stands and no amount is shown. -/
theorem Position.Own.outside_txn {p : Position} {next : Nat} (own : p.Own next) (h : p.state.inTxn = false) :
    p.txnStart = none ∧ p.running = false := by
  refine ⟨?_, ?_⟩
  · by_contra e
    exact Bool.false_ne_true (h.symm.trans (own.start.1 e))
  · exact Bool.eq_false_iff.2 fun e => Bool.false_ne_true (h.symm.trans (own.running.1 e))

theorem State.PosLawAt.amount_none {p : Position} (h : s.PosLawAt n p) (txn : p.state.inTxn = false) :
    (s.window n).amount = none := by
  by_contra e
  exact Bool.false_ne_true (txn.symm.trans (h.amount e))

theorem State.PosLawAt.no_override {p : Position} (h : s.PosLawAt n p) (txn : p.state.inTxn = false) :
    s.dct.overrides n = 0 := by
  have held := h.held
  rwa [if_neg (fun e => by rw [e] at txn; cases txn)] at held

/-- A record outside a transaction by itself. -/
theorem Position.own_quiet {p : Position} {next : Nat} (teller : p.teller = none ↔ p.state = .closed)
    (txn : p.state.inTxn = false) (start : p.txnStart = none) (running : p.running = false)
    (window : ∀ w, p.window = some w → w ≤ Config.releaseWindow) (range : p.InRange) : p.Own next :=
  ⟨teller, by simp [start, txn], by simp [running, txn], window, (fun q hq => by rw [start] at hq; cases hq), range⟩

/-- A position that goes from one state outside a transaction to another, neither CLOSED. -/
theorem State.PosLawAt.turn {p q : Position} (h : s.PosLawAt n p) (working : s.day.state.working) (txn : p.state.inTxn = false)
    (quiet : q.state.inTxn = false) (opened : q.state ≠ .closed) (own : q.Own s.jnl.next)
    (context : (s.context n).Fits s.cash.faces q.state) : s.PosLawAt n q :=
  h.change own (fun out => absurd working out) (Or.inr (h.amount_none txn)) (fun e => absurd e opened)
    (by rw [h.no_override txn, if_neg fun e => by rw [e] at quiet; cases quiet]) context

theorem State.Books.setPos (h : s.Books) {t : State} (w : s.WorkTo (· = n) t) (same : s.SameBooks t)
    (self : t.PosLawAt n (t.pos n)) : t.Books := h.of_touch n w (h.branch.of_sameBooks same) self

/-- The same, for a move of the position's state alone. -/
theorem State.Books.turn (h : s.Books) {st : PosState} (opened : (s.pos n).state ≠ .closed) (txn : (s.pos n).state.inTxn = false)
    (quiet : st.inTxn = false) (stays : st ≠ .closed) (context : (s.context n).Fits s.cash.faces st) : (s.movePos n st).Books := by
  refine h.setPos (workTo_movePos s st rfl) (sameBooks_movePos s st) ?_
  rw [pos_movePos_self]
  obtain ⟨start, running⟩ := (h.pos n).own.outside_txn txn
  have teller : (s.pos n).teller ≠ none := fun e => opened ((h.pos n).own.teller.1 e)
  have own : ({ s.pos n with state := st } : Position).Own s.jnl.next :=
    Position.own_quiet ⟨fun e => absurd e teller, fun e => absurd e stays⟩ quiet start running (h.pos n).own.window
      (h.pos n).own.range
  exact ((h.pos n).turn (h.working opened) txn quiet stays own context).movePos

/-! ### Signing on (03 R38) -/

theorem tellerInUse_false {id : Nat} (h : s.tellerInUse id = false) (m : Fin 8) : (s.pos m).teller ≠ some id := by
  intro e
  have used : s.tellerInUse id = true := Vec.any_iff.2 ⟨m, by simpa [State.pos] using e⟩
  rw [h] at used
  cases used

theorem State.Books.signOn (h : s.Books) {id : Nat} (range : 1 ≤ id ∧ id ≤ Config.maxTeller) (opened : s.day.state = .opened)
    (closed : (s.pos n).state = .closed) (free : s.tellerInUse id = false) (room : s.jnl.takesCustomer = true) :
    (s.signOn n id).Books := by
  have working : s.day.state.working := Or.inl opened
  have law := h.pos n
  have txn : (s.pos n).state.inTxn = false := by rw [closed]; rfl
  obtain ⟨start, running⟩ := law.own.outside_txn txn
  have branch : ((s.onPos n fun p => { p with teller := some id, forced := false }).movePos n .ready).BranchLaw :=
    (h.branch.onPos fun m _ e => absurd e.symm (tellerInUse_false free m)).of_sameBooks (sameBooks_movePos _ _)
  have own : ({ s.pos n with teller := some id, forced := false, state := .ready } : Position).Own s.jnl.next := by
    obtain ⟨-, times⟩ := law.own.range
    refine Position.own_quiet (by simp) rfl start running law.own.window ⟨fun k hk => ?_, times⟩
    obtain rfl := Option.some.inj hk
    exact range
  have signed : ((s.onPos n fun p => { p with teller := some id, forced := false }).movePos n .ready).Books := by
    refine h.of_touch n ((workTo_onPos (touched := (· = n)) s _ rfl fun l => l).trans (workTo_movePos _ _ rfl)) branch ?_
    unfold State.PosLaw
    rw [pos_movePos_self, State.pos_onPos_self]
    exact (law.turn working txn rfl PosState.noConfusion own (.plain law.context.most rfl)).onPos.movePos
  have same := (workTo_onPos (touched := fun _ => True) (n := n) s (fun p => { p with teller := some id, forced := false }) trivial
    fun l => l).trans (workTo_movePos (n := n) _ .ready trivial)
  refine signed.append ⟨⟨fun b => absurd b Bool.false_ne_true, fun p => absurd p Bool.false_ne_true, fun k => absurd rfl k⟩, rfl⟩ ?_ ?_
  · rw [same.day]; exact working
  · rw [State.movePos, State.jnl_notify]; exact room

/-! ### Customer transactions (03 R39, R40) -/

theorem Journal.Law.next_pos {st : DayState} {j : Journal} (h : j.Law st) : 1 ≤ j.next := by
  rw [h.next]
  exact Nat.le_add_left _ _

theorem State.Books.openTxn (h : s.Books) (settings : s.settings.InRange) (opened : s.day.state = .opened)
    (ready : (s.pos n).state = .ready) : (s.openTxn n).Books := by
  have law := h.pos n
  refine h.setPos (workTo_openTxn s rfl) ((sameBooks_onPos s rfl).trans (sameBooks_movePos _ _)) ?_
  have pos : (s.openTxn n).pos n = { s.pos n with
      txnStart := some s.jnl.next, stopwatch := 0, running := true, serviceLimit := s.settings.serviceLimit,
      serviceRaised := false, state := .serving } := by
    rw [State.openTxn, pos_movePos_self, State.pos_onPos_self]
  rw [pos]
  obtain ⟨-, -, -, service, -⟩ := settings
  obtain ⟨teller, -, -, window, -, ⟨tellerRange, openTime, openLimit, -, -, silence⟩⟩ := law.own
  have signed : (s.pos n).teller ≠ none := fun e => by
    rw [teller.1 e] at ready
    cases ready
  refine State.PosLawAt.movePos (State.PosLawAt.onPos (law.change ⟨?_, ?_, ?_, window, ?_, ?_⟩ (fun out => absurd (Or.inl opened) out)
    (Or.inl rfl) (fun e => PosState.noConfusion e) ?_ (.plain law.context.most rfl)))
  · exact ⟨fun e => absurd e signed, fun e => PosState.noConfusion e⟩
  · exact ⟨fun _ => rfl, fun _ => Option.some_ne_none _⟩
  · exact ⟨fun _ => rfl, fun _ => rfl⟩
  · rintro q ⟨⟩
    exact ⟨h.branch.journal.next_pos, Nat.le_refl _⟩
  · exact ⟨tellerRange, openTime, openLimit, Nat.zero_le _, service, silence⟩
  · rw [law.no_override (by rw [ready]; rfl)]
    rfl

/-- The laws that a transaction's end keeps of its position, whatever its record is then. -/
theorem State.PosLawAt.endTxn {p : Position} (h : s.PosLawAt n p) (stopwatch : (s.pos n).stopwatch ≤ Config.maxStopwatch) :
    (s.endTxn n).PosLawAt n p :=
  (h.onPos.onProfile (h.profile.addDuration stopwatch)).setAmount none fun e => absurd rfl e

theorem pos_endTxn_self (s : State) (n : Fin 8) : (s.endTxn n).pos n = (s.pos n).endTxn := by
  show (s.onPos n Position.endTxn).pos n = _
  rw [State.pos_onPos_self]

theorem amount_endTxn (s : State) (n : Fin 8) : ((s.endTxn n).window n).amount = none := by
  rw [State.endTxn, State.setAmount, State.window_onWindow_self]

theorem sameBooks_endTxn (s : State) (n : Fin 8) : s.SameBooks (s.endTxn n) :=
  ((sameBooks_onPos s rfl).trans (sameBooks_onProfile _ _)).trans (sameBooks_setAmount _ _)

theorem State.Books.closeTxn (h : s.Books) (serving : (s.pos n).state = .serving) : ((s.endTxn n).movePos n .ready).Books := by
  have law := h.pos n
  obtain ⟨teller, -, -, window, -, range⟩ := law.own
  refine h.setPos ((workTo_endTxn (touched := (· = n)) s rfl).trans (workTo_movePos _ _ rfl)) ((sameBooks_endTxn s n).trans (sameBooks_movePos _ _)) ?_
  rw [pos_movePos_self, pos_endTxn_self]
  have signed : (s.pos n).teller ≠ none := fun e => by
    rw [teller.1 e] at serving
    cases serving
  have working := h.working (n := n) (by rw [serving]; exact PosState.noConfusion)
  have ended := State.PosLawAt.endTxn law range.2.2.2.1
  refine State.PosLawAt.movePos (ended.change (Position.own_quiet ⟨fun e => absurd e signed, fun e => PosState.noConfusion e⟩ rfl
    rfl rfl window range) (fun out => absurd working out) (Or.inr (amount_endTxn s n)) (fun e => PosState.noConfusion e) ?_
    (.plain ended.context.most rfl))
  rw [ended.held, serving]
  rfl

/-! ### Away (03 R42) -/

theorem State.Books.away (h : s.Books) (ready : (s.pos n).state = .ready) :
    ((s.onPos n Position.secure).movePos n .away).Books := by
  have secured : (s.onPos n Position.secure).Books :=
    h.onPosWatch (workTo_onPos s _ rfl fun _ => Position.lockLaw_secure _) (fun _ => ⟨rfl, rfl, rfl, rfl⟩)
      (fun _ w hw => by cases hw) fun range => range
  have state : ((s.onPos n Position.secure).pos n).state = .ready := by rw [State.pos_onPos_self]; exact ready
  exact secured.turn (by rw [state]; exact PosState.noConfusion) (by rw [state]; rfl) rfl PosState.noConfusion
    (.plain (secured.pos n).context.most rfl)

/-! ### Signing off (03 R44 to R47) -/

theorem frame_removeFor (n : Fin 8) (forced : Bool) (s : State) (e : Entry) :
    State.removeFor n forced s e =
      { s with links := (State.removeFor n forced s e).links, dct := (State.removeFor n forced s e).dct } ∧
    (State.removeFor n forced s e).dct.cursor = s.dct.cursor := by
  have ite (c : Bool) (k : Notice) (l : Link) (s : State) :
      (if c then s.notify k l else s) = { s with links := (if c then s.notify k l else s).links } := by
    split
    · exact notify_frame s k l
    · rfl
  unfold State.removeFor
  split
  · dsimp only
    rw [ite (forced || e.confirmer != .tl n), ite (forced || e.proposer != .tl n)]
    exact ⟨rfl, rfl⟩
  · exact ⟨rfl, rfl⟩

/-- A sign-off's removal changes the table and the notices alone. -/
theorem frame_removeEntries (s : State) (n : Fin 8) (forced : Bool) :
    s.removeEntries n forced =
      { s with links := (s.removeEntries n forced).links, dct := (s.removeEntries n forced).dct } ∧
    (s.removeEntries n forced).dct.cursor = s.dct.cursor := by
  unfold State.removeEntries
  generalize s.dct.entries.filter (Entry.names n) = l
  induction l generalizing s with
  | nil => exact ⟨rfl, rfl⟩
  | cons e l ih =>
    obtain ⟨frame, cursor⟩ := ih (State.removeFor n forced s e)
    obtain ⟨frame', cursor'⟩ := frame_removeFor n forced s e
    rw [List.foldl_cons]
    refine ⟨?_, cursor.trans cursor'⟩
    rw [frame' ] at frame ⊢
    exact frame

theorem entries_removeEntries (s : State) (n : Fin 8) (forced : Bool) :
    (s.removeEntries n forced).dct.entries =
      s.dct.entries.filter fun k => (s.dct.entries.filter (Entry.names n)).all fun e => k.id != e.id :=
  entries_foldl_removeFor s forced _

theorem Entry.names_of_override {e : Entry} (h : e.isOverrideOf n = true) : e.names n = true := by
  unfold Entry.isOverrideOf at h
  unfold Entry.names
  split at h
  · next hp => rw [hp]; exact h
  · cases h

/-- After a sign-off's removal no override of the position is left. -/
theorem overrides_removeEntries (s : State) (n : Fin 8) (forced : Bool) : (s.removeEntries n forced).dct.overrides n = 0 := by
  have none := Dct.overrides_filter_zero (n := n) (d := s.dct)
    (p := fun k => (s.dct.entries.filter (Entry.names n)).all fun e => k.id != e.id) fun k hk ho => by
      have named : k ∈ s.dct.entries.filter (Entry.names n) := List.mem_filter.2 ⟨hk, Entry.names_of_override ho⟩
      exact Bool.eq_false_iff.2 fun all => by simpa using List.all_eq_true.1 all k named
  unfold Dct.overrides at none ⊢
  rw [entries_removeEntries]
  exact none

theorem Entry.overrideTouches_of_names {e : Entry} (h : e.names n = true) : e.OverrideTouches (· = n) := by
  intro m hm
  unfold Entry.isOverrideOf at hm
  unfold Entry.names at h
  split at hm
  · next hp =>
    rw [hp] at h
    simp only [beq_iff_eq] at h hm
    exact hm.symm.trans h
  · cases hm

theorem State.BranchLaw.idTouches_names (h : s.BranchLaw) :
    ∀ e ∈ s.dct.entries, e.names n = true → s.dct.IdTouches (· = n) e.id := fun _ he hn =>
  h.table.idTouches he (Entry.overrideTouches_of_names hn)

theorem State.BranchLaw.removeEntries (h : s.BranchLaw) (forced : Bool) : (s.removeEntries n forced).BranchLaw := by
  obtain ⟨frame, cursor⟩ := frame_removeEntries s n forced
  have law : (s.removeEntries n forced).dct.Law s.cash :=
    (h.table.filter _).of_same (entries_removeEntries s n forced) cursor
  have outside : s.day.state ≠ .opened → s.day.state ≠ .cutoff → (s.removeEntries n forced).dct.entries = [] := fun a b => by
    rw [entries_removeEntries, h.outside a b, List.filter_nil]
  rw [frame]
  exact { h with table := law, outside := outside }

/-- A position's record when it is CLOSED (03 R46, R47). -/
def Position.closedOut (p : Position) : Position := { p.secure with teller := none, state := .closed }

theorem Position.own_closedOut {p : Position} {next : Nat} (start : p.txnStart = none) (running : p.running = false)
    (range : p.InRange) : p.closedOut.Own next :=
  Position.own_quiet ⟨fun _ => rfl, fun _ => rfl⟩ rfl start running (fun w hw => by cases hw)
    ⟨(fun id hid => by cases hid), range.2⟩

theorem pos_close (s : State) (n : Fin 8) : (s.close n).pos n = (s.pos n).closedOut := by
  rw [State.close, pos_movePos_self, State.pos_onPos_self]
  rfl

theorem pos_signOffRecords (s : State) (n : Fin 8) (before : CashRecord) (m : Fin 8) :
    (s.signOffRecords n before).pos m = s.pos m := by
  unfold State.signOffRecords
  dsimp only
  split <;> simp [State.pos]

theorem State.BranchLaw.signOffRecords (h : s.BranchLaw) (working : s.day.state.working) (before : CashRecord) :
    (s.signOffRecords n before).BranchLaw := by
  have signed {t : State} (h : t.BranchLaw) (working : t.day.state.working) (teller : Nat) :
      (t.appendSystem (Record.plain .signOff (.position n) teller 0)).BranchLaw :=
    h.appendSystem (Record.fresh_plain _ _ _ rfl) working rfl
  unfold State.signOffRecords
  dsimp only
  split
  · exact signed h working _
  · refine signed (h.appendSystem ?_ working rfl) (by rw [State.day_appendSystem]; exact working) _
    exact Record.fresh_plain (kind := .putAway) (.position n) (s.pos n).tellerNum before.total.toNat rfl

/-- A position left: its records written and the position CLOSED. -/
theorem State.BranchLaw.leave (h : s.BranchLaw) (working : s.day.state.working) (before : CashRecord) :
    ((s.signOffRecords n before).close n).BranchLaw :=
  ((h.signOffRecords working before).onPos fun _ _ _ => rfl).of_sameBooks (sameBooks_movePos _ _)

theorem State.PosLawAt.leave (h : s.PosLawAt n (s.pos n).closedOut) (before : CashRecord) :
    ((s.signOffRecords n before).close n).PosLaw n := by
  unfold State.PosLaw
  rw [pos_close, pos_signOffRecords]
  exact (h.of_work (workTo_signOffRecords (touched := fun _ => False) (n := n) s before) id).onPos.movePos

/-- The laws of a position that has been put away and whose entries have left the table, once it is CLOSED. -/
theorem State.PosLawAt.closedOut {p q : Position} (h : s.PosLawAt n p) (start : q.txnStart = none) (running : q.running = false)
    (range : q.InRange) (amount : (s.window n).amount = none)
    (empty : (s.drawer n).isEmpty = true ∧ s.cash.high.get n = false) (overrides : s.dct.overrides n = 0) :
    s.PosLawAt n q.closedOut :=
  h.change (Position.own_closedOut start running range) (fun _ => rfl) (Or.inr amount) (fun _ => empty) overrides
    (.plain h.context.most rfl)

/-- A sign-off's removal leaves the laws of its position, for a record that is not HELD. -/
theorem State.PosLawAt.removeEntries {p : Position} (h : s.PosLawAt n p) (forced : Bool) (held : p.state ≠ .held) :
    (s.removeEntries n forced).PosLawAt n p := by
  have gone := overrides_removeEntries s n forced
  rw [(frame_removeEntries s n forced).1]
  exact { h with held := by rw [if_neg held]; exact gone }

theorem positions_putAway (s : State) (n : Fin 8) : (s.putAway n).positions = s.positions := positions_rearm _ n

theorem State.Books.signOff (h : s.Books) (opened : (s.pos n).state ≠ .closed) (txn : (s.pos n).state.inTxn = false)
    (can : s.canPutAway n = true) : (s.signOff n).Books := by
  have law := h.pos n
  obtain ⟨start, running⟩ := law.own.outside_txn txn
  have put := h.branch.putAway can
  have removed := put.removeEntries (n := n) false
  have frame := (frame_removeEntries (s.putAway n) n false).1
  have working : ((s.putAway n).removeEntries n false).day.state.working := by
    rw [frame]
    exact (workTo_putAway (touched := fun _ => True) s (n := n) trivial).day ▸ h.working opened
  refine h.of_touch n (workTo_signOff s rfl h.branch.idTouches_names) (removed.leave working _) ?_
  have pos : ((s.putAway n).removeEntries n false).pos n = s.pos n := by
    rw [frame]
    exact congrArg (fun v : Vec 8 Position => v.get n) (positions_putAway s n)
  refine State.PosLawAt.leave ?_ _
  rw [pos]
  have at_ := (State.PosLawAt.putAway law).removeEntries false fun e => by rw [e] at txn; cases txn
  refine at_.closedOut start running law.own.range (at_.amount_none txn) ?_ (overrides_removeEntries _ n false)
  rw [frame]
  exact putAway_empty s n

/-- A forced sign-off's steps up to the cancelling (03 R47): the transaction ended, the entries removed, and the last
declaration not applied. -/
theorem State.BranchLaw.forcedOut (h : s.BranchLaw) : (s.forcedOut n).BranchLaw := by
  have ended : (s.endOpenTxn n).BranchLaw := by
    unfold State.endOpenTxn
    split
    · exact h.of_sameBooks (sameBooks_endTxn s n)
    · exact h
  exact (ended.removeEntries true).of_sameBooks (sameBooks_onContext _ _)

/-- Position `n`'s record after step 1 of a forced sign-off. -/
theorem pos_endOpenTxn {next : Nat} (own : (s.pos n).Own next) :
    ((s.endOpenTxn n).pos n).txnStart = none ∧ ((s.endOpenTxn n).pos n).running = false ∧ ((s.endOpenTxn n).pos n).InRange := by
  unfold State.endOpenTxn
  split
  · rw [pos_endTxn_self]
    exact ⟨rfl, rfl, own.range⟩
  · next txn =>
    obtain ⟨start, running⟩ := own.outside_txn (by simpa using txn)
    exact ⟨start, running, own.range⟩

/-- The laws of a position forced out, for a record that stands READY, with its drawer not yet put away. -/
theorem State.Books.forcedOut_at (h : s.Books) (opened : (s.pos n).state ≠ .closed) :
    ((s.forcedOut n).window n).amount = none ∧
    (s.forcedOut n).PosLawAt n { s.pos n with state := .ready, txnStart := none, running := false } := by
  have law := h.pos n
  have working := h.working opened
  have teller : (s.pos n).teller ≠ none := fun e => opened (law.own.teller.1 e)
  have ended : (s.endOpenTxn n).PosLawAt n (s.pos n) ∧ ((s.endOpenTxn n).window n).amount = none ∧ (s.endOpenTxn n).jnl = s.jnl ∧
      (s.endOpenTxn n).day = s.day := by
    unfold State.endOpenTxn
    split
    · exact ⟨State.PosLawAt.endTxn law law.own.range.2.2.2.1, amount_endTxn s n, rfl, rfl⟩
    · next txn => exact ⟨law, law.amount_none (by simpa using txn), rfl, rfl⟩
  obtain ⟨at_, amount, jnl, day⟩ := ended
  have gone := overrides_removeEntries (s.endOpenTxn n) n true
  have removed : ((s.endOpenTxn n).removeEntries n true).PosLawAt n
      { s.pos n with state := .ready, txnStart := none, running := false } := by
    rw [(frame_removeEntries (s.endOpenTxn n) n true).1]
    exact {
      outside := fun a b => absurd (day ▸ working : (s.endOpenTxn n).day.state.working) (not_or.2 ⟨a, b⟩)
      own := Position.own_quiet ⟨fun e => absurd e teller, fun e => PosState.noConfusion e⟩ rfl rfl rfl law.own.window law.own.range
      amount := fun e => absurd amount e
      bright := at_.bright
      empty := fun e => PosState.noConfusion e
      held := gone
      context := .plain at_.context.most rfl
      profile := at_.profile }
  refine ⟨?_, removed.onContext (.plain removed.context.most rfl)⟩
  · show (((s.endOpenTxn n).removeEntries n true).window n).amount = _
    rw [(frame_removeEntries (s.endOpenTxn n) n true).1]
    exact amount

end

end Sys2Proof.Machine
end

section
/-! PROOF. The print unit (08): every operation keeps each printer as its state says, and at most one job for a position. -/

namespace Sys2Proof.Machine

/-! ### The positions with jobs (08 R135) -/

/-- The job positions beside the printer `p`. -/
def Pbu.positionsBeside (u : Pbu) (p : Fin 2) : List (Fin 8) :=
  u.queue.map Job.position ++ (u.printers.get (otherPrinter p)).jobPosition.toList

theorem filterMap_pair {α β : Type} (f : α → Option β) (v : Vec 2 α) :
    v.toList.filterMap f = (f (v.get 0)).toList ++ (f (v.get 1)).toList := by
  obtain ⟨l, hl⟩ := v
  obtain ⟨a, b, rfl⟩ := List.length_eq_two.1 hl
  show [a, b].filterMap f = (f a).toList ++ (f b).toList
  cases ha : f a <;> cases hb : f b <;> simp [ha, hb]

theorem Pbu.jobPositions_perm (u : Pbu) (p : Fin 2) :
    u.jobPositions.Perm ((u.printers.get p).jobPosition.toList ++ u.positionsBeside p) := by
  unfold Pbu.jobPositions Pbu.positionsBeside
  rw [filterMap_pair]
  obtain rfl | rfl : p = 0 ∨ p = 1 := by omega
  · exact List.perm_append_comm_assoc ..
  · rw [← List.append_assoc]
    exact List.perm_append_comm

theorem otherPrinter_ne (p : Fin 2) : otherPrinter p ≠ p := by
  unfold otherPrinter
  split <;> omega

/-! ### A printer's law (08 R141) -/

/-- A printer without a fault, its count in range. -/
structure Printer.Sane (r : Printer) : Prop where
  fault : r.fault = none
  low : Config.encoderLow ≤ r.count
  high : r.count ≤ Config.encoderHigh

/-- A printer that holds a book. -/
structure Printer.Loaded (r : Printer) : Prop extends r.Sane where
  book : r.book = true

theorem Printer.Law.sane {r : Printer} (h : r.Law) (state : r.state ≠ .fault) : r.Sane := by
  obtain ⟨-, -, -, -, fault, -, -, -, -, low, high⟩ := h
  exact ⟨by_contra fun e => state (fault.1 e), low, high⟩

theorem Printer.Law.loaded {r : Printer} (h : r.Law)
    (state : r.state ∈ [.confirming, .aligning, .striking, .feeding, .ejecting, .waitRemoval]) : r.Loaded := by
  refine { h.sane ?_ with book := h.2.2.2.1 state }
  rintro e
  rw [e] at state
  exact absurd state (by decide)

theorem Printer.Law.job {r : Printer} (h : r.Law)
    (state : r.state ∈ [.waitBook, .confirming, .aligning, .striking, .feeding, .pageTurn]) : r.job ≠ none := h.2.1 state

/-- A printer whose motor is off and whose strike output is dropped. -/
def Printer.Still (r : Printer) : Prop := r.motor = .off ∧ r.strike = false

theorem Printer.Law.still {r : Printer} (h : r.Law) (state : r.state ∉ [.aligning, .feeding, .ejecting, .striking]) : r.Still := by
  obtain ⟨-, -, -, -, -, -, -, motor, strike, -⟩ := h
  refine ⟨by_contra fun e => state ?_, Bool.eq_false_iff.2 fun e => state ?_⟩
  · have := motor e
    revert this
    cases r.state <;> decide
  · rw [strike e]
    decide

/-- A printer at rest. -/
theorem Printer.law_rest {r : Printer} (h : r.Sane) : r.rest.Law := by
  obtain ⟨fault, low, high⟩ := h
  cases online : r.online <;> simp [Printer.Law, Printer.rest, Printer.halt, online, fault, low, high]

theorem Printer.law_awaitRemoval {r : Printer} (h : r.Loaded) (leftBy : Option (Fin 8)) : (r.awaitRemoval leftBy).Law := by
  obtain ⟨⟨fault, low, high⟩, book⟩ := h
  simp [Printer.Law, Printer.awaitRemoval, Printer.halt, fault, low, high, book]

theorem Printer.law_feed {r : Printer} (h : r.Loaded) {st : PrinterState} (state : st ∈ [.aligning, .feeding, .ejecting])
    (job : st ≠ .ejecting → r.job ≠ none) (target : Int) : (r.feed st target).Law := by
  obtain ⟨⟨fault, low, high⟩, book⟩ := h
  simp only [List.mem_cons, List.mem_nil_iff, or_false] at state
  rcases state with rfl | rfl | rfl
  · simp [Printer.Law, Printer.feed, fault, low, high, book, job]
  · simp [Printer.Law, Printer.feed, fault, low, high, book, job]
  · simp [Printer.Law, Printer.feed, fault, low, high, book]

section
variable {s : State} {p : Fin 2}

/-! ### The print unit but for one printer -/

/-- The print unit's law, but for printer `p` itself. -/
structure State.LawBeside (s : State) (p : Fin 2) : Prop where
  others : ∀ q, q ≠ p → (s.printer q).Law
  jobs : s.pbu.jobPositions.Nodup

theorem State.PrinterLaw.beside (h : s.PrinterLaw) (p : Fin 2) : s.LawBeside p := ⟨fun q _ => h.1 q, h.2⟩

theorem State.LawBeside.law (h : s.LawBeside p) (self : (s.printer p).Law) : s.PrinterLaw := by
  refine ⟨fun q => ?_, h.jobs⟩
  by_cases e : q = p
  · exact e ▸ self
  · exact h.others q e

theorem State.LawBeside.of_pbu {t : State} (h : s.LawBeside p) (printers : t.pbu.printers = s.pbu.printers)
    (queue : t.pbu.queue = s.pbu.queue) : t.LawBeside p where
  others q hq := by unfold State.printer; rw [printers]; exact h.others q hq
  jobs := by unfold Pbu.jobPositions; rw [printers, queue]; exact h.jobs

theorem State.PrinterLaw.of_pbu {t : State} (h : s.PrinterLaw) (printers : t.pbu.printers = s.pbu.printers)
    (queue : t.pbu.queue = s.pbu.queue) : t.PrinterLaw :=
  ((h.beside 0).of_pbu printers queue).law (by unfold State.printer; rw [printers]; exact h.1 0)

/-- Printer `p` changed to one whose job, if it has one, is for the same position. -/
theorem State.LawBeside.onPrinter (h : s.LawBeside p) {f : Printer → Printer}
    (job : (f (s.printer p)).jobPosition = none ∨ (f (s.printer p)).jobPosition = (s.printer p).jobPosition) :
    (s.onPrinter p f).LawBeside p where
  others q hq := by rw [State.printer_onPrinter_ne _ _ hq]; exact h.others q hq
  jobs := by
    have before := (s.pbu.jobPositions_perm p).nodup_iff.1 h.jobs
    refine ((s.onPrinter p f).pbu.jobPositions_perm p).nodup_iff.2 ?_
    have beside : (s.onPrinter p f).pbu.positionsBeside p = s.pbu.positionsBeside p := by
      have other : (s.onPrinter p f).printer (otherPrinter p) = s.printer (otherPrinter p) :=
        State.printer_onPrinter_ne _ _ (otherPrinter_ne p)
      exact congrArg (fun r : Printer => s.pbu.queue.map Job.position ++ r.jobPosition.toList) other
    have self : (s.onPrinter p f).pbu.printers.get p = f (s.printer p) := State.printer_onPrinter_self ..
    rw [beside, self]
    rcases job with none | same
    · rw [none]
      exact (List.nodup_append.1 before).2.1
    · rw [same]
      exact before

/-- The same, where the printer's law is kept too. -/
theorem State.LawBeside.setPrinter (h : s.LawBeside p) {f : Printer → Printer}
    (job : (f (s.printer p)).jobPosition = none ∨ (f (s.printer p)).jobPosition = (s.printer p).jobPosition)
    (law : (f (s.printer p)).Law) : (s.onPrinter p f).PrinterLaw :=
  (h.onPrinter job).law (by rw [State.printer_onPrinter_self]; exact law)

theorem State.PrinterLaw.onPrinter (h : s.PrinterLaw) {f : Printer → Printer}
    (job : (f (s.printer p)).jobPosition = none ∨ (f (s.printer p)).jobPosition = (s.printer p).jobPosition)
    (law : (f (s.printer p)).Law) : (s.onPrinter p f).PrinterLaw := (h.beside p).setPrinter job law

/-! ### Job ends and assignment (08 R139, R140, R158) -/

theorem printers_endJob (s : State) (j : Job) (outcome : PrintOutcome) (printer : Option (Fin 2)) (cause : Option FaultCause) :
    (s.endJob j outcome printer cause).pbu.printers = s.pbu.printers ∧
      (s.endJob j outcome printer cause).pbu.queue = s.pbu.queue := by
  unfold State.endJob
  rw [State.pbu_notify]
  exact ⟨rfl, rfl⟩

theorem printer_endJob (s : State) (j : Job) (outcome : PrintOutcome) (printer : Option (Fin 2)) (cause : Option FaultCause)
    (q : Fin 2) : (s.endJob j outcome printer cause).printer q = s.printer q := by
  unfold State.printer
  rw [(printers_endJob s j outcome printer cause).1]

theorem State.LawBeside.endJob (h : s.LawBeside p) (j : Job) (outcome : PrintOutcome) (printer : Option (Fin 2))
    (cause : Option FaultCause) : (s.endJob j outcome printer cause).LawBeside p :=
  h.of_pbu (printers_endJob ..).1 (printers_endJob ..).2

theorem State.PrinterLaw.endJob (h : s.PrinterLaw) (j : Job) (outcome : PrintOutcome) (printer : Option (Fin 2))
    (cause : Option FaultCause) : (s.endJob j outcome printer cause).PrinterLaw :=
  h.of_pbu (printers_endJob ..).1 (printers_endJob ..).2

theorem State.PrinterLaw.notify (h : s.PrinterLaw) (k : Notice) (l : Link) : (s.notify k l).PrinterLaw :=
  h.of_pbu (by rw [State.pbu_notify]) (by rw [State.pbu_notify])

theorem printerFor_free {j : Job} (h : s.printerFor j = some p) : (s.printer p).free = true := by
  unfold State.printerFor at h
  dsimp only at h
  split at h
  · next free =>
    cases h
    exact free
  · split at h
    · next free =>
      cases h
      exact (Bool.and_eq_true_iff.1 free).2
    · cases h

theorem Printer.free_iff (r : Printer) : r.free = true ↔ r.state = .idle ∧ r.book = false := by
  simp [Printer.free]

/-- A job may be given to the print unit: no other job is for its position. -/
def State.TakesJobs (s : State) (l : List Job) : Prop := (l.map Job.position ++ s.pbu.jobPositions).Nodup

theorem State.takesJobs_tail {j : Job} {l : List Job} (h : s.TakesJobs (j :: l)) : s.TakesJobs l :=
  (List.nodup_cons.1 (show (j.position :: (l.map Job.position ++ s.pbu.jobPositions)).Nodup from h)).2

/-- Jobs move from the list into the print unit. -/
theorem State.TakesJobs.of_perm {t : State} {j : Job} {l : List Job} (h : s.TakesJobs (j :: l))
    (perm : t.pbu.jobPositions.Perm (j.position :: s.pbu.jobPositions)) : t.TakesJobs l := by
  have moved : (l.map Job.position ++ t.pbu.jobPositions).Perm (j.position :: (l.map Job.position ++ s.pbu.jobPositions)) :=
    (perm.append_left _).trans List.perm_middle
  exact moved.nodup_iff.2 h

/-- A free printer takes a job whose position has none (08 R140). -/
theorem State.PrinterLaw.takeJob (h : s.PrinterLaw) {j : Job} {l : List Job} (free : (s.printer p).free = true)
    (takes : s.TakesJobs (j :: l)) : (s.takeJob p j).PrinterLaw ∧ (s.takeJob p j).TakesJobs l := by
  obtain ⟨idle, empty⟩ := (s.printer p).free_iff.1 free
  unfold State.takeJob
  dsimp only
  split
  · refine ⟨h.endJob _ _ _ _, ?_⟩
    unfold State.TakesJobs Pbu.jobPositions
    rw [(printers_endJob ..).1, (printers_endJob ..).2]
    exact State.takesJobs_tail takes
  · have law := h.1 p
    obtain ⟨fault, low, high⟩ := law.sane (by rw [idle]; decide)
    obtain ⟨motor, strike⟩ := law.still (by rw [idle]; decide)
    have jobless : (s.printer p).jobPosition = none := by
      rw [Printer.jobPosition, law.1 (by rw [idle]; decide)]
      rfl
    have perm : (s.onPrinter p fun r => { r with
        state := .waitBook, job := some (j.latch s.settings p), timer := some Config.bookWait }).pbu.jobPositions.Perm
        (j.position :: s.pbu.jobPositions) := by
      refine (Pbu.jobPositions_perm _ p).trans (.trans ?_ ((s.pbu.jobPositions_perm p).symm.cons _))
      have other : (s.onPrinter p fun r => { r with
          state := .waitBook, job := some (j.latch s.settings p), timer := some Config.bookWait }).printer (otherPrinter p) =
          s.printer (otherPrinter p) := State.printer_onPrinter_ne _ _ (otherPrinter_ne p)
      have self := State.printer_onPrinter_self s p fun r => { r with
          state := .waitBook, job := some (j.latch s.settings p), timer := some Config.bookWait }
      unfold Pbu.positionsBeside
      unfold State.printer at other self jobless
      rw [other, self, jobless]
      exact .refl _
    refine ⟨⟨fun q => ?_, ?_⟩, takes.of_perm perm⟩
    · by_cases e : q = p
      · subst e
        rw [State.printer_onPrinter_self]
        simp [Printer.Law, empty, fault, low, high, motor, strike]
      · rw [State.printer_onPrinter_ne _ _ e]
        exact h.1 q
    · refine perm.nodup_iff.2 (List.nodup_cons.2 ⟨fun mem => ?_, h.2⟩)
      exact (List.nodup_cons.1 (show (j.position :: (l.map Job.position ++ s.pbu.jobPositions)).Nodup from takes)).1
        (List.mem_append_right _ mem)

theorem State.PrinterLaw.queueJob (h : s.PrinterLaw) {j : Job} {l : List Job} (takes : s.TakesJobs (j :: l)) :
    State.PrinterLaw { s with pbu := { s.pbu with queue := s.pbu.queue ++ [j] } } ∧
      State.TakesJobs { s with pbu := { s.pbu with queue := s.pbu.queue ++ [j] } } l := by
  have perm : (Pbu.jobPositions { s.pbu with queue := s.pbu.queue ++ [j] }).Perm (j.position :: s.pbu.jobPositions) := by
    simp only [Pbu.jobPositions, List.map_append, List.map_cons, List.map_nil, List.append_assoc]
    exact List.perm_middle
  refine ⟨⟨h.1, perm.nodup_iff.2 (List.nodup_cons.2 ⟨fun mem => ?_, h.2⟩)⟩, takes.of_perm perm⟩
  exact (List.nodup_cons.1 (show (j.position :: (l.map Job.position ++ s.pbu.jobPositions)).Nodup from takes)).1
    (List.mem_append_right _ mem)

theorem State.PrinterLaw.assignJobs {l : List Job} {s : State} (h : s.PrinterLaw) (takes : s.TakesJobs l) :
    (assignJobs l s).PrinterLaw := by
  induction l generalizing s with
  | nil => exact h
  | cons j l ih =>
    unfold Machine.assignJobs
    split
    · next p found =>
      obtain ⟨law, rest⟩ := h.takeJob (printerFor_free found) takes
      exact ih law rest
    · obtain ⟨law, rest⟩ := h.queueJob takes
      exact ih law rest

theorem State.PrinterLaw.assign (h : s.PrinterLaw) : s.assign.PrinterLaw := by
  refine State.PrinterLaw.assignJobs ⟨h.1, ?_⟩ h.2
  exact (List.nodup_append.1 h.2).2.1

/-! ### Rest and faults (08 R157) -/

theorem State.LawBeside.restPrinter (h : s.LawBeside p) (sane : (s.printer p).Sane) : (s.restPrinter p).PrinterLaw := by
  have rested : (s.onPrinter p Printer.rest).PrinterLaw := h.setPrinter (Or.inl rfl) (Printer.law_rest sane)
  unfold State.restPrinter
  dsimp only
  split
  · exact rested.assign
  · exact rested

/-- A job ended, where there is one, and its printer put at rest. -/
theorem State.LawBeside.endThenRest (h : s.LawBeside p) (sane : (s.printer p).Sane) (job : Option Job) (outcome : PrintOutcome) :
    State.PrinterLaw (match job with
      | some j => (s.endJob j outcome (some p) none).restPrinter p
      | none => s.restPrinter p) := by
  cases job with
  | some j => exact (h.endJob _ _ _ _).restPrinter (by rw [printer_endJob]; exact sane)
  | none => exact h.restPrinter sane

theorem State.LawBeside.faultPrinter (h : s.LawBeside p) (low : Config.encoderLow ≤ (s.printer p).count)
    (high : (s.printer p).count ≤ Config.encoderHigh) (cause : FaultCause) : (s.faultPrinter p cause).PrinterLaw := by
  have faulted : (s.onPrinter p fun r => { r.halt with
      state := .fault, fault := some cause, job := none, leftBy := none }).PrinterLaw :=
    h.setPrinter (Or.inl rfl) (by simp [Printer.Law, Printer.halt, low, high])
  unfold State.faultPrinter
  cases (s.printer p).job with
  | some j => exact (faulted.endJob _ _ _ _).notify _ _
  | none => exact faulted.notify _ _

theorem State.PrinterLaw.faultPrinter (h : s.PrinterLaw) (p : Fin 2) (cause : FaultCause) : (s.faultPrinter p cause).PrinterLaw := by
  obtain ⟨-, -, -, -, -, -, -, -, -, low, high⟩ := h.1 p
  exact (h.beside p).faultPrinter low high cause

/-! ### Feeds (08 R146, R150, R154) -/

theorem State.LawBeside.enterStriking (h : s.LawBeside p) (loaded : (s.printer p).Loaded) (job : (s.printer p).job ≠ none) :
    (s.enterStriking p).PrinterLaw := by
  obtain ⟨⟨fault, low, high⟩, book⟩ := loaded
  exact h.setPrinter (Or.inr rfl) (by simp [Printer.Law, Printer.halt, fault, low, high, book, job])

theorem State.LawBeside.ejectEnd (h : s.LawBeside p) (loaded : (s.printer p).Loaded) : (s.ejectEnd p).PrinterLaw := by
  obtain ⟨⟨fault, low, high⟩, book⟩ := loaded
  unfold State.ejectEnd
  split
  · exact h.setPrinter (Or.inl rfl) (Printer.law_awaitRemoval ⟨⟨fault, low, high⟩, book⟩ _)
  · split
    · exact h.setPrinter (Or.inr rfl) (by simp [Printer.Law, Printer.halt, fault, low, high, book])
    · split
      · exact h.setPrinter (Or.inr rfl) (by simp [Printer.Law, Printer.halt, fault, low, high, book])
      · refine State.PrinterLaw.endJob ?_ _ _ _ _
        exact h.setPrinter (Or.inl rfl) (Printer.law_awaitRemoval ⟨⟨fault, low, high⟩, book⟩ _)

theorem State.LawBeside.feedEnd (h : s.LawBeside p) (loaded : (s.printer p).Loaded)
    (job : (s.printer p).state ≠ .ejecting → (s.printer p).job ≠ none) : (s.feedEnd p).PrinterLaw := by
  unfold State.feedEnd
  split
  · exact h.ejectEnd loaded
  · next other => exact h.enterStriking loaded (job other)

theorem State.LawBeside.startFeed (h : s.LawBeside p) (loaded : (s.printer p).Loaded) {st : PrinterState}
    (state : st ∈ [.aligning, .feeding, .ejecting]) (job : st ≠ .ejecting → (s.printer p).job ≠ none) (target : Int) :
    (s.startFeed p st target).PrinterLaw := by
  have fed : (s.onPrinter p (Printer.feed st target)).LawBeside p := h.onPrinter (Or.inr rfl)
  have self : (s.onPrinter p (Printer.feed st target)).printer p = (s.printer p).feed st target := State.printer_onPrinter_self ..
  unfold State.startFeed
  dsimp only
  split
  · exact fed.feedEnd (by rw [self]; exact ⟨⟨loaded.fault, loaded.low, loaded.high⟩, loaded.book⟩) (by rw [self]; exact job)
  · exact fed.law (by rw [self]; exact Printer.law_feed loaded state job target)

/-! ### Strikes (08 R150 to R152) -/

theorem State.LawBeside.continueJob (h : s.LawBeside p) (loaded : (s.printer p).Loaded) (job : (s.printer p).job ≠ none) (j : Job) :
    (s.continueJob p j).PrinterLaw := by
  obtain ⟨⟨fault, low, high⟩, book⟩ := loaded
  unfold State.continueJob
  split
  · refine State.LawBeside.startFeed (h.onPrinter (Or.inr rfl)) ?_ (by decide) (fun e => absurd rfl e) _
    rw [State.printer_onPrinter_self]
    exact ⟨⟨fault, low, high⟩, book⟩
  · split
    · refine State.LawBeside.startFeed (h.onPrinter (Or.inr rfl)) ?_ (by decide) (fun e => absurd rfl e) _
      rw [State.printer_onPrinter_self]
      exact ⟨⟨fault, low, high⟩, book⟩
    · refine State.LawBeside.startFeed (h.onPrinter (Or.inr rfl)) ?_ (by decide) ?_ _
      · rw [State.printer_onPrinter_self]
        exact ⟨⟨fault, low, high⟩, book⟩
      · rw [State.printer_onPrinter_self]
        exact fun _ => job

theorem State.PrinterLaw.strikeDone (h : s.PrinterLaw) (p : Fin 2) : (s.strikeDone p).PrinterLaw := by
  unfold State.strikeDone
  split
  · next striking =>
    obtain ⟨⟨fault, low, high⟩, book⟩ := (h.1 p).loaded (by rw [striking]; decide)
    split
    · exact h
    · next j job =>
      split
      · exact h
      · next v _ =>
        have printed : (s.printItem j).LawBeside p := (h.beside p).of_pbu rfl rfl
        have placed : ((s.printItem j).setJob p (j.struck v)).LawBeside p := by
          refine printed.onPrinter (Or.inr ?_)
          show some (j.struck v).position = (s.printer p).job.map Job.position
          rw [job]
          rfl
        have self : ((s.printItem j).setJob p (j.struck v)).printer p = { s.printer p with job := some (j.struck v) } :=
          State.printer_onPrinter_self ..
        exact placed.continueJob (by rw [self]; exact ⟨⟨fault, low, high⟩, book⟩) (by rw [self]; exact Option.some_ne_none _) _
  · exact h

theorem State.PrinterLaw.strikeTimeEnd (h : s.PrinterLaw) (p : Fin 2) : (s.strikeTimeEnd p).PrinterLaw := by
  unfold State.strikeTimeEnd
  split
  · exact h.faultPrinter p _
  · exact h

theorem State.PrinterLaw.jam (h : s.PrinterLaw) (p : Fin 2) : (s.jam p).PrinterLaw := by
  unfold State.jam
  split
  · exact h.faultPrinter p _
  · exact h

/-! ### The encoder (08 R143) -/

theorem encoderNext_bounds {c : Int} (dir : Direction) (h : Config.encoderLow ≤ c ∧ c ≤ Config.encoderHigh) :
    Config.encoderLow ≤ encoderNext dir c ∧ encoderNext dir c ≤ Config.encoderHigh := by
  unfold encoderNext
  cases dir <;> dsimp only <;> split <;> omega

/-- A printer's law does not depend on its count, within its bounds, nor on what of a feed is only counted. -/
theorem Printer.Law.setCount {r : Printer} (h : r.Law) (c : Int) (furthest : Option Int)
    (bounds : Config.encoderLow ≤ c ∧ c ≤ Config.encoderHigh) : ({ r with count := c, furthest := furthest } : Printer).Law := by
  obtain ⟨jobless, job, noBook, book, fault, idle, offline, motor, strike, -⟩ := h
  exact ⟨jobless, job, noBook, book, fault, idle, offline, motor, strike, bounds⟩

theorem Printer.feeding_state {r : Printer} (h : r.feeding = true) : r.state ∈ [.aligning, .feeding, .ejecting] := by
  obtain ⟨-, state⟩ := Bool.and_eq_true_iff.1 h
  simpa [or_assoc] using state

theorem State.PrinterLaw.encoderStep (h : s.PrinterLaw) (p : Fin 2) (dir : Direction) : (s.encoderStep p dir).PrinterLaw := by
  have law := h.1 p
  have bounds : Config.encoderLow ≤ (s.printer p).count ∧ (s.printer p).count ≤ Config.encoderHigh := law.2.2.2.2.2.2.2.2.2
  have next := encoderNext_bounds dir bounds
  refine State.encoderStep.eq_1 s p dir ▸ ?_
  dsimp only
  split
  · split
    · next feeding =>
      have state := Printer.feeding_state feeding
      obtain ⟨⟨fault, -, -⟩, book⟩ := law.loaded (by revert state; cases (s.printer p).state <;> decide)
      have job : (s.printer p).state ≠ .ejecting → (s.printer p).job ≠ none := fun other => law.job (by
        revert state other
        cases (s.printer p).state <;> decide)
      generalize furthestNext (s.printer p).direction (s.printer p).furthest (encoderNext dir (s.printer p).count) = furthest
      have moved : (s.onPrinter p fun r => { r with count := encoderNext dir (s.printer p).count, furthest := furthest }).PrinterLaw :=
        h.onPrinter (Or.inr rfl) (law.setCount _ _ next)
      have self := State.printer_onPrinter_self s p fun r => { r with count := encoderNext dir (s.printer p).count, furthest := furthest }
      split
      · exact (moved.beside p).feedEnd (by rw [self]; exact ⟨⟨fault, next.1, next.2⟩, book⟩) (by rw [self]; exact job)
      · split
        · exact moved.faultPrinter p _
        · exact moved
    · exact h.onPrinter (f := fun r => { r with count := encoderNext dir (s.printer p).count }) (Or.inr rfl)
        (law.setCount _ (s.printer p).furthest next)
  · exact h

/-! ### The book sensor (08 R142, R144, R145, R153 to R156) -/

theorem Printer.law_confirming {r : Printer} (sane : r.Sane) (book : r.book = true) (job : r.job ≠ none) (ret : ConfirmReturn) :
    Printer.Law { r.halt with state := .confirming, confirmReturn := some ret, timer := some Config.confirmTime } := by
  obtain ⟨fault, low, high⟩ := sane
  simp [Printer.Law, Printer.halt, fault, low, high, book, job]

theorem State.PrinterLaw.insertion (h : s.PrinterLaw) (p : Fin 2) : (s.insertion p).PrinterLaw := by
  have law := h.1 p
  have sensed : (s.onPrinter p fun r => { r with book := true, input := true }).LawBeside p := (h.beside p).onPrinter (Or.inr rfl)
  have self := State.printer_onPrinter_self s p fun r => { r with book := true, input := true }
  have confirming {ret : ConfirmReturn} (state : (s.printer p).state ∈ [PrinterState.waitBook, .pageTurn]) :
      ((s.onPrinter p fun r => { r with book := true, input := true }).onPrinter p fun r =>
        { r.halt with state := .confirming, confirmReturn := some ret, timer := some Config.confirmTime }).PrinterLaw := by
    obtain ⟨fault, low, high⟩ := law.sane (by rintro e; rw [e] at state; exact absurd state (by decide))
    have job : (s.printer p).job ≠ none := law.job (by revert state; cases (s.printer p).state <;> decide)
    refine sensed.setPrinter (Or.inr rfl) ?_
    rw [self]
    exact Printer.law_confirming (r := { s.printer p with book := true, input := true }) ⟨fault, low, high⟩ rfl job ret
  unfold State.insertion
  dsimp only
  split
  · exact h
  · next empty =>
    split
    · next state => exact confirming (by rw [state]; decide)
    · next state => exact confirming (by rw [state]; decide)
    · next notWait notTurn =>
      refine sensed.law ?_
      rw [self]
      obtain ⟨jobless, job, noBook, book, fault, idle, offline, motor, strike, low, high⟩ := law
      refine ⟨jobless, job, fun state => ?_, fun _ => rfl, fault, idle, offline, motor, strike, low, high⟩
      simp only [List.mem_cons, List.mem_nil_iff, or_false] at state
      exact absurd state (not_or.2 ⟨notWait, notTurn⟩)

theorem State.LawBeside.bookTaken (h : s.LawBeside p) (sane : (s.printer p).Sane) (empty : (s.printer p).book = false) :
    (s.bookTaken p).PrinterLaw := by
  unfold State.bookTaken
  split
  · exact h.restPrinter sane
  · next j job =>
    have ended (outcome : PrintOutcome) : ((s.endJob j outcome (some p) none).restPrinter p).PrinterLaw :=
      h.endThenRest sane (some j) outcome
    split
    · exact ended _
    · split
      · obtain ⟨fault, low, high⟩ := sane
        exact h.setPrinter (Or.inr rfl) (by simp [Printer.Law, Printer.enterPageTurn, Printer.halt, fault, low, high, empty, job])
      · exact ended _

theorem Printer.law_unconfirm {r : Printer} (sane : r.Sane) (empty : r.book = false) (job : r.job ≠ none) : r.unconfirm.Law := by
  obtain ⟨fault, low, high⟩ := sane
  unfold Printer.unconfirm
  split <;> simp [Printer.Law, Printer.halt, fault, low, high, empty, job]

theorem State.PrinterLaw.removal (h : s.PrinterLaw) (p : Fin 2) : (s.removal p).PrinterLaw := by
  have law := h.1 p
  have sensed : (s.onPrinter p fun r => { r with book := false, input := false }).LawBeside p :=
    (h.beside p).onPrinter (Or.inr rfl)
  have self := State.printer_onPrinter_self s p fun r => { r with book := false, input := false }
  unfold State.removal
  dsimp only
  split
  · have stays (state : (s.printer p).state ∈ [PrinterState.idle, .waitBook, .pageTurn, .fault, .offline]) :
        (s.onPrinter p fun r => { r with book := false, input := false }).PrinterLaw := by
      refine sensed.law ?_
      rw [self]
      obtain ⟨jobless, job, noBook, book, fault, idle, offline, motor, strike, low, high⟩ := law
      refine ⟨jobless, job, fun _ => rfl, fun other => absurd state ?_, fault, idle, offline, motor, strike, low, high⟩
      revert other
      dsimp only
      cases (s.printer p).state <;> decide
    have sane (state : (s.printer p).state ≠ .fault) :
        ((s.onPrinter p fun r => { r with book := false, input := false }).printer p).Sane := by
      rw [self]
      obtain ⟨fault, low, high⟩ := law.sane state
      exact ⟨fault, low, high⟩
    have incomplete (state : (s.printer p).state ≠ .fault) := sensed.endThenRest (sane state) (s.printer p).job .incomplete
    split
    · next state => exact (stays (by rw [state]; decide)).assign
    · next state =>
      refine sensed.setPrinter (Or.inr rfl) ?_
      rw [self]
      obtain ⟨fault, low, high⟩ := law.sane (by rw [state]; decide)
      exact Printer.law_unconfirm ⟨fault, low, high⟩ rfl (law.job (by rw [state]; decide))
    · next state => exact incomplete (by rw [state]; decide)
    · next state => exact incomplete (by rw [state]; decide)
    · next state => exact incomplete (by rw [state]; decide)
    · next state =>
      refine State.LawBeside.bookTaken (sensed.onPrinter (Or.inr rfl)) ?_ ?_
      · rw [State.printer_onPrinter_self]
        obtain ⟨fault, low, high⟩ := sane (by rw [state]; decide)
        exact ⟨fault, low, high⟩
      · rw [State.printer_onPrinter_self, self]
        rfl
    · next state => exact sensed.bookTaken (sane (by rw [state]; decide)) (by rw [self])
    · next state => exact stays (by rw [state]; decide)
    · next state => exact stays (by rw [state]; decide)
    · next state => exact stays (by rw [state]; decide)
    · next state => exact stays (by rw [state]; decide)
  · exact h

theorem State.PrinterLaw.waitEnds (h : s.PrinterLaw) (p : Fin 2) {st : PrinterState} (state : st ≠ .fault) (outcome : PrintOutcome) :
    (s.waitEnds p st outcome).PrinterLaw := by
  unfold State.waitEnds
  split
  · next is => exact (h.beside p).endThenRest ((h.1 p).sane (is ▸ state)) _ outcome
  · exact h

theorem State.PrinterLaw.bookConfirmed (h : s.PrinterLaw) (p : Fin 2) : (s.bookConfirmed p).PrinterLaw := by
  unfold State.bookConfirmed
  split
  · next state =>
    split
    · next j job =>
      obtain ⟨⟨fault, -, -⟩, book⟩ := (h.1 p).loaded (by rw [state]; decide)
      refine State.LawBeside.startFeed ((h.beside p).onPrinter (Or.inr rfl)) ?_ (by decide) ?_ _
      · rw [State.printer_onPrinter_self]
        exact ⟨⟨fault, Int.negSucc_le_zero _, Int.natCast_nonneg _⟩, book⟩
      · rw [State.printer_onPrinter_self]
        intro _
        show (s.printer p).job ≠ none
        rw [job]
        exact Option.some_ne_none _
    · exact h
  · exact h

theorem State.PrinterLaw.bookLeft (h : s.PrinterLaw) (p : Fin 2) : (s.bookLeft p).PrinterLaw := by
  have stayed : (s.onPrinter p fun r => { r with bookLeft := true, timer := none }).PrinterLaw := h.onPrinter (Or.inr rfl) (h.1 p)
  unfold State.bookLeft
  dsimp only
  split
  · split
    · exact stayed.notify _ _
    · exact stayed.notify _ _
    · exact stayed
  · exact h

/-! ### Requesting, cancelling, servicing (08 R137, R138, R160, R161) -/

/-- A position without a job has none among the job positions. -/
theorem Pbu.not_mem_jobPositions {u : Pbu} {n : Fin 8} (h : u.hasJob n = false) : n ∉ u.jobPositions := by
  simp only [Pbu.hasJob, Bool.or_eq_false_iff] at h
  obtain ⟨⟨queue, first⟩, second⟩ := h
  have onPrinter {r : Printer} (h : r.runsFor n = false) : n ∉ r.jobPosition.toList := by
    unfold Printer.runsFor at h
    unfold Printer.jobPosition
    cases job : r.job with
    | none => exact List.not_mem_nil
    | some j =>
      rw [job] at h
      simpa [eq_comm] using h
  intro mem
  rw [Pbu.jobPositions, filterMap_pair] at mem
  rcases List.mem_append.1 mem with mem | mem
  · obtain ⟨j, hj, rfl⟩ := List.mem_map.1 mem
    exact absurd (List.any_eq_false.1 queue j hj) (by simp)
  · exact (List.mem_append.1 mem).elim (onPrinter first) (onPrinter second)

theorem State.PrinterLaw.createJob (h : s.PrinterLaw) {n : Fin 8} (b : PrintBody) (free : s.pbu.hasJob n = false) :
    (s.createJob n b).PrinterLaw := by
  have takes {j : Job} (hj : j.position = n) : s.TakesJobs [j] :=
    List.nodup_cons.2 ⟨by rw [hj]; exact Pbu.not_mem_jobPositions free, h.2⟩
  unfold State.createJob
  exact State.PrinterLaw.assign (State.PrinterLaw.of_pbu (h.queueJob (takes rfl)).1 rfl rfl)

theorem State.PrinterLaw.cancelOn (h : s.PrinterLaw) (p : Fin 2) (n : Fin 8) : (s.cancelOn p n).PrinterLaw := by
  have law := h.1 p
  have eject (state : (s.printer p).state ∈ [PrinterState.aligning, .striking, .feeding]) :
      ((s.onPrinter p fun r => { r.halt with job := none, leftBy := some n }).startFeed p .ejecting 0).PrinterLaw := by
    obtain ⟨⟨fault, low, high⟩, book⟩ := law.loaded (by revert state; cases (s.printer p).state <;> decide)
    refine State.LawBeside.startFeed ((h.beside p).onPrinter (Or.inl rfl)) ?_ (by decide) (fun e => absurd rfl e) _
    rw [State.printer_onPrinter_self]
    exact ⟨⟨fault, low, high⟩, book⟩
  have jobless (state : (s.printer p).state ∈ [PrinterState.idle, .fault, .offline]) :
      (s.onPrinter p fun r => { r with job := none }).PrinterLaw := by
    have : ({ s.printer p with job := none } : Printer) = s.printer p := by rw [← law.1 state]
    exact h.onPrinter (Or.inl rfl) (by rw [this]; exact law)
  obtain ⟨-, -, noBook, book, fault, idle, offline, motor, strike, low, high⟩ := law
  unfold State.cancelOn
  split
  · next state => exact (h.beside p).restPrinter ((h.1 p).sane (by rw [state]; decide))
  · next state => exact (h.beside p).restPrinter ((h.1 p).sane (by rw [state]; decide))
  · next state => exact h.onPrinter (Or.inl rfl) (Printer.law_awaitRemoval ((h.1 p).loaded (by rw [state]; decide)) _)
  · next state => exact eject (by rw [state]; decide)
  · next state => exact eject (by rw [state]; decide)
  · next state => exact eject (by rw [state]; decide)
  · next state =>
    exact h.onPrinter (Or.inl rfl) ⟨fun _ => rfl, fun other => absurd other (by simp [state]), noBook, book, fault, idle, offline,
      motor, strike, low, high⟩
  · next state =>
    exact h.onPrinter (Or.inl rfl) ⟨fun _ => rfl, fun other => absurd other (by simp [state]), noBook, book, fault, idle, offline,
      motor, strike, low, high⟩
  · next state => exact jobless (by rw [state]; decide)
  · next state => exact jobless (by rw [state]; decide)
  · next state => exact jobless (by rw [state]; decide)

theorem State.PrinterLaw.cancelRunning (h : s.PrinterLaw) (p : Fin 2) (n : Fin 8) : (s.cancelRunning p n).PrinterLaw := by
  unfold State.cancelRunning
  split
  · split
    · exact (h.endJob _ _ _ _).cancelOn p n
    · exact h
  · exact h

theorem State.PrinterLaw.cancelJob (h : s.PrinterLaw) (n : Fin 8) : (s.cancelJob n).PrinterLaw := by
  unfold State.cancelJob
  split
  · exact h.cancelRunning 0 n
  · split
    · exact h.cancelRunning 1 n
    · unfold State.cancelQueued
      split
      · next j _ =>
        have left : State.PrinterLaw { s with pbu :=
            { s.pbu with queue := s.pbu.queue.filter fun k => decide (k.position ≠ n) } } :=
          ⟨h.1, h.2.sublist (List.Sublist.append_right (List.filter_sublist.map _) _)⟩
        exact left.endJob j _ _ _
      · exact h

/-- The service setting changed where the state does not speak of it (08 R161). -/
theorem Printer.Law.setOnline {r : Printer} (h : r.Law) {b : Bool} (idle : r.state = .idle → b = true)
    (offline : r.state = .offline → b = false) : ({ r with online := b } : Printer).Law := by
  obtain ⟨jobless, job, noBook, book, fault, -, -, motor, strike, low, high⟩ := h
  exact ⟨jobless, job, noBook, book, fault, idle, offline, motor, strike, low, high⟩

/-- IDLE and OFFLINE change into each other as the service setting does. -/
theorem Printer.Law.setService {r : Printer} (h : r.Law) (state : r.state = .idle ∨ r.state = .offline) (b : Bool) :
    ({ r with online := b, state := if b then .idle else .offline } : Printer).Law := by
  obtain ⟨fault, low, high⟩ := h.sane (by rcases state with e | e <;> rw [e] <;> decide)
  obtain ⟨motor, strike⟩ := h.still (by rcases state with e | e <;> rw [e] <;> decide)
  have job := h.1 (by rcases state with e | e <;> rw [e] <;> decide)
  cases b <;> simp [Printer.Law, fault, low, high, motor, strike, job]

theorem State.PrinterLaw.serviceOffline (h : s.PrinterLaw) (p : Fin 2) : (s.serviceOffline p).PrinterLaw := by
  have law := h.1 p
  have self := State.printer_onPrinter_self s p fun r => { r with online := false }
  unfold State.serviceOffline
  dsimp only
  split
  · split
    · next j job =>
      refine State.PrinterLaw.cancelRunning (h.onPrinter (Or.inr rfl) (law.setOnline (fun idle => ?_) fun _ => rfl)) p _
      rw [law.1 (by rw [idle]; decide)] at job
      cases job
    · split
      · next idle =>
        rw [self] at idle
        refine ((h.beside p).onPrinter (Or.inr rfl)).setPrinter (Or.inr rfl) ?_
        rw [self]
        exact law.setService (Or.inl idle) false
      · next busy =>
        rw [self] at busy
        exact h.onPrinter (Or.inr rfl) (law.setOnline (fun idle => absurd idle busy) fun _ => rfl)
  · exact h

theorem State.PrinterLaw.serviceOnline (h : s.PrinterLaw) (p : Fin 2) : (s.serviceOnline p).PrinterLaw := by
  have law := h.1 p
  have self := State.printer_onPrinter_self s p fun r => { r with online := true }
  unfold State.serviceOnline
  dsimp only
  split
  · next offline =>
    have idle : ((s.onPrinter p fun r => { r with online := true }).onPrinter p fun r => { r with state := .idle }).PrinterLaw := by
      refine ((h.beside p).onPrinter (Or.inr rfl)).setPrinter (Or.inr rfl) ?_
      rw [self]
      exact law.setService (Or.inr offline) true
    split
    · exact idle.assign
    · exact idle
  · next other => exact h.onPrinter (Or.inr rfl) (law.setOnline (fun _ => rfl) fun offline => absurd offline other)

theorem State.PrinterLaw.serviceClear (h : s.PrinterLaw) (p : Fin 2) : (s.serviceClear p).PrinterLaw := by
  obtain ⟨-, -, -, -, -, -, -, -, -, low, high⟩ := h.1 p
  have self := State.printer_onPrinter_self s p fun r => { r with fault := none }
  have cleared : (s.onPrinter p fun r => { r with fault := none }).LawBeside p := (h.beside p).onPrinter (Or.inr rfl)
  have sane : ((s.onPrinter p fun r => { r with fault := none }).printer p).Sane := by
    rw [self]
    exact ⟨rfl, low, high⟩
  unfold State.serviceClear
  dsimp only
  split
  · next book => exact cleared.setPrinter (Or.inl rfl) (Printer.law_awaitRemoval { sane with book := book } _)
  · exact cleared.restPrinter sane

theorem State.PrinterLaw.duePrinter (h : s.PrinterLaw) (p : Fin 2) : (s.duePrinter p).PrinterLaw := by
  unfold State.duePrinter
  split
  · split
    · exact h.waitEnds p (by decide) _
    · exact h.waitEnds p (by decide) _
    · exact h.bookConfirmed p
    · exact h.strikeTimeEnd p
    · exact h.jam p
    · exact h.jam p
    · exact h.jam p
    · exact h.bookLeft p
    all_goals exact h
  · exact h

end

end Sys2Proof.Machine
end

section
/-! PROOF. The uplink (10): every operation keeps its buffers, its verdict wait and its transmit list as they must be. -/

namespace Sys2Proof.Machine

/-! ### The law of the uplink, taken apart (10 R180, R181, R186) -/

/-- The uplink's law in a day state. -/
structure Ulc.Law (st : DayState) (u : Ulc) : Prop where
  quiet : ¬(st = .sending ∧ u.up = true) → (∀ b, u.buffers.get b = none) ∧ u.verdict = none
  blocks : ∀ b k, u.buffers.get b = some k → k.Law
  apart : ∀ b, ∀ q ∈ heldSeqs (u.buffers.get b), q ∉ heldSeqs (u.buffers.get (otherBuffer b))
  verdict : u.verdict ≠ none → ∃ b k, u.buffers.get b = some k ∧ k.held = true
  purposes : (u.waiting.map UpFrame.purpose).Nodup
  next : 1 ≤ u.nextBlock ∧ u.nextBlock ≤ Config.maxBlock

theorem forall_buffer {P : Fin 2 → Prop} : (∀ b, P b) ↔ P 0 ∧ P 1 := Fin.forall_fin_two

theorem otherBuffer_ne (b : Fin 2) : otherBuffer b ≠ b := by
  unfold otherBuffer
  split <;> omega

theorem eq_otherBuffer {b c : Fin 2} (h : c ≠ b) : c = otherBuffer b := by
  unfold otherBuffer
  split <;> omega

theorem otherBuffer_otherBuffer (b : Fin 2) : otherBuffer (otherBuffer b) = b := (eq_otherBuffer (otherBuffer_ne b).symm).symm

/-- What the acknowledged SUMMARY is found in. -/
theorem Ulc.heldBlock_spec {u : Ulc} {b : Fin 2} {k : Block} (h : u.heldBlock = some (b, k)) :
    u.buffers.get b = some k ∧ k.held = true := by
  unfold Ulc.heldBlock at h
  split at h
  · next a c hA hB =>
    split at h
    · next held => cases h; exact ⟨hA, held⟩
    · split at h
      · next held => cases h; exact ⟨hB, held⟩
      · cases h
  · next a hA hB =>
    split at h
    · next held => cases h; exact ⟨hA, held⟩
    · cases h
  · next c hA hB =>
    split at h
    · next held => cases h; exact ⟨hB, held⟩
    · cases h
  · cases h

theorem Ulc.heldBlock_ne_none {u : Ulc} : u.heldBlock ≠ none ↔ ∃ b k, u.buffers.get b = some k ∧ k.held = true := by
  constructor
  · intro h
    obtain ⟨⟨b, k⟩, found⟩ := Option.ne_none_iff_exists'.1 h
    exact ⟨b, k, u.heldBlock_spec found⟩
  · rintro ⟨b, k, at_, held⟩
    unfold Ulc.heldBlock
    obtain rfl | rfl : b = 0 ∨ b = 1 := by omega
    · cases h : u.buffers.get 1 <;> simp [at_, held]
    · cases h : u.buffers.get 0 with
      | none => simp [at_, held]
      | some a => cases ha : a.held <;> simp [at_, held, ha]

theorem uplinkLaw_iff (s : State) : s.UplinkLaw ↔ s.ulc.Law s.day.state := by
  have swap : (∀ b, ∀ q ∈ heldSeqs (s.ulc.buffers.get b), q ∉ heldSeqs (s.ulc.buffers.get (otherBuffer b))) ↔
      ∀ q ∈ heldSeqs (s.ulc.buffers.get 0), q ∉ heldSeqs (s.ulc.buffers.get 1) := by
    rw [forall_buffer]
    exact ⟨fun h => h.1, fun h => ⟨h, fun q hq hq' => h q hq' hq⟩⟩
  constructor
  · rintro ⟨quiet, blocks, apart, verdict, purposes, next⟩
    exact ⟨fun away => ⟨forall_buffer.2 ⟨(quiet away).1, (quiet away).2.1⟩, (quiet away).2.2⟩, blocks, swap.2 apart,
      fun waits => Ulc.heldBlock_ne_none.1 (verdict waits), purposes, next⟩
  · rintro ⟨quiet, blocks, apart, verdict, purposes, next⟩
    exact ⟨fun away => ⟨(quiet away).1 0, (quiet away).1 1, (quiet away).2⟩, blocks, swap.1 apart,
      fun waits => Ulc.heldBlock_ne_none.2 (verdict waits), purposes, next⟩

section
variable {st : DayState} {u : Ulc}

/-! ### The transmit list (10 R181) -/

/-- An uplink that differs in its list and in what the law does not speak of. -/
theorem Ulc.Law.of_same {v : Ulc} (h : u.Law st) (up : v.up = u.up) (buffers : v.buffers = u.buffers) (verdict : v.verdict = u.verdict)
    (next : v.nextBlock = u.nextBlock) (purposes : (v.waiting.map UpFrame.purpose).Nodup) : v.Law st where
  quiet := by rw [up, buffers, verdict]; exact h.quiet
  blocks := by rw [buffers]; exact h.blocks
  apart := by rw [buffers]; exact h.apart
  verdict := by rw [buffers, verdict]; exact h.verdict
  purposes := purposes
  next := by rw [next]; exact h.next

theorem Ulc.pump_same (u : Ulc) :
    u.pump.up = u.up ∧ u.pump.buffers = u.buffers ∧ u.pump.verdict = u.verdict ∧ u.pump.nextBlock = u.nextBlock ∧
      u.pump.round = u.round ∧ u.pump.waiting.Sublist u.waiting := by
  unfold Ulc.pump
  split
  · next h => exact ⟨rfl, rfl, rfl, rfl, rfl, by rw [h]; exact List.sublist_cons_self _ _⟩
  · exact ⟨rfl, rfl, rfl, rfl, rfl, .refl _⟩

theorem Ulc.Law.pump (h : u.Law st) : u.pump.Law st := by
  obtain ⟨up, buffers, verdict, next, -, waiting⟩ := u.pump_same
  exact h.of_same up buffers verdict next (h.purposes.sublist (waiting.map _))

theorem Ulc.not_mem_purposes {p : Nat} (h : ¬u.waits p = true) : p ∉ u.waiting.map UpFrame.purpose := by
  intro mem
  obtain ⟨g, hg, rfl⟩ := List.mem_map.1 mem
  exact h (List.any_eq_true.2 ⟨g, hg, beq_self_eq_true _⟩)

theorem Ulc.Law.produce (h : u.Law st) (f : UpFrame) : (u.produce f).Law st := by
  unfold Ulc.produce
  refine Ulc.Law.pump (h.of_same rfl rfl rfl rfl ?_)
  dsimp only
  split
  · have same : (u.waiting.map fun g => if g.purpose = f.purpose then f else g).map UpFrame.purpose =
        u.waiting.map UpFrame.purpose := by
      rw [List.map_map]
      refine List.map_congr_left fun g _ => ?_
      show UpFrame.purpose (if g.purpose = f.purpose then f else g) = g.purpose
      split
      · next e => exact e.symm
      · rfl
    rw [same]
    exact h.purposes
  · next free =>
    rw [List.map_append]
    exact List.nodup_append.2 ⟨h.purposes, List.nodup_singleton _, fun a ha b hb e => by
      obtain rfl := List.mem_singleton.1 hb
      exact u.not_mem_purposes free (e ▸ ha)⟩

/-- Every buffer emptied and the verdict wait ended: the law holds in whatever day. -/
theorem Ulc.law_clear (h : u.Law st) (st' : DayState) (up : Bool) : Ulc.Law st' { u.clear with up := up } := by
  have none : ∀ b, u.clear.buffers.get b = none := forall_buffer.2
    ⟨(Vec.get_set_ne _ _ (by decide)).trans (Vec.get_set_self _ _ _), Vec.get_set_self _ _ _⟩
  exact {
    quiet := fun _ => ⟨none, rfl⟩
    blocks := fun b k e => by rw [none b] at e; cases e
    apart := fun b q hq => by rw [none b] at hq; cases hq
    verdict := fun e => absurd rfl e
    purposes := h.purposes.sublist ((List.filter_sublist.trans List.filter_sublist).map _)
    next := h.next }

theorem Ulc.law_clear_self (h : u.Law st) (st' : DayState) : u.clear.Law st' := Ulc.law_clear h st' u.up

/-! ### Blocks (10 R180, R186) -/

theorem get_setBuffer (v : Vec 2 (Option Block)) (b : Fin 2) (x : Option Block) :
    (v.set b x).get b = x ∧ (v.set b x).get (otherBuffer b) = v.get (otherBuffer b) :=
  ⟨Vec.get_set_self _ _ _, Vec.get_set_ne _ _ (otherBuffer_ne b)⟩

/-- A block put into buffer `b`: lawful, its records apart from the other buffer's, and the held block not lost. -/
theorem Ulc.Law.setBlock (h : u.Law st) {b : Fin 2} {k : Block} (on : st = .sending ∧ u.up = true) (law : k.Law)
    (apart : ∀ q ∈ k.seqs, q ∉ heldSeqs (u.buffers.get (otherBuffer b))) {verdict : Option Nat}
    (held : verdict ≠ none → k.held = true ∨ u.verdict ≠ none ∧ ∀ j, u.buffers.get b = some j → j.held = false) :
    Ulc.Law st { u with buffers := u.buffers.set b (some k), verdict := verdict } where
  quiet away := absurd on away
  blocks c j e := by
    dsimp only at e
    by_cases hc : c = b
    · subst hc
      rw [Vec.get_set_self] at e
      cases e
      exact law
    · rw [Vec.get_set_ne _ _ hc] at e
      exact h.blocks c j e
  apart c q hq := by
    dsimp only at hq ⊢
    obtain ⟨self, other⟩ := get_setBuffer u.buffers b (some k)
    by_cases hc : c = b
    · subst hc
      rw [self] at hq
      rw [other]
      exact apart q hq
    · obtain rfl := eq_otherBuffer hc
      rw [other] at hq
      rw [otherBuffer_otherBuffer, self]
      exact fun mine => apart q mine hq
  verdict waits := by
    dsimp only at waits ⊢
    rcases held waits with mine | ⟨before, others⟩
    · exact ⟨b, k, Vec.get_set_self _ _ _, mine⟩
    · obtain ⟨c, j, at_, heldJ⟩ := h.verdict before
      refine ⟨c, j, ?_, heldJ⟩
      rw [Vec.get_set_ne _ _ fun e => ?_]
      · exact at_
      · subst e
        rw [others j at_] at heldJ
        cases heldJ
  purposes := h.purposes
  next := h.next

theorem nextNumber_bounds {k : Nat} (h : 1 ≤ k ∧ k ≤ Config.maxBlock) : 1 ≤ nextNumber k ∧ nextNumber k ≤ Config.maxBlock := by
  unfold nextNumber
  split <;> omega

/-- A buffer emptied of a block that is not HELD. -/
theorem Ulc.Law.free (h : u.Law st) {b : Fin 2} (held : ∀ k, u.buffers.get b = some k → k.held = false) : (u.free b).Law st where
  quiet away := by
    obtain ⟨none, verdict⟩ := h.quiet away
    refine ⟨fun c => ?_, verdict⟩
    show (u.buffers.set b Option.none).get c = _
    rw [Vec.get_set]
    split
    · rfl
    · exact none c
  blocks c j e := by
    change (u.buffers.set b none).get c = _ at e
    rw [Vec.get_set] at e
    split at e
    · cases e
    · exact h.blocks c j e
  apart c q hq := by
    change q ∈ heldSeqs ((u.buffers.set b none).get c) at hq
    show q ∉ heldSeqs ((u.buffers.set b none).get (otherBuffer c))
    rw [Vec.get_set] at hq ⊢
    split at hq
    · cases hq
    · split
      · exact List.not_mem_nil
      · exact h.apart c q hq
  verdict waits := by
    obtain ⟨c, j, at_, heldJ⟩ := h.verdict waits
    refine ⟨c, j, ?_, heldJ⟩
    show (u.buffers.set b none).get c = _
    rw [Vec.get_set_ne _ _ fun e => ?_]
    · exact at_
    · subst e
      rw [held j at_] at heldJ
      cases heldJ
  purposes := h.purposes.sublist (List.filter_sublist.map _)
  next := h.next

theorem Ulc.Law.setVerdict_none (h : u.Law st) : Ulc.Law st { u with verdict := none } where
  quiet away := ⟨(h.quiet away).1, rfl⟩
  blocks := h.blocks
  apart := h.apart
  verdict e := absurd rfl e
  purposes := h.purposes
  next := h.next

end

/-! ### The uplink's operations on the state -/

section
variable {s : State}

theorem State.UplinkLaw.setUlc {u : Ulc} (law : u.Law s.day.state) : State.UplinkLaw { s with ulc := u } :=
  (uplinkLaw_iff _).2 law

theorem State.UplinkLaw.law (h : s.UplinkLaw) : s.ulc.Law s.day.state := (uplinkLaw_iff s).1 h

theorem State.UplinkLaw.of_same {t : State} (h : s.UplinkLaw) (day : t.day.state = s.day.state) (ulc : t.ulc = s.ulc) : t.UplinkLaw := by
  rw [uplinkLaw_iff, day, ulc]
  exact h.law

theorem State.UplinkLaw.notify (h : s.UplinkLaw) (k : Notice) (l : Link) : (s.notify k l).UplinkLaw :=
  h.of_same (by rw [State.day_notify]) (by rw [State.ulc_notify])

theorem State.UplinkLaw.produce (h : s.UplinkLaw) (f : UpFrame) : (s.produce f).UplinkLaw := (uplinkLaw_iff _).2 (h.law.produce f)

/-- The day is SENDING and the link UP: blocks may be filled. -/
def State.Transmits (s : State) : Prop := s.day.state = .sending ∧ s.ulc.up = true

/-- A block loaded into an empty buffer. -/
theorem State.UplinkLaw.load (h : s.UplinkLaw) (on : s.Transmits) {b : Fin 2} (empty : s.ulc.buffers.get b = none) {c : Contents}
    (contents : Block.Law ⟨s.ulc.nextBlock, c, false, 0, none⟩)
    (apart : ∀ q ∈ Block.seqs ⟨s.ulc.nextBlock, c, false, 0, none⟩, q ∉ heldSeqs (s.ulc.buffers.get (otherBuffer b))) :
    (s.load b c).UplinkLaw := by
  have set := h.law.setBlock (verdict := s.ulc.verdict) on contents apart fun waits =>
    Or.inr ⟨waits, fun j e => by rw [empty] at e; cases e⟩
  exact (uplinkLaw_iff _).2 (Ulc.Law.produce (u := { s.ulc with
    buffers := s.ulc.buffers.set b (some ⟨s.ulc.nextBlock, c, false, 0, none⟩), nextBlock := nextNumber s.ulc.nextBlock })
    { set with next := nextNumber_bounds h.law.next } _)

theorem State.UplinkLaw.fillBuffer (h : s.UplinkLaw) (on : s.Transmits) (b : Fin 2) : (s.fillBuffer b).UplinkLaw := by
  unfold State.fillBuffer
  split
  · next free =>
    obtain ⟨empty, some⟩ := free
    refine h.load on (Option.isNone_iff_eq_none.1 empty) ⟨h.law.next, Nat.zero_le _, fun e => absurd e Bool.false_ne_true,
      List.length_pos_iff.2 some, ?_, rfl⟩ fun q hq => ?_
    · rw [State.drawn, List.length_map]
      exact List.length_take_le _ _
    · obtain ⟨r, hr, rfl⟩ := List.mem_map.1 (show q ∈ s.drawn b from hq)
      have drawn := (List.mem_filter.1 (List.mem_of_mem_take hr)).2
      exact (by simpa using drawn : _ ∧ _).2
  · exact h

theorem State.UplinkLaw.fillSummary (h : s.UplinkLaw) (on : s.Transmits) : s.fillSummary.UplinkLaw := by
  unfold State.fillSummary
  split
  · next free =>
    exact h.load on (Option.isNone_iff_eq_none.1 free.1)
      ⟨h.law.next, Nat.zero_le _, fun e => absurd e Bool.false_ne_true, trivial⟩ fun q hq => by cases hq
  · exact h

theorem up_load (s : State) (b : Fin 2) (c : Contents) : (s.load b c).ulc.up = s.ulc.up := by
  unfold State.load State.produce Ulc.produce
  dsimp only
  rw [(Ulc.pump_same _).1]

theorem transmits_fillBuffer (on : s.Transmits) (b : Fin 2) : (s.fillBuffer b).Transmits := by
  unfold State.fillBuffer
  split
  · exact ⟨on.1, (up_load s b _).trans on.2⟩
  · exact on

theorem State.UplinkLaw.fill (h : s.UplinkLaw) : s.fill.UplinkLaw := by
  unfold State.fill
  split
  · next on =>
    have first := transmits_fillBuffer on 0
    exact ((h.fillBuffer on 0).fillBuffer first 1).fillSummary (transmits_fillBuffer first 1)
  · exact h

theorem State.UplinkLaw.startTransmission (h : s.ulc.Law s.day.state) : s.startTransmission.UplinkLaw :=
  State.UplinkLaw.fill ((uplinkLaw_iff _).2 { Ulc.law_clear_self h s.day.state with next := ⟨Nat.le_refl _, (by decide : 1 ≤ Config.maxBlock)⟩ })

theorem State.UplinkLaw.linkUp (h : s.UplinkLaw) : s.linkUp.UplinkLaw := by
  unfold State.linkUp
  split
  · exact h
  · next down =>
    have law := h.law
    have away : (∀ b, s.ulc.buffers.get b = none) ∧ s.ulc.verdict = none := law.quiet fun on => down on.2
    have up : State.UplinkLaw { s with ulc := { s.ulc with up := true } } := .setUlc { law with quiet := fun _ => away }
    exact (up.notify _ _).fill

theorem State.UplinkLaw.linkDown (h : s.UplinkLaw) : s.linkDown.UplinkLaw := by
  unfold State.linkDown
  split
  · have down : State.UplinkLaw { s with ulc := { s.ulc.clear with up := false } } := .setUlc (Ulc.law_clear h.law _ false)
    exact down.notify _ _
  · exact h

/-- What the law does not speak of: the ping reference and the ping round. -/
theorem State.UplinkLaw.setRound (h : s.UplinkLaw) (since : Nat) (r : Option Round) :
    State.UplinkLaw { s with ulc := { s.ulc with sinceRef := since, round := r } } :=
  (uplinkLaw_iff _).2 (h.law.of_same rfl rfl rfl rfl h.law.purposes)

theorem State.UplinkLaw.heard (h : s.UplinkLaw) : s.heard.UplinkLaw := (h.setRound 0 none).linkUp

theorem State.UplinkLaw.beginRound (h : s.UplinkLaw) : s.beginRound.UplinkLaw := (h.setRound s.ulc.sinceRef _).produce _

theorem State.UplinkLaw.judgeRound (h : s.UplinkLaw) : s.judgeRound.UplinkLaw := by
  unfold State.judgeRound
  split
  · exact h.beginRound
  · exact h

theorem State.UplinkLaw.pingRound (h : s.UplinkLaw) : s.pingRound.UplinkLaw := by
  unfold State.pingRound
  split
  · exact (h.setRound _ s.ulc.round).beginRound
  · exact h

theorem State.UplinkLaw.pingWaitEnd (h : s.UplinkLaw) : s.pingWaitEnd.UplinkLaw := by
  unfold State.pingWaitEnd
  split
  · split
    · exact h
    · split
      · exact (h.setRound s.ulc.sinceRef _).produce _
      · exact (h.setRound 0 none).linkDown
  · exact h

/-! ### Retry decisions (10 R187 to R194) -/

/-- A buffer that holds a block belongs to a transmission. -/
theorem State.UplinkLaw.transmits (h : s.UplinkLaw) {b : Fin 2} {k : Block} (at_ : s.ulc.buffers.get b = some k) : s.Transmits := by
  by_contra away
  rw [(h.law.quiet away).1 b] at at_
  cases at_

/-- A retry decision for a block that is not HELD, or after the verdict wait. -/
theorem State.UplinkLaw.retry (h : s.UplinkLaw) {b : Fin 2} {k : Block} (at_ : s.ulc.buffers.get b = some k)
    (held : k.held = false ∨ s.ulc.verdict = none) : (s.retry b k).UplinkLaw := by
  unfold State.retry
  split
  · obtain ⟨number, -, answer, contents⟩ := h.law.blocks b k at_
    have law : Block.Law { k with retries := holdAt Config.retryHold (k.retries + 1), held := false, answer := none } := by
      refine ⟨number, holdAt_le _ _, fun _ => rfl, ?_⟩
      cases hc : k.contents with
      | records q =>
        rw [hc] at contents
        exact ⟨contents.1, contents.2.1, rfl⟩
      | summary m => trivial
    have apart : ∀ q ∈ Block.seqs { k with retries := holdAt Config.retryHold (k.retries + 1), held := false, answer := none },
        q ∉ heldSeqs (s.ulc.buffers.get (otherBuffer b)) := fun q hq => h.law.apart b q (by rw [at_]; exact hq)
    refine State.UplinkLaw.produce ((uplinkLaw_iff _).2 (h.law.setBlock (verdict := s.ulc.verdict) (h.transmits at_) law apart ?_)) _
    intro waits
    refine Or.inr ⟨waits, fun j e => ?_⟩
    rw [at_] at e
    cases e
    exact held.resolve_right waits
  · exact h.linkDown

theorem State.UplinkLaw.unanswered (h : s.UplinkLaw) (b : Fin 2) : (s.unanswered b).UplinkLaw := by
  unfold State.unanswered
  split
  · next k at_ =>
    split
    · next open_ => exact h.retry at_ (Or.inl open_.1)
    · exact h
  · exact h

theorem State.UplinkLaw.verdictWaitEnd (h : s.UplinkLaw) : s.verdictWaitEnd.UplinkLaw := by
  have ended : State.UplinkLaw { s with ulc := { s.ulc with verdict := none } } := (uplinkLaw_iff _).2 h.law.setVerdict_none
  unfold State.verdictWaitEnd
  split
  · dsimp only
    split
    · next b k found => exact ended.retry (Ulc.heldBlock_spec found).1 (Or.inr rfl)
    · exact ended
  · exact h

/-! ### Frames sent (10 R187) -/

/-- The answer time of an outstanding block starts. -/
theorem Ulc.Law.startAnswer {st : DayState} {u : Ulc} (h : u.Law st) {b : Fin 2} {k : Block} (at_ : u.buffers.get b = some k)
    (held : k.held = false) (t : Nat) : Ulc.Law st { u with buffers := u.buffers.set b (some { k with answer := some t }) } := by
  have on : st = .sending ∧ u.up = true := by
    by_contra away
    rw [(h.quiet away).1 b] at at_
    cases at_
  obtain ⟨number, retries, -, contents⟩ := h.blocks b k at_
  have law : Block.Law { k with answer := some t } :=
    ⟨number, retries, fun e => absurd (held.symm.trans e) Bool.false_ne_true, contents⟩
  refine h.setBlock (verdict := u.verdict) on law
    (fun q hq => h.apart b q (by rw [at_]; exact hq)) fun waits => Or.inr ⟨waits, fun j e => ?_⟩
  rw [at_] at e
  cases e
  exact held

theorem Ulc.Law.startTimer {st : DayState} {u : Ulc} (h : u.Law st) (f : UpFrame) : (u.startTimer f).Law st := by
  have answer (b : Fin 2) (number : Nat) : Ulc.Law st (match u.buffers.get b with
      | some k =>
        if k.number = number ∧ k.held = false ∧ u.waits (2 + b.val) = false then
          { u with buffers := u.buffers.set b (some { k with answer := some Config.answerTime }) }
        else u
      | none => u) := by
    split
    · next k at_ =>
      split
      · next open_ => exact h.startAnswer at_ open_.2.1 _
      · exact h
    · exact h
  unfold Ulc.startTimer
  cases f with
  | ping _ _ =>
    dsimp only
    split
    · split
      · exact h
      · exact h.of_same rfl rfl rfl rfl h.purposes
    · exact h
  | dayOpenReply _ _ _ => exact h
  | block b number _ => exact answer b number
  | summary b number _ => exact answer b number

theorem State.UplinkLaw.frameSent (h : s.UplinkLaw) : s.frameSent.UplinkLaw := by
  unfold State.frameSent
  split
  · next f _ =>
    have sent : Ulc.Law s.day.state { s.ulc with sending := none } := h.law.of_same rfl rfl rfl rfl h.law.purposes
    exact .setUlc (sent.startTimer f).pump
  · exact h

/-! ### What falls due (02 R26) -/

theorem State.UplinkLaw.dueAnswer (h : s.UplinkLaw) (b : Fin 2) : (s.dueAnswer b).UplinkLaw := by
  unfold State.dueAnswer
  split
  · split
    · exact h.unanswered b
    · exact h
  · exact h

theorem State.UplinkLaw.dueUplink (h : s.UplinkLaw) : ((s.dueAnswer 0).dueAnswer 1).dueVerdict.duePing.UplinkLaw := by
  have answered := (h.dueAnswer 0).dueAnswer 1
  have judged : ((s.dueAnswer 0).dueAnswer 1).dueVerdict.UplinkLaw := by
    unfold State.dueVerdict
    split
    · exact answered.verdictWaitEnd
    · exact answered
  unfold State.duePing
  split
  · split
    · exact judged.pingWaitEnd
    · exact judged
  · exact judged.judgeRound

theorem uplinkHappening_uplinkLaw {f : State → State} (h : UplinkHappening f) (law : s.UplinkLaw) : (f s).UplinkLaw := by
  cases h with
  | answerTimeEnd b => exact law.unanswered b
  | verdictWaitEnd => exact law.verdictWaitEnd
  | frameSent => exact law.frameSent
  | pingRound => exact law.pingRound
  | pingWaitEnd => exact law.pingWaitEnd

/-! ### Head office's answers (10 R188, R189) -/

/-- An outstanding block is in its buffer, and is not HELD. -/
theorem Ulc.outstanding_spec {u : Ulc} {number : Nat} {b : Fin 2} {k : Block} (h : u.outstanding number = some (b, k)) :
    u.buffers.get b = some k ∧ k.held = false := by
  have holds {c : Fin 2} (e : (match u.buffers.get c with
      | some k => if k.number = number ∧ k.held = false then some (c, k) else none
      | none => none) = some (b, k)) : u.buffers.get b = some k ∧ k.held = false := by
    split at e
    · next j at_ =>
      split at e
      · next is =>
        cases e
        exact ⟨at_, is.2⟩
      · cases e
    · cases e
  unfold Ulc.outstanding at h
  dsimp only at h
  split at h
  · next x found =>
    cases h
    exact holds found
  · exact holds h

theorem State.UplinkLaw.blockNak (h : s.UplinkLaw) (number : Nat) : (s.blockNak number).UplinkLaw := by
  unfold State.blockNak
  split
  · exact h
  · next b k found =>
    obtain ⟨at_, held⟩ := Ulc.outstanding_spec found
    exact h.retry at_ (Or.inl held)

/-- The SUMMARY acknowledged is HELD. -/
theorem Ulc.Law.hold {st : DayState} {u : Ulc} (h : u.Law st) {b : Fin 2} {k : Block} (at_ : u.buffers.get b = some k) {m : Summary}
    (contents : k.contents = .summary m) (wait : Nat) :
    Ulc.Law st { u with buffers := u.buffers.set b (some { k with held := true, answer := none }), verdict := some wait } := by
  have on : st = .sending ∧ u.up = true := by
    by_contra away
    rw [(h.quiet away).1 b] at at_
    cases at_
  obtain ⟨number, retries, -, -⟩ := h.blocks b k at_
  have law : Block.Law { k with held := true, answer := none } := ⟨number, retries, fun _ => rfl, by simp only [contents]⟩
  exact h.setBlock on law (fun q hq => h.apart b q (by rw [at_]; exact hq)) fun _ => Or.inl rfl

end

end Sys2Proof.Machine
end

section
/-! PROOF. The books and the rest of a sound state through a forced sign-off, the watches of a position, and balancing
(03 R47 to R56, 06). -/

namespace Sys2Proof.Machine

/-! ### The core in two parts -/

/-- What stands beside the books: the configuration, the lamps, the printers and the uplink. -/
structure State.Beside (s : State) : Prop where
  settings : s.settings.InRange
  lamp : s.LampLaw
  printer : s.PrinterLaw
  uplink : s.UplinkLaw

section
variable {s t : State} {n : Fin 8}

theorem State.Core.beside (h : s.Core) : s.Beside := ⟨h.settings, h.lamp, h.printer, h.uplink⟩

theorem State.Beside.core (h : s.Beside) (books : s.Books) : s.Core := ⟨h.settings, books, h.lamp, h.printer, h.uplink⟩

theorem State.Beside.of_work {touched : Fin 8 → Prop} (h : s.Beside) (w : s.WorkTo touched t) : t.Beside where
  settings := by rw [w.settings]; exact h.settings
  lamp alive m := by
    rw [w.layers m, w.day]
    exact h.lamp (by rwa [State.alive_of_supply w.supply] at alive) m
  printer := h.printer.of_pbu (by rw [w.pbu]) (by rw [w.pbu])
  uplink := h.uplink.of_same (by rw [w.day]) w.ulc

theorem State.Beside.of_print (h : s.Beside) (w : s.PrintTo t) (printer : t.PrinterLaw) : t.Beside where
  settings := by rw [w.settings]; exact h.settings
  lamp := lampLaw_of_same w.supply w.day w.windows h.lamp
  printer := printer
  uplink := h.uplink.of_same (by rw [w.day]) w.ulc

/-- One position's laws after work of the print unit. -/
theorem State.PosLawAt.of_print {p : Position} (h : s.PosLawAt n p) (w : s.PrintTo t) : t.PosLawAt n p where
  outside := by rw [w.day]; exact h.outside
  own := by rw [w.marks.next]; exact h.own
  amount := by unfold State.window; rw [w.windows]; exact h.amount
  bright := by unfold State.window; rw [w.windows]; exact h.bright
  empty := by unfold State.drawer; rw [w.cash]; exact h.empty
  held := by rw [w.dct]; exact h.held
  context := by unfold State.context; rw [w.bal, w.cash]; exact h.context
  profile := by unfold State.profile; rw [w.bal, w.cash]; exact h.profile

theorem State.BranchLaw.of_print (h : s.BranchLaw) (w : s.PrintTo t) : t.BranchLaw where
  parameters := by rw [w.day]; exact h.parameters
  outside := by rw [w.day, w.dct]; exact h.outside
  tellers := by unfold State.pos; rw [w.positions]; exact h.tellers
  cash := by rw [w.cash]; exact h.cash
  table := by rw [w.dct, w.cash]; exact h.table
  journal := by rw [w.day]; exact h.journal.of_marks w.marks

theorem State.PrintTo.pos (w : s.PrintTo t) (m : Fin 8) : t.pos m = s.pos m := by
  unfold State.pos
  rw [w.positions]

/-! ### Forced sign-off (03 R47) -/

theorem pos_forcedOut (s : State) (n m : Fin 8) : (s.forcedOut n).pos m = (s.endOpenTxn n).pos m := by
  show ((s.endOpenTxn n).removeEntries n true).pos m = _
  rw [(frame_removeEntries (s.endOpenTxn n) n true).1]
  rfl

theorem cash_forcedOut (s : State) (n : Fin 8) : (s.forcedOut n).cash = s.cash := by
  show ((s.endOpenTxn n).removeEntries n true).cash = _
  rw [(frame_removeEntries (s.endOpenTxn n) n true).1]
  unfold State.endOpenTxn
  split <;> rfl

theorem canPutAway_of_cash (h : t.cash = s.cash) (n : Fin 8) : t.canPutAway n = s.canPutAway n := by
  unfold State.canPutAway State.vaultAfterPutAway State.drawer
  rw [h]

/-- A position put out: its laws where its transaction has ended and its entries have left the table. -/
theorem State.PosLawAt.putOut {p q : Position} (h : s.PosLawAt n p) (quiet : p.state.inTxn = false)
    (pos : s.pos n = q) (start : q.txnStart = none) (running : q.running = false) (range : q.InRange) (before : CashRecord) :
    (((s.putAway n).signOffRecords n before).close n).PosLaw n := by
  have put := State.PosLawAt.putAway h
  refine State.PosLawAt.leave ?_ before
  have same : (s.putAway n).pos n = q := by
    rw [← pos]
    exact congrArg (fun v : Vec 8 Position => v.get n) (positions_putAway s n)
  rw [same]
  exact put.closedOut start running range (put.amount_none quiet) (putAway_empty s n) (put.no_override quiet)

/-- A position put out, of whatever was done of it before: its books closed, its print job cancelled. -/
theorem State.Core.putOut {u : State} {p : Position} (h : s.Core) (opened : (s.pos n).state ≠ .closed) (out : s.WorkTo (· = n) t)
    (branch : t.BranchLaw) (at_ : t.PosLawAt n p) (quiet : p.state.inTxn = false) (cancelled : t.PrintTo u) (printer : u.PrinterLaw)
    (can : u.canPutAway n = true) (start : (t.pos n).txnStart = none) (running : (t.pos n).running = false)
    (range : (t.pos n).InRange) (before : CashRecord) : (((u.putAway n).signOffRecords n before).close n).Core := by
  have put := workTo_putAway (touched := (· = n)) (n := n) u rfl
  have left := put.trans (workTo_leave (n := n) (u.putAway n) before rfl)
  have working : (u.putAway n).day.state.working := by
    rw [put.day, cancelled.day, out.day]
    exact h.books.working opened
  refine (((h.beside.of_work out).of_print cancelled printer).of_work left).core
    ⟨((branch.of_print cancelled).putAway can).leave working _, fun m => ?_⟩
  by_cases e : m = n
  · subst e
    exact (at_.of_print cancelled).putOut quiet (cancelled.pos m) start running range before
  · have done : t.PosLaw m := (h.books.pos m).of_work out e
    have during : u.PosLaw m := by
      unfold State.PosLaw
      rw [cancelled.pos]
      exact State.PosLawAt.of_print done cancelled
    exact during.of_work left e

theorem State.Core.forceSignOff (h : s.Core) (opened : (s.pos n).state ≠ .closed) (can : s.canPutAway n = true) :
    (s.forceSignOff n).Core := by
  have out := workTo_forcedOut (touched := (· = n)) s (n := n) rfl h.books.branch.idTouches_names
  obtain ⟨-, at_⟩ := h.books.forcedOut_at opened
  have cancelled := printTo_cancelJob (s.forcedOut n) n
  obtain ⟨start, running, range⟩ := pos_endOpenTxn (h.books.pos n).own
  rw [← pos_forcedOut s n n] at start running range
  rw [forceSignOff_eq]
  refine h.putOut opened out h.books.branch.forcedOut at_ rfl cancelled ((h.beside.of_work out).printer.cancelJob n) ?_ start
    running range _
  rw [canPutAway_of_cash (cancelled.cash.trans (cash_forcedOut s n))]
  exact can

/-! ### The watches of a position (03 R48 to R56) -/

theorem State.Books.forcedOpening (h : s.Books) (n : Fin 8) : (s.forcedOpening n).Books := by
  have forced : (s.onPos n fun p => { p with forced := true }).Books :=
    h.onPosWatch (workTo_onPos s _ rfl fun l => l) (fun _ => ⟨rfl, rfl, rfl, rfl⟩) (fun w => w) fun range => range
  have marked := forced.notify .drawerForced .sl
  unfold State.forcedOpening
  dsimp only
  split
  · next working => exact marked.appendSystem (Record.fresh_plain _ _ _ rfl) working rfl
  · exact marked

theorem State.Books.opening (h : s.Books) (settings : s.settings.InRange) (n : Fin 8) : (s.opening n).Books := by
  have opened : (s.onPos n (Position.open s.settings.openLimit)).Books := by
    refine h.onPosWatch (workTo_onPos s _ rfl fun _ w => absurd rfl w) (fun _ => ⟨rfl, rfl, rfl, rfl⟩) (fun _ w hw => by cases hw) ?_
    rintro ⟨teller, -, -, stopwatch, service, silence⟩
    obtain ⟨-, -, limit, -⟩ := settings
    exact ⟨teller, Nat.zero_le _, limit, stopwatch, service, silence⟩
  unfold State.opening
  split
  · dsimp only
    split
    · exact opened.forcedOpening n
    · exact opened
  · exact h

theorem State.Books.shutting (h : s.Books) (n : Fin 8) : (s.shutting n).Books := by
  unfold State.shutting
  split
  · exact h.onPosWatch (workTo_onPos s _ rfl fun _ w => absurd rfl w) (fun _ => ⟨rfl, rfl, rfl, rfl⟩) (fun _ w hw => by cases hw)
      fun range => range
  · exact h

theorem State.Books.windowEnd (h : s.Books) (n : Fin 8) : (s.windowEnd n).Books := by
  unfold State.windowEnd
  split
  · exact h.onPosWatch (workTo_onPos s _ rfl fun _ => Position.lockLaw_secure _) (fun _ => ⟨rfl, rfl, rfl, rfl⟩)
      (fun _ w hw => by cases hw) fun range => range
  · exact h

theorem State.Books.drawerLong (h : s.Books) (n : Fin 8) : (s.drawerLong n).Books := by
  unfold State.drawerLong
  split
  · suffices raised : (s.onPos n fun p => { p with longRaised := true, openTime := max p.openTime (p.openLimit * 100) }).Books from
      (raised.notify _ _).notify _ _
    refine h.onPosWatch (workTo_onPos s _ rfl fun l => l) (fun _ => ⟨rfl, rfl, rfl, rfl⟩) (fun w => w) ?_
    rintro ⟨teller, openTime, limit, stopwatch, service, silence⟩
    refine ⟨teller, Nat.max_le.2 ⟨openTime, ?_⟩, limit, stopwatch, service, silence⟩
    simp only [Config.maxStopwatch]
    omega
  · exact h

theorem State.Books.serviceLong (h : s.Books) (n : Fin 8) : (s.serviceLong n).Books := by
  unfold State.serviceLong
  split
  · suffices raised : (s.onPos n fun p => { p with serviceRaised := true, stopwatch := max p.stopwatch (p.serviceLimit * 100) }).Books from
      raised.notify _ _
    refine h.onPosWatch (workTo_onPos s _ rfl fun l => l) (fun _ => ⟨rfl, rfl, rfl, rfl⟩) (fun w => w) ?_
    rintro ⟨teller, openTime, limit, stopwatch, service, silence⟩
    refine ⟨teller, openTime, limit, Nat.max_le.2 ⟨stopwatch, ?_⟩, service, silence⟩
    simp only [Config.maxStopwatch]
    omega
  · exact h

theorem State.Books.idleReached (h : s.Books) (settings : s.settings.InRange) (n : Fin 8) : (s.idleReached n).Books := by
  unfold State.idleReached
  split
  · refine h.onPosWatch (workTo_onPos s _ rfl fun l => l) (fun _ => ⟨rfl, rfl, rfl, rfl⟩) (fun w => w) ?_
    rintro ⟨teller, openTime, limit, stopwatch, service, silence⟩
    obtain ⟨⟨-, blank⟩, -⟩ := settings
    refine ⟨teller, openTime, limit, stopwatch, service, Nat.max_le.2 ⟨silence, ?_⟩⟩
    simp only [Config.maxSilence]
    omega
  · exact h

theorem State.Books.sense (h : s.Books) (n : Fin 8) (level : Sensor) : (s.onPos n (Position.sense level)).Books :=
  h.onPosWatch (workTo_sense s level rfl) (fun _ => ⟨rfl, rfl, rfl, rfl⟩) (fun w => w) fun range => range

/-! ### Balancing (06 R101 to R106) -/

theorem State.Books.beginBalance (h : s.Books) (ready : (s.pos n).state = .ready) : (s.beginBalance n).Books := by
  have emptied : (s.onContext n fun _ => Context.empty).Books :=
    h.onContext (.plain (Nat.zero_le _) (by rw [ready]; rfl))
  have state : ((s.onContext n fun _ => Context.empty).pos n).state = .ready := ready
  refine State.Books.release (emptied.turn (by rw [state]; exact PosState.noConfusion) (by rw [state]; rfl) rfl PosState.noConfusion ?_) n
  rw [State.context_onContext_self]
  exact ⟨Nat.zero_le _, fun _ => rfl, fun e => PosState.noConfusion e, fun e => PosState.noConfusion e⟩

/-- Of lines that name no slot twice, those of one slot hold at most one count. -/
theorem sum_counts_le {bound : Nat} {lines : List CountLine} (distinct : countsDistinct lines = true)
    (most : ∀ l ∈ lines, l.count ≤ bound) (slot : Nat) :
    ((lines.filter fun l => l.slot == slot).map CountLine.count).sum ≤ bound := by
  induction lines with
  | nil => exact Nat.zero_le _
  | cons a l ih =>
    obtain ⟨others, distinct⟩ := Bool.and_eq_true_iff.1 distinct
    by_cases named : a.slot = slot
    · have alone : l.filter (fun b => b.slot == slot) = [] := List.filter_eq_nil_iff.2 fun b hb hslot => by
        have := List.all_eq_true.1 others b hb
        simp_all
      rw [List.filter_cons, if_pos (by simpa using named), alone]
      simpa using most a (List.mem_cons_self ..)
    · rw [List.filter_cons, if_neg (by simpa using named)]
      exact ih distinct fun b hb => most b (List.mem_cons_of_mem _ hb)

/-- Declared counts lie within the bound, and an absent slot holds none (06 R102, R110). -/
theorem Cash.countsSound_spec {c : Cash} {bound : Nat} {lines : List CountLine} (h : c.countsSound bound lines = true) :
    (∀ i, (declaredCounts lines).get i ≤ bound) ∧ ∀ i, c.faces.get i = none → (declaredCounts lines).get i = 0 := by
  obtain ⟨sound, distinct⟩ := Bool.and_eq_true_iff.1 h
  have line : ∀ l ∈ lines, (c.face? l.slot).isSome = true ∧ l.count ≤ bound := fun l hl => by
    simpa using List.all_eq_true.1 sound l hl
  refine ⟨fun i => ?_, fun i absent => ?_⟩
  · rw [declaredCounts, Vec.get_tab]
    exact sum_counts_le distinct (fun l hl => (line l hl).2) i.val
  · have unnamed : lines.filter (fun l => l.slot == i.val) = [] := List.filter_eq_nil_iff.2 fun l hl named => by
      have present := (line l hl).1
      rw [c.face?_of_lt i (by simpa using named), absent] at present
      cases present
    rw [declaredCounts, Vec.get_tab, unnamed]
    rfl

/-- A declaration put down beside a misses' count that stands. -/
theorem Context.Fits.declare {faces : Vec 12 (Option Nat)} {st : PosState} {c : Context} (h : c.Fits faces st) {counts : Vec 12 Nat}
    (admitted : Admitted faces counts) (d : Int) :
    Context.Fits faces st { c with declaration := some counts, difference := some d } :=
  ⟨h.most, h.balancing, h.outOfBalance, fun e => ⟨(h.forceWait e).1, counts, rfl, admitted⟩⟩

theorem State.Books.appendDifference (h : s.Books) (working : s.day.state.working) (d : Int) (place : Place) (teller : Nat) :
    (s.appendDifference d place teller).Books := by
  unfold State.appendDifference
  split
  · exact h
  · refine h.appendSystem ?_ working ?_
    · unfold differenceRecord
      split <;> exact Record.fresh_plain _ _ _ rfl
    · unfold differenceRecord
      split <;> rfl

theorem appendDifference_same (s : State) (d : Int) (place : Place) (teller : Nat) :
    (s.appendDifference d place teller).positions = s.positions ∧ (s.appendDifference d place teller).cash = s.cash ∧
      (s.appendDifference d place teller).bal = s.bal ∧ (s.appendDifference d place teller).dct = s.dct := by
  unfold State.appendDifference
  split
  · exact ⟨rfl, rfl, rfl, rfl⟩
  · simp

/-- The states in which a declaration is awaited or has been put down lie outside a transaction. -/
theorem PosState.of_counts {st : PosState} (h : st.counts = true) : st.inTxn = false ∧ st ≠ .closed := by
  cases st <;> first | exact ⟨rfl, PosState.noConfusion⟩ | cases h

/-- What is left to do of an applied declaration once its difference is recorded (06 R104, steps 5 to 7). -/
def State.balanceDrawer (s : State) (n : Fin 8) (counts : Vec 12 Nat) (d : Int) : State :=
  (((s.onProfile n (Profile.addDifference d)).rearm n).onContext n fun c =>
    { c with declaration := some counts, difference := some d }).movePos n .balanced

/-- The drawer counted and its difference booked (06 R104, steps 1 to 3). -/
def State.countDrawer (s : State) (n : Fin 8) (counts : Vec 12 Nat) (d : Int) : State :=
  { s with cash :=
    ({ s.cash with drawers := s.cash.drawers.set n (CashRecord.make s.cash.faces counts 0) } : Cash).addDifference d }

theorem applyDeclaration_eq (s : State) (n : Fin 8) (counts : Vec 12 Nat) (d : Int) :
    s.applyDeclaration n counts d =
      ((s.countDrawer n counts d).appendDifference d (.position n) (s.pos n).tellerNum).balanceDrawer n counts d := rfl

theorem pos_rearm (s : State) (n m : Fin 8) : (s.rearm n).pos m = s.pos m := by
  unfold State.pos
  rw [positions_rearm]

theorem faces_rearm (s : State) (n : Fin 8) : (s.rearm n).cash.faces = s.cash.faces :=
  (workTo_rearm (touched := fun _ => True) s (n := n) trivial).faces

theorem State.Books.balanceDrawer (h : s.Books) {counts : Vec 12 Nat} (admitted : Admitted s.cash.faces counts)
    (state : (s.pos n).state.counts = true) {d : Int} (law : ((s.profile n).addDifference d).Law s.cash) :
    (s.balanceDrawer n counts d).Books := by
  obtain ⟨txn, opened⟩ := PosState.of_counts state
  have rearmed := (h.onProfile law).rearm n
  have pos : ((s.onProfile n (Profile.addDifference d)).rearm n).pos n = s.pos n := pos_rearm _ n n
  have faces : ((s.onProfile n (Profile.addDifference d)).rearm n).cash.faces = s.cash.faces := faces_rearm _ n
  unfold State.balanceDrawer
  generalize (s.onProfile n (Profile.addDifference d)).rearm n = r at rearmed pos faces ⊢
  have declared := rearmed.onContext (n := n) (f := fun c => { c with declaration := some counts, difference := some d })
    (Context.Fits.declare (rearmed.pos n).context (by rw [faces]; exact admitted) d)
  have same : (r.onContext n fun c => { c with declaration := some counts, difference := some d }).pos n = s.pos n := pos
  exact declared.turn (by rw [same]; exact opened) (by rw [same]; exact txn) rfl PosState.noConfusion
    (.plain (declared.pos n).context.most rfl)

theorem State.Books.applyDeclaration (h : s.Books) {counts : Vec 12 Nat} (admitted : Admitted s.cash.faces counts)
    (state : (s.pos n).state.counts = true) {d : Int} (hd : d = worth s.cash.faces counts - (s.drawer n).total)
    (takes : s.cash.takesDifference d = true) : (s.applyDeclaration n counts d).Books := by
  obtain ⟨-, opened⟩ := PosState.of_counts state
  have counted : (s.countDrawer n counts d).Books := h.countDrawer admitted opened hd takes
  have written := counted.appendDifference (h.working opened) d (.position n) (s.pos n).tellerNum
  obtain ⟨positions, cash, bal, -⟩ := appendDifference_same (s.countDrawer n counts d) d (.position n) (s.pos n).tellerNum
  rw [applyDeclaration_eq]
  generalize (s.countDrawer n counts d).appendDifference d (.position n) (s.pos n).tellerNum = w at written positions cash bal ⊢
  refine written.balanceDrawer (by rw [cash]; exact admitted) ?_ ?_
  · unfold State.pos
    rw [positions]
    exact state
  · unfold State.profile
    rw [bal, cash]
    exact Profile.Law.addDifference (c := { s.cash with
      drawers := s.cash.drawers.set n (CashRecord.make s.cash.faces counts 0) }) (h.pos n).profile d

/-- A position that goes from one state of a count to another, with the misses counted that the new one says. -/
theorem State.Books.recount (h : s.Books) {st : PosState} {f : Context → Context} (before : (s.pos n).state.counts = true)
    (after : st.counts = true) (fits : (f (s.context n)).Fits s.cash.faces st) : ((s.onContext n f).movePos n st).Books := by
  obtain ⟨txn, opened⟩ := PosState.of_counts before
  obtain ⟨quiet, stays⟩ := PosState.of_counts after
  obtain ⟨start, running⟩ := (h.pos n).own.outside_txn txn
  have working := h.working opened
  have teller : (s.pos n).teller ≠ none := fun e => opened ((h.pos n).own.teller.1 e)
  have own (st : PosState) (quiet : st.inTxn = false) (stays : st ≠ .closed) : ({ s.pos n with state := st } : Position).Own s.jnl.next :=
    Position.own_quiet ⟨fun e => absurd e teller, fun e => absurd e stays⟩ quiet start running (h.pos n).own.window (h.pos n).own.range
  refine h.setPos ((workTo_onContext (touched := (· = n)) s f rfl).trans (workTo_movePos _ st rfl)) ((sameBooks_onContext s f).trans (sameBooks_movePos _ _)) ?_
  rw [pos_movePos_self]
  have plain := (h.pos n).turn working txn rfl PosState.noConfusion (own .balanced rfl PosState.noConfusion)
    (.plain (h.pos n).context.most rfl)
  have counted := plain.onContext (f := f) (.plain fits.most rfl)
  refine State.PosLawAt.movePos (counted.turn working rfl quiet stays (own st quiet stays) ?_)
  rw [State.context_onContext_self]
  exact fits

theorem State.Books.miss (h : s.Books) {counts : Vec 12 Nat} (admitted : Admitted s.cash.faces counts)
    (state : (s.pos n).state = .balancing ∨ (s.pos n).state = .outOfBalance) (d : Int) : (s.miss n counts d).Books := by
  have context := (h.pos n).context
  have before : (s.pos n).state.counts = true := by rcases state with e | e <;> rw [e] <;> rfl
  have misses : (s.context n).attempts ≤ 2 := by
    rcases state with e | e
    · have := context.balancing e
      omega
    · have := context.outOfBalance e
      omega
  unfold State.miss
  dsimp only
  split
  · next few =>
    have fits : Context.Fits s.cash.faces .outOfBalance
        { s.context n with attempts := (s.context n).attempts + 1, declaration := some counts, difference := some d } :=
      ⟨by dsimp only; omega, fun e => PosState.noConfusion e, fun _ => by dsimp only; omega, fun e => PosState.noConfusion e⟩
    split
    · next same => exact h.onContext (by rw [same]; exact fits)
    · exact h.recount before rfl fits
  · next many =>
    have fits : Context.Fits s.cash.faces .forceWait
        { s.context n with attempts := (s.context n).attempts + 1, declaration := some counts, difference := some d } :=
      ⟨by dsimp only; omega, fun e => PosState.noConfusion e, fun e => PosState.noConfusion e,
        fun _ => ⟨by dsimp only; omega, counts, rfl, admitted⟩⟩
    split
    · next same => rcases state with e | e <;> rw [e] at same <;> cases same
    · exact h.recount before rfl fits

/-- A vault counted, with its records (06 R110, R111). -/
theorem State.Books.vaultCounted (h : s.Books) {counts : Vec 12 Nat} (working : s.day.state.working)
    (most : ∀ i, counts.get i ≤ Config.maxVaultCount) (absent : ∀ i, s.cash.faces.get i = none → counts.get i = 0)
    (total : worth s.cash.faces counts ≤ Config.maxTotal) {d : Int} (hd : d = worth s.cash.faces counts - s.cash.vault.total)
    (takes : s.cash.takesDifference d = true) : ((s.countVault counts d).appendDifference d .vault 0).Books := by
  have counted : (s.countVault counts d).Books :=
    (h.countVault most absent total hd takes).appendSystem (Record.fresh_plain (kind := .vaultCount) .vault 0 _ rfl) working rfl
  refine counted.appendDifference ?_ d .vault 0
  rw [(workTo_countVault (touched := fun _ => True) s counts d).day]
  exact working

end

end Sys2Proof.Machine
end

section
/-! PROOF. The day (02), head office's messages (10) and the configuration keep the core of a sound state. -/

namespace Sys2Proof.Machine

section
variable {s t : State}

/-- A core whose parts stand, with what it does not speak of changed. -/
theorem State.Core.of_same (h : s.Core) (alive : t.alive = true → s.alive = true) (settings : t.settings = s.settings)
    (day : t.day = s.day) (positions : t.positions = s.positions) (cash : t.cash = s.cash) (dct : t.dct = s.dct) (bal : t.bal = s.bal)
    (jnl : t.jnl = s.jnl) (windows : t.windows = s.windows) (pbu : t.pbu = s.pbu) (ulc : t.ulc = s.ulc) : t.Core where
  settings := by rw [settings]; exact h.settings
  books := h.books.of_marks day positions cash dct bal windows (by rw [jnl]; exact .refl _)
  lamp on m := by
    unfold State.window
    rw [windows, day]
    exact h.lamp (alive on) m
  printer := h.printer.of_pbu (by rw [pbu]) (by rw [pbu])
  uplink := h.uplink.of_same (by rw [day]) ulc

theorem State.Core.notifyDayChanged (h : s.Core) : s.notifyDayChanged.Core :=
  h.of_same id rfl rfl rfl rfl rfl rfl rfl rfl rfl rfl

/-! ### A day that changes (02 R16 to R23) -/

/-- Every position is CLOSED and the dual-control table is empty. -/
def State.Closed (s : State) : Prop := (∀ n, (s.pos n).state = .closed) ∧ s.dct.entries = []

theorem State.Books.closed (h : s.Books) (away : ¬s.day.state.working) : s.Closed :=
  ⟨fun n => (h.pos n).outside (not_or.1 away).1 (not_or.1 away).2, h.entries_outside away⟩

/-- A position CLOSED has no transaction start. -/
theorem State.Books.start_none (h : s.Books) (closed : s.Closed) (n : Fin 8) : (s.pos n).txnStart = none :=
  ((h.pos n).own.outside_txn (by rw [closed.1 n]; rfl)).1

theorem Position.Own.renumber {p : Position} {next next' : Nat} (h : p.Own next) (le : p.txnStart ≠ none → next ≤ next') :
    p.Own next' :=
  { h with reached := fun q hq =>
      ⟨(h.reached q hq).1, Nat.le_trans (h.reached q hq).2 (le fun e => by rw [hq] at e; cases e)⟩ }

/-- The day, the journal and the uplink replaced by ones that are lawful together. -/
theorem State.Core.setDay (h : s.Core) {d : Day} {j : Journal} {u : Ulc} (parameters : d.ParametersInRange)
    (phase : d.phase = s.day.phase) (closed : d.state.working ∨ s.Closed)
    (reached : s.jnl.next ≤ j.next ∨ s.Closed) (journal : j.Law d.state) (uplink : u.Law d.state) :
    State.Core { s with day := d, jnl := j, ulc := u } where
  settings := h.settings
  books := {
    branch := {
      parameters := parameters
      outside := fun a b => (closed.resolve_left (not_or.2 ⟨a, b⟩)).2
      tellers := h.books.branch.tellers
      cash := h.books.branch.cash
      table := h.books.branch.table
      journal := journal }
    pos := fun n =>
      have law := h.books.pos n
      { outside := fun a b => (closed.resolve_left (not_or.2 ⟨a, b⟩)).1 n
        own := law.own.renumber fun start =>
          reached.resolve_right fun closed => start (h.books.start_none closed n)
        amount := law.amount
        bright := law.bright
        empty := law.empty
        held := law.held
        context := law.context
        profile := law.profile } }
  lamp on m := by
    show (s.window m).lamp = (s.window m).pattern.output d.phase
    rw [phase]
    exact h.lamp on m
  printer := h.printer
  uplink := (uplinkLaw_iff _).2 uplink

/-- The day moved to a state that journal, uplink and positions allow. -/
theorem State.Core.moveDay (h : s.Core) {d : DayState} (closed : d.working ∨ s.Closed) (journal : s.jnl.Law d)
    (uplink : s.ulc.Law d) : (s.moveDay d).Core :=
  (h.setDay (d := { s.day with state := d }) h.books.branch.parameters rfl closed (Or.inl (Nat.le_refl _)) journal
    uplink).notifyDayChanged

/-- A journal in another day state. -/
theorem Journal.Law.of_day {st st' : DayState} {j : Journal} (h : j.Law st) (closed : st' ≠ .closed)
    (unsent : st'.working → ∀ r ∈ j.records, r.sent = false) : j.Law st' :=
  { h with closed := fun e => absurd e closed, unsent := unsent }

/-- Sent marks changed alone (07 R129). -/
theorem Journal.Law.setSent {st : DayState} {j : Journal} (h : j.Law st) (f : Record → Bool)
    (unsent : st.working → ∀ r ∈ j.records, f r = false) : (j.mapRecords fun r => { r with sent := f r }).Law st := by
  have records : (j.mapRecords fun r => { r with sent := f r }).records = j.records.map fun r => { r with sent := f r } := rfl
  have mem {q : Record} (hq : q ∈ (j.mapRecords fun r => { r with sent := f r }).records) :
      ∃ r ∈ j.records, q = { r with sent := f r } := by
    obtain ⟨r, hr, e⟩ := List.mem_map.1 hq
    exact ⟨r, hr, e.symm⟩
  refine ⟨?_, ?_, ?_, ?_, fun e => ?_, fun working q hq => ?_, fun q hq => ?_, h.unjournaled, h.carry⟩
  · rw [records, List.map_map, List.length_map]
    exact h.numbers
  · rw [records, List.length_map]
    exact h.next
  · rw [records, List.length_map]
    exact h.room
  · rw [Journal.customers_eq, records, List.map_map]
    have most := h.customers
    rw [Journal.customers_eq] at most
    exact most
  · rw [records, h.closed e]
    rfl
  · obtain ⟨r, hr, rfl⟩ := mem hq
    exact unsent working r hr
  · obtain ⟨r, hr, rfl⟩ := mem hq
    exact h.records r hr

theorem clearSent_law {st : DayState} {j : Journal} (h : j.Law st) : j.clearSent.Law st := h.setSent (fun _ => false) fun _ _ _ => rfl

theorem clearSent_unsent (j : Journal) : ∀ r ∈ j.clearSent.records, r.sent = false := by
  intro q hq
  obtain ⟨r, -, rfl⟩ := List.mem_map.1 hq
  rfl

theorem markSent_law {st : DayState} {j : Journal} (h : j.Law st) (away : ¬st.working) (seqs : List Nat) : (j.markSent seqs).Law st := by
  have same : j.markSent seqs = j.mapRecords fun r => { r with sent := seqs.contains r.seq || r.sent } := by
    unfold Journal.markSent
    congr 1
    funext r
    cases seqs.contains r.seq <;> rfl
  rw [same]
  exact h.setSent _ fun working => absurd working away

/-- An uplink that sends nothing is lawful in every day state. -/
theorem Ulc.Law.of_idle {st : DayState} {u : Ulc} (h : u.Law st) (away : st ≠ .sending) (st' : DayState) : u.Law st' :=
  { h with quiet := fun _ => h.quiet fun on => away on.1 }

theorem State.Core.of_closed (h : s.Core) (d : DayState) (closed : s.Closed) (journal : s.jnl.Law d) (uplink : s.ulc.Law d) :
    (s.moveDay d).Core := h.moveDay (Or.inr closed) journal uplink

theorem State.Core.cutoff (h : s.Core) (opened : s.day.state = .opened) : (s.moveDay .cutoff).Core :=
  h.moveDay (Or.inl (Or.inr rfl))
    (h.books.branch.journal.of_day (by decide) fun _ => h.books.branch.journal.unsent (Or.inl opened))
    (h.uplink.law.of_idle (by rw [opened]; decide) _)

theorem State.Core.clearRejection (h : s.Core) : s.clearRejection.Core := by
  by_cases working : s.day.state.working
  · exact h.setDay (d := { s.day with rejection := .none }) (u := s.ulc) h.books.branch.parameters rfl (Or.inl working)
      (Or.inl (Nat.le_refl _)) (clearSent_law h.books.branch.journal) h.uplink.law
  · exact h.setDay (d := { s.day with rejection := .none }) (u := s.ulc) h.books.branch.parameters rfl (Or.inr (h.books.closed working))
      (Or.inl (Nat.le_refl _)) (clearSent_law h.books.branch.journal) h.uplink.law

theorem not_working_rejected : ¬DayState.rejected.working := by
  rintro (e | e) <;> cases e
theorem not_working_sending : ¬DayState.sending.working := by
  rintro (e | e) <;> cases e

theorem State.Core.reopenDay (h : s.Core) (state : s.day.state = .cutoff ∨ s.day.state = .rejected) :
    ((if s.day.state = .rejected then s.clearRejection else s).moveDay .opened).Core := by
  split
  · next rejected =>
    have cleared := h.clearRejection
    exact cleared.moveDay (Or.inl (Or.inl rfl))
      (cleared.books.branch.journal.of_day (by decide) fun _ => clearSent_unsent s.jnl)
      (h.uplink.law.of_idle (by rw [rejected]; decide) _)
  · next other =>
    have cutoff := state.resolve_right other
    exact h.moveDay (Or.inl (Or.inl rfl))
      (h.books.branch.journal.of_day (by decide) fun _ => h.books.branch.journal.unsent (Or.inr cutoff))
      (h.uplink.law.of_idle (by rw [cutoff]; decide) _)

/-- A transmission started where nothing is open (02 R21, R23, 10 R185). -/
theorem State.Core.transmit (h : s.Core) (away : s.day.state ≠ .sending) (closed : s.Closed) :
    (s.moveDay .sending).startTransmission.Core := by
  have moved : (s.moveDay .sending).Core := h.of_closed .sending closed
    (h.books.branch.journal.of_day (by decide) fun working => absurd working not_working_sending) (h.uplink.law.of_idle away _)
  exact moved.of_uplink (uplinkTo_startTransmission _) (.startTransmission moved.uplink.law)

theorem State.Core.resend (h : s.Core) (rejected : s.day.state = .rejected) :
    (s.clearRejection.moveDay .sending).startTransmission.Core := by
  have closed : s.clearRejection.Closed := h.clearRejection.books.closed (by
    show ¬s.day.state.working
    rw [rejected]
    exact not_working_rejected)
  refine h.clearRejection.transmit ?_ closed
  show s.day.state ≠ .sending
  rw [rejected]
  decide

/-! ### The verdict (02 R22, 07 R132) -/

theorem acceptDay_carry (j : Journal) (date : Date) : (j.acceptDay date).carry.length ≤ Config.carryRoom := by
  simp only [Journal.acceptDay, Journal.carryDrop, List.length_drop, List.length_append, List.length_map]
  omega

theorem Journal.Law.acceptDay {st st' : DayState} {j : Journal} (h : j.Law st) (date : Date) : (j.acceptDay date).Law st' where
  numbers := rfl
  next := rfl
  room := Nat.zero_le _
  customers := Nat.zero_le _
  closed _ := rfl
  unsent _ _ hr := by cases hr
  records _ hr := by cases hr
  unjournaled := h.unjournaled
  carry := acceptDay_carry j date

/-- A verdict is taken only in SENDING. -/
theorem State.Core.sending_of_verdict (h : s.Core) {m : Summary} (held : s.heldSummary = some m) : s.day.state = .sending := by
  unfold State.heldSummary at held
  split at held
  · next found => exact (h.uplink.transmits (Ulc.heldBlock_spec found).1).1
  · cases held

theorem State.Core.acceptDay (h : s.Core) (sending : s.day.state = .sending) : s.acceptDay.Core := by
  have closed := h.books.closed (by rw [sending]; exact not_working_sending)
  exact (h.setDay (d := { s.day with date := none, state := .closed }) h.books.branch.parameters rfl (Or.inr closed) (Or.inr closed)
    (h.books.branch.journal.acceptDay (s.day.date.getD { day := 0, month := 0, year := 0 }))
    (Ulc.law_clear_self h.uplink.law _)).notifyDayChanged

theorem State.Core.rejectDay (h : s.Core) (sending : s.day.state = .sending) (r : Rejection) : (s.rejectDay r).Core := by
  have closed := h.books.closed (by rw [sending]; exact not_working_sending)
  exact (h.setDay (d := { s.day with rejection := r, state := .rejected }) h.books.branch.parameters rfl (Or.inr closed)
    (Or.inl (Nat.le_refl _)) (h.books.branch.journal.of_day DayState.noConfusion fun working => absurd working not_working_rejected)
    (Ulc.law_clear_self h.uplink.law _)).notifyDayChanged

theorem State.Core.dayAccepted (h : s.Core) (totals : Totals) : (s.dayAccepted totals).Core := by
  unfold State.dayAccepted
  split
  · next held =>
    split
    · exact h.acceptDay (h.sending_of_verdict held)
    · exact h.rejectDay (h.sending_of_verdict held) _
  · exact h

theorem State.Core.dayRejected (h : s.Core) (reason : Nat) : (s.dayRejected reason).Core := by
  unfold State.dayRejected
  split
  · next held =>
    split
    · exact h
    · exact h.rejectDay (h.sending_of_verdict held) _
  · exact h

/-! ### DAY-OPEN (02 R17, R18) -/

theorem openTable_some {f : DayOpenFields} {i : Fin 12} {v : Nat} (h : (openTable f).get i = some v) :
    v = f.faces.get i ∧ v ≠ 0 := by
  rw [openTable, Vec.get_map] at h
  split at h
  · cases h
  · next nonzero =>
    cases h
    exact ⟨rfl, nonzero⟩

/-- Pieces whose slots keep their faces keep their value. -/
theorem worth_congr {faces faces' : Vec 12 (Option Nat)} {counts : Vec 12 Nat}
    (h : ∀ i, counts.get i ≠ 0 → faces'.get i = faces.get i) : worth faces' counts = worth faces counts := by
  rw [worth_eq_sum, worth_eq_sum]
  refine Finset.sum_congr rfl fun i _ => ?_
  by_cases zero : counts.get i = 0
  · simp [zero]
  · rw [h i zero]

/-- A record that holds nothing, over whatever denominations. -/
theorem CashRecord.law_of_isEmpty {faces faces' : Vec 12 (Option Nat)} {bound : Nat} {r : CashRecord} (law : r.Law faces bound)
    (empty : r.isEmpty = true) : r.Law faces' bound := by
  obtain ⟨counts, unitemized⟩ := r.isEmpty_iff.1 empty
  have zero := CashRecord.total_of_isEmpty law empty
  obtain ⟨-, -, most, range, total⟩ := law
  refine ⟨?_, fun i _ => counts i, most, range, total⟩
  rw [zero, worth_of_zero faces' counts, unitemized]
  rfl

/-- The cash unit of a day opened (02 R18). -/
def Cash.openDay (c : Cash) (f : DayOpenFields) : Cash :=
  { c with
    faces := openTable f, opening := c.vault.total.toNat, cashIn := 0, cashOut := 0, dayOver := 0, dayShort := 0 }

theorem Cash.Law.openDay {c : Cash} (h : c.Law) {f : DayOpenFields} (range : ∀ i, f.faces.get i ≤ Config.maxFace)
    (ordered : openOrdered f = true) (keeps : c.vaultKeeps (openTable f) = true)
    (empty : ∀ n, (c.drawers.get n).isEmpty = true) : (c.openDay f).Law := by
  have slots : ∀ i, c.vault.counts.get i ≠ 0 → ((openTable f).get i).isSome = true ∧ (openTable f).get i = c.faces.get i := by
    simpa [Cash.vaultKeeps] using keeps
  obtain ⟨value, -, most, unitemized, total⟩ := h.vault
  have vault : c.vault.Law (openTable f) Config.maxVaultCount := by
    refine ⟨?_, fun i absent => ?_, most, unitemized, total⟩
    · rw [worth_congr fun i held => (slots i held).2]
      exact value
    · by_contra held
      have := (slots i held).1
      rw [absent] at this
      cases this
  refine ⟨ordered, fun i v hv => ?_, fun n => CashRecord.law_of_isEmpty (h.drawers n) (empty n), vault, ?_, ?_⟩
  · obtain ⟨rfl, nonzero⟩ := openTable_some hv
    exact ⟨Nat.one_le_iff_ne_zero.2 nonzero, range i⟩
  · refine ⟨?_, Nat.zero_le _, Nat.zero_le _, Nat.zero_le _, Nat.zero_le _⟩
    simp only [Cash.openDay, Config.maxTotal, Config.maxCounter] at total ⊢
    omega
  · have drawers : ∑ n, ((c.openDay f).drawers.get n).total = 0 :=
      Finset.sum_eq_zero fun n _ => CashRecord.total_of_isEmpty (h.drawers n) (empty n)
    rw [Cash.Conserved, Cash.grandTotal_eq, drawers]
    simp only [Cash.openDay]
    omega

theorem Profile.law_empty (c : Cash) : Profile.empty.Law c :=
  ⟨Nat.zero_le _, Nat.le_refl _, Nat.zero_le _, Nat.zero_le _, Nat.zero_le _, Nat.zero_le _, Nat.zero_le _, Nat.zero_le _,
    Nat.zero_le _, Nat.zero_le _, Nat.zero_le _⟩

theorem Dct.law_of_empty {c : Cash} {d : Dct} (entries : d.entries = []) (cursor : d.cursor ≤ 255) : d.Law c where
  room := by rw [entries]; exact Nat.zero_le _
  distinct := by rw [entries]; exact List.nodup_nil
  entries e he := by rw [entries] at he; cases he
  cursor := cursor

theorem not_working_closed : ¬DayState.closed.working := by
  rintro (e | e) <;> cases e

theorem Journal.law_openDay {j : Journal} (h : j.Law .closed) :
    Journal.Law .opened { j with next := 1, unjournaled := 0, spent := false } := by
  have records := h.closed rfl
  refine ⟨?_, ?_, ?_, ?_, fun e => (by cases e), fun _ r hr => ?_, fun r hr => ?_, Nat.zero_le _, h.carry⟩
  · exact h.numbers
  · rw [records]
    rfl
  · exact h.room
  · exact h.customers
  · rw [records] at hr
    cases hr
  · rw [records] at hr
    cases hr

theorem State.Core.openDay (h : s.Core) {f : DayOpenFields} (accepted : s.judgeDayOpen f = .accepted) : (s.openDay f).Core := by
  obtain ⟨state, inRange, ordered, keeps⟩ := judgeDayOpen_accepted s accepted
  obtain ⟨-, digits, faces, ⟨posting, itemization⟩, drawerLow, drawerHigh, tolerance⟩ := (openInRange_iff f).1 inRange
  obtain ⟨closed, entries⟩ := h.books.closed (by rw [state]; exact not_working_closed)
  have branch := h.books.branch
  have cash : (s.cash.openDay f).Law :=
    branch.cash.openDay faces ordered keeps fun n => ((h.books.pos n).empty (closed n)).1
  refine State.Core.notifyDayChanged ⟨h.settings, ⟨⟨⟨digits, posting, itemization, ⟨drawerLow, drawerHigh⟩, tolerance⟩, ?_, branch.tellers,
    cash, Dct.law_of_empty entries branch.table.cursor, Journal.law_openDay (state ▸ branch.journal)⟩, fun n => ?_⟩, ?_, h.printer, ?_⟩
  · exact fun _ _ => entries
  · obtain ⟨-, own, amount, bright, empty, held, context, -⟩ := h.books.pos n
    have start := h.books.start_none ⟨closed, entries⟩ n
    exact {
      outside := fun _ _ => closed n
      own := own.renumber fun open_ => absurd start open_
      amount := amount
      bright := bright
      empty := empty
      held := held
      context := .plain context.most (by
        show (s.pos n).state.counts = false
        rw [closed n]
        rfl)
      profile := by
        show ((Vec.fill Profile.empty).get n).Law _
        rw [Vec.get_fill]
        exact Profile.law_empty _ }
  · exact h.lamp
  · exact (uplinkLaw_iff _).2 (h.uplink.law.of_idle (by rw [state]; decide) _)

theorem State.Core.produce (h : s.Core) (f : UpFrame) : (s.produce f).Core := h.of_uplink (uplinkTo_produce s f) (h.uplink.produce f)

theorem State.Core.dayOpen (h : s.Core) (f : DayOpenFields) : (s.dayOpen f).Core := by
  have opened : (if s.judgeDayOpen f = .accepted then s.openDay f else s).Core := by
    split
    · next accepted => exact h.openDay accepted
    · exact h
  exact opened.produce _

/-! ### Head office's messages (10 R179, R188) -/

theorem State.Core.blockAck (h : s.Core) (number : Nat) : (s.blockAck number).Core := by
  unfold State.blockAck
  split
  · exact h
  · next b k found =>
    obtain ⟨at_, held⟩ := Ulc.outstanding_spec found
    have sending := (h.uplink.transmits at_).1
    have away : ¬s.day.state.working := by rw [sending]; exact not_working_sending
    split
    · next q _ =>
      have marked : State.Core { s with jnl := s.jnl.markSent q, ulc := s.ulc.free b } :=
        h.setDay (d := s.day) h.books.branch.parameters rfl (Or.inr (h.books.closed away)) (Or.inl (Nat.le_refl _))
          (markSent_law h.books.branch.journal away q)
          (h.uplink.law.free fun j e => by rw [at_] at e; cases e; exact held)
      exact marked.of_uplink (uplinkTo_fill _) marked.uplink.fill
    · next m contents => exact h.of_uplink (uplinkTo_setUlc s _) (.setUlc (h.uplink.law.hold at_ contents _))

theorem State.Core.heard (h : s.Core) : s.heard.Core := h.of_uplink (uplinkTo_heard s) h.uplink.heard

theorem State.Core.message (h : s.Core) (m : Message) : (s.message m).Core := by
  have heard := h.heard
  unfold State.message
  cases m with
  | pingReply => exact heard
  | dayOpen f => exact heard.dayOpen f
  | blockAck k => exact heard.blockAck k
  | blockNak k => exact heard.of_uplink (uplinkTo_blockNak _ k) (heard.uplink.blockNak k)
  | dayAccepted totals => exact heard.dayAccepted totals
  | dayRejected r => exact heard.dayRejected r

theorem State.Core.receiveBits (h : s.Core) (bits : List Bool) : (s.receiveBits bits).Core := by
  unfold State.receiveBits
  split
  · exact h
  · split
    · exact h
    · exact h.message _

/-! ### The configuration (02 R28) -/

theorem State.Core.setSettings (h : s.Core) {c : Settings} (range : c.InRange) : State.Core { s with settings := c } where
  settings := range
  books := h.books.of_marks rfl rfl rfl rfl rfl rfl (.refl _)
  lamp := h.lamp
  printer := h.printer
  uplink := h.uplink

theorem State.Core.configure (h : s.Core) (lines : List ConfigLine) : (s.configure lines).Core := by
  have stored := h.setSettings (Settings.inRange_foldl_store lines h.settings)
  have assigned := stored.of_print (printTo_assign _) stored.printer.assign
  exact assigned.of_uplink (uplinkTo_judgeRound _) assigned.uplink.judgeRound

/-! ### Windows -/

/-- Window `n` changed in what the core does not speak of: its text. -/
theorem State.Core.setText (h : s.Core) (n : Fin 8) (f : Window → Option TextLayer) :
    (s.onWindow n fun w => { w with text := f w }).Core := by
  have same (m : Fin 8) : ∃ text, (s.onWindow n fun w => { w with text := f w }).window m = { s.window m with text := text } := by
    by_cases e : m = n
    · subst e
      exact ⟨_, State.window_onWindow_self ..⟩
    · exact ⟨_, State.window_onWindow_ne _ _ e⟩
  refine ⟨h.settings, ⟨?_, fun m => ?_⟩, fun on m => ?_, h.printer, h.uplink⟩
  · exact { h.books.branch with }
  · obtain ⟨outside, own, amount, bright, empty, held, context, profile⟩ := h.books.pos m
    obtain ⟨text, e⟩ := same m
    exact ⟨outside, own, by rw [e]; exact amount, by rw [e]; exact bright, empty, held, context, profile⟩
  · obtain ⟨text, e⟩ := same m
    rw [e]
    exact h.lamp on m

end

end Sys2Proof.Machine
end

section
/-! PROOF. Every request taken, and every event that occurs, keeps the core of a sound state. -/

namespace Sys2Proof.Machine

section
variable {s : State} {n : Fin 8}

/-! ### Postings and voids (04) -/

theorem core_post (h : s.Core) (body : Bytes) : Gives State.Core (post body n s) := by
  refine .check fun serving => ?_
  have txn : (s.pos n).state.inTxn = true := by rw [serving]; rfl
  split
  · exact .error _
  · next p _ =>
    refine .check fun amount => .check fun _ => .check fun account => .check fun _ => .check fun breakdown => .check fun _ =>
      .judgeEffect fun takes => .check fun room => ?_
    have sound : p.Sound s.cash := ⟨amount.1, amount.2, fun book zero => account ⟨book, zero⟩, breakdown⟩
    split
    · exact .okReply (h.of_work (workTo_makePosting (touched := fun _ => True) s p trivial) (h.books.makePosting txn sound takes room))
    · exact .check fun free =>
        .ok (h.of_work (workTo_holdPosting (touched := fun _ => True) s p trivial) (h.books.holdPosting serving sound free))

theorem core_void (h : s.Core) (body : Bytes) : Gives State.Core (voidRecord body n s) := by
  refine .check fun serving => ?_
  have txn : (s.pos n).state.inTxn = true := by rw [serving]; rfl
  split
  · exact .error _
  · next r k found =>
    obtain ⟨member, kind⟩ := voidable_spec found
    refine .check fun _ => ?_
    split
    · exact .error _
    · next lines _ =>
      exact .check fun _ => .check fun breakdown => .check fun _ => .judgeEffect fun takes => .check fun room =>
        .okReply (h.of_work (workTo_makeVoid (touched := fun _ => True) s r k lines trivial)
          (h.books.makeVoid txn (h.books.branch.journal.records r member) kind breakdown takes room))

/-! ### Dual control (05) -/

theorem core_propose (h : s.Core) (l : Link) (body : Bytes) : Gives State.Core (propose l body s) := by
  unfold propose
  split
  · exact .error _
  · next b _ =>
    refine .check fun ne => ?_
    split
    · exact .error _
    · next confirmer party =>
      exact .check fun working => .check fun amount => .check fun _ => .check fun _ => .check fun ok => .check fun _ => .check fun room =>
        .okReply (h.of_work (workTo_createTransfer (touched := fun _ => True) s l confirmer b)
          (h.books.createTransfer working room ne party amount ok))

/-- A holder whose position is READY is open. -/
theorem openHolder_of_ready {holder : Holder} (h : s.holderReady holder = true) : s.OpenHolder holder := by
  rintro m rfl closed
  have ready : (s.pos m).state = .ready := by simpa [State.holderReady, State.isReady] using h
  rw [ready] at closed
  cases closed

theorem core_confirm (h : s.Core) (l : Link) (id : Nat) : Gives State.Core (confirm l id s) := by
  unfold confirm
  split
  · exact .error _
  · next e found =>
    have member : e ∈ s.dct.entries := Dct.mem_of_find found
    refine .check fun _ => ?_
    split
    · next src dst lines proposal =>
      exact .check fun ready => .check fun covers => .check fun takes =>
        .okReply (h.of_work (workTo_makeTransfer (touched := fun _ => True) s e src dst lines (fun _ _ => trivial)
          (fun _ _ => trivial) (Dct.idTouches_all _ _))
          (h.books.makeTransfer member proposal covers takes (openHolder_of_ready ready.1) (openHolder_of_ready ready.2)))
    · next m p proposal =>
      unfold confirmOverride
      split
      · next made =>
        obtain ⟨takes, rest⟩ := judgeEffect_ok made
        exact .okReply (h.of_work (workTo_makeHeld (touched := fun _ => True) s e p trivial (Dct.idTouches_all _ _))
          (h.books.makeHeld member proposal takes (check_eq_ok.1 rest).1))
      · exact .okReply (h.of_work (workTo_failHeld (touched := fun _ => True) s e _ trivial (Dct.idTouches_all _ _))
          (h.books.failHeld member proposal _))

theorem core_decline (h : s.Core) (l : Link) (id : Nat) : Gives State.Core (decline l id s) := by
  unfold decline
  split
  · exact .error _
  · next e found =>
    exact .check fun _ => .okReply (h.of_work (workTo_decline (touched := fun _ => True) s e (fun _ _ => trivial)
      (Dct.idTouches_all _ _)) (h.books.decline (Dct.mem_of_find found)))

theorem core_withdraw (h : s.Core) (l : Link) (id : Nat) : Gives State.Core (withdraw l id s) := by
  unfold withdraw
  split
  · exact .error _
  · next e found =>
    exact .check fun _ => .okReply (h.of_work (workTo_withdraw (touched := fun _ => True) s e (fun _ _ => trivial)
      (Dct.idTouches_all _ _)) (h.books.withdraw (Dct.mem_of_find found)))

/-! ### Positions and balancing (03, 06) -/

theorem core_signOff (h : s.Core) : Gives State.Core (signOff n s) := by
  refine .check fun state => .check fun _ => .check fun _ => .check fun can => ?_
  have quiet : (s.pos n).state.inTxn = false ∧ (s.pos n).state ≠ .closed := by
    rcases state with e | ⟨e, -⟩ <;> rw [e] <;> exact ⟨rfl, PosState.noConfusion⟩
  exact .okReply (h.of_work (workTo_signOff (touched := fun _ => True) s trivial fun _ _ _ => Dct.idTouches_all _ _)
    (h.books.signOff quiet.2 quiet.1 can))

theorem core_forceSignOff (h : s.Core) (v : Nat) : Gives State.Core (forceSignOff v s) := by
  unfold forceSignOff
  split
  · exact .error _
  · exact .check fun opened => .check fun can => .okReply (h.forceSignOff opened can)

theorem core_unlock (h : s.Core) (id : Nat) : Gives State.Core (unlock id n s) := by
  refine .check fun _ => .check fun away => .check fun _ => .okReply ?_
  exact h.of_work (workTo_movePos (touched := fun _ => True) s .ready trivial)
    (h.books.turn (by rw [away]; exact PosState.noConfusion) (by rw [away]; rfl) rfl PosState.noConfusion
      (.plain (h.books.pos n).context.most rfl))

theorem core_reopen (h : s.Core) : Gives State.Core (reopen n s) := by
  refine .check fun balanced => .okReply ?_
  exact h.of_work (workTo_movePos (touched := fun _ => True) s .ready trivial)
    (h.books.turn (by rw [balanced]; exact PosState.noConfusion) (by rw [balanced]; rfl) rfl PosState.noConfusion
      (.plain (h.books.pos n).context.most rfl))

theorem core_declare (h : s.Core) (body : Bytes) : Gives State.Core (declare body n s) := by
  refine .check fun state => .check fun sound => .check fun total => ?_
  obtain ⟨most, absent⟩ := Cash.countsSound_spec sound
  have admitted : Admitted s.cash.faces (declaredCounts (readCounts 2 body)) := ⟨most, absent, total⟩
  have counting : (s.pos n).state.counts = true := by rcases state with e | e <;> rw [e] <;> rfl
  unfold judgeDeclaration
  dsimp only
  split
  · exact .check fun takes => .okReply (h.of_work (workTo_applyDeclaration (touched := fun _ => True) s _ _ trivial)
      (h.books.applyDeclaration admitted counting rfl takes))
  · exact .okReply (h.of_work (workTo_miss (touched := fun _ => True) s _ _ trivial) (h.books.miss admitted state _))

theorem core_forceBalance (h : s.Core) (v : Nat) : Gives State.Core (forceBalance v s) := by
  unfold forceBalance
  split
  · exact .error _
  · next m _ =>
    refine .check fun waiting => ?_
    split
    · exact .error _
    · next counts declared =>
      obtain ⟨-, counts', declared', admitted⟩ := (h.books.pos m).context.forceWait waiting
      have same : counts' = counts := Option.some.inj (declared'.symm.trans declared)
      exact .check fun takes => .okReply (h.of_work (workTo_applyDeclaration (touched := fun _ => True) s _ _ trivial)
        (h.books.applyDeclaration (same ▸ admitted) (by rw [waiting]; rfl) rfl takes))

theorem core_vaultDeclare (h : s.Core) (body : Bytes) : Gives State.Core (vaultDeclare body s) := by
  refine .check fun working => .check fun sound => .check fun total => .check fun takes => ?_
  obtain ⟨most, absent⟩ := Cash.countsSound_spec sound
  exact .okReply (h.of_work ((workTo_countVault (touched := fun _ => True) s _ _).trans (workTo_appendDifference _ _ _ _))
    (h.books.vaultCounted working most absent total rfl takes))

/-! ### Readings, printing and the day (02, 08) -/

theorem core_readings (h : s.Core) (rest : Bytes) : Gives State.Core (okReply s rest) := .okReply h

theorem core_readProfile (h : s.Core) (v : Nat) : Gives State.Core (readProfile v s) := by
  unfold readProfile
  split
  · exact .error _
  · exact core_readings h _

theorem core_readPosition (h : s.Core) (v : Nat) : Gives State.Core (readPosition v s) := by
  unfold readPosition
  split
  · exact .error _
  · exact core_readings h _

theorem core_readCashSupervisor (h : s.Core) (v : Nat) : Gives State.Core (readCashSupervisor v s) := by
  unfold readCashSupervisor
  split
  · exact .error _
  all_goals exact core_readings h _

theorem core_printerService (h : s.Core) (printer action : Nat) : Gives State.Core (printerService printer action s) := by
  unfold printerService
  split
  · exact .okReply (h.of_print (printTo_serviceOffline s _) (h.printer.serviceOffline _))
  · exact .okReply (h.of_print (printTo_serviceOnline s _) (h.printer.serviceOnline _))
  · exact .check fun _ => .okReply (h.of_print (printTo_serviceClear s _) (h.printer.serviceClear _))
  · exact .error _

theorem core_printBook (h : s.Core) (b : PrintBody) : Gives State.Core (printBook b n s) :=
  .check fun _ => .check fun free => .check fun _ => .check fun _ => .check fun _ => .check fun _ => .check fun _ =>
    .ok (h.of_print (printTo_createJob s n b) (h.printer.createJob b free))

theorem core_send (h : s.Core) : Gives State.Core (send s) := by
  refine .check fun cutoff => .check fun closed => .check fun entries => .okReply (h.transmit (by rw [cutoff]; decide) ⟨fun m => ?_, entries⟩)
  simpa [State.pos] using Vec.all_iff.1 closed m

/-- A request that its handler takes keeps the core. -/
theorem core_handler (h : s.Core) (l : Link) (k : Kind) (body : Bytes) : Gives State.Core (handler l body k s) := by
  cases k with
  | takeNotices => exact .okReply (h.of_same id rfl rfl rfl rfl rfl rfl rfl rfl rfl rfl)
  | status => cases l <;> exact core_readings h _
  | cutoff => exact .check fun opened => .okReply (h.cutoff opened)
  | reopenDay => exact .check fun state => .okReply (h.reopenDay state)
  | send => exact core_send h
  | resend => exact .check fun rejected => .okReply (h.resend rejected)
  | config => exact .check fun _ => .check fun _ => .okReply (h.configure _)
  | restart => exact .okReply (h.of_same id rfl rfl rfl rfl rfl rfl rfl rfl rfl rfl)
  | signOn =>
    exact .tellerHandler fun n _ => .check fun range => .check fun opened => .check fun closed => .check fun free => .check fun room =>
      .okReply (h.of_work (workTo_signOn (touched := fun _ => True) s _ trivial) (h.books.signOn range opened closed free room))
  | openTxn =>
    exact .tellerHandler fun n _ => .check fun opened => .check fun ready => .check fun _ =>
      .okReply (h.of_work (workTo_openTxn (touched := fun _ => True) s trivial) (h.books.openTxn h.settings opened ready))
  | closeTxn =>
    exact .tellerHandler fun n _ => .check fun serving =>
      .okReply (h.of_work ((workTo_endTxn (touched := fun _ => True) (n := n) s trivial).trans (workTo_movePos (n := n) _ _ trivial))
        (h.books.closeTxn serving))
  | away =>
    exact .tellerHandler fun n _ => .check fun ready => .check fun _ =>
      .okReply (h.of_work (workTo_away (touched := fun _ => True) s trivial) (h.books.away ready))
  | unlock => exact .tellerHandler fun n _ => core_unlock h _
  | signOff => exact .tellerHandler fun n _ => core_signOff h
  | forceSignOff => exact core_forceSignOff h _
  | readPosition => exact core_readPosition h _
  | post => exact .tellerHandler fun n _ => core_post h body
  | void => exact .tellerHandler fun n _ => core_void h body
  | readCash =>
    cases l with
    | tl n => exact core_readings h _
    | sl => exact core_readCashSupervisor h _
  | propose => exact core_propose h l body
  | confirm => exact core_confirm h l _
  | decline => exact core_decline h l _
  | withdraw => exact core_withdraw h l _
  | beginBalance =>
    exact .tellerHandler fun n _ => .check fun ready => .check fun _ =>
      .okReply (h.of_work (workTo_beginBalance (touched := fun _ => True) s trivial) (h.books.beginBalance ready))
  | declare => exact .tellerHandler fun n _ => core_declare h body
  | reopen => exact .tellerHandler fun n _ => core_reopen h
  | forceBalance => exact core_forceBalance h _
  | vaultDeclare => exact core_vaultDeclare h body
  | readProfile => exact core_readProfile h _
  | readJournal => exact .check fun _ => core_readings h _
  | printBook => exact .tellerHandler fun n _ => core_printBook h _
  | cancelPrint =>
    exact .tellerHandler fun n _ => .check fun _ => .okReply (h.of_print (printTo_cancelJob s n) (h.printer.cancelJob n))
  | printerService => exact core_printerService h _ _
  | showText => exact .tellerHandler fun n _ => .check fun _ => .okReply (h.setText n _)

/-! ### Events -/

theorem happening_core {f : State → State} (event : Happening f) (h : s.Core) : (f s).Core := by
  have work {t : State} (w : s.WorkAny t) (books : t.Books) : t.Core := h.of_work w books
  have print {t : State} (w : s.PrintTo t) (printer : t.PrinterLaw) : t.Core := h.of_print w printer
  cases event with
  | idle n => exact work (workTo_idleReached s trivial) (h.books.idleReached h.settings n)
  | sense n level => exact work (workTo_sense s level trivial) (h.books.sense n level)
  | opening n => exact work (workTo_opening s trivial) (h.books.opening h.settings n)
  | shutting n => exact work (workTo_shutting s trivial) (h.books.shutting n)
  | windowEnd n => exact work (workTo_windowEnd s trivial) (h.books.windowEnd n)
  | drawerLong n => exact work (workTo_drawerLong s trivial) (h.books.drawerLong n)
  | serviceLong n => exact work (workTo_serviceLong s trivial) (h.books.serviceLong n)
  | expiry id => exact work (workTo_expireId s id (Dct.idTouches_all _ _)) (h.books.expireId id)
  | insertion p => exact print (printTo_insertion s p) (h.printer.insertion p)
  | removal p => exact print (printTo_removal s p) (h.printer.removal p)
  | waitEnds p outcome wait => exact print (printTo_waitEnds s p _ outcome) (h.printer.waitEnds p wait outcome)
  | bookConfirmed p => exact print (printTo_bookConfirmed s p) (h.printer.bookConfirmed p)
  | encoderStep p dir => exact print (printTo_encoderStep s p dir) (h.printer.encoderStep p dir)
  | jam p => exact print (printTo_jam s p) (h.printer.jam p)
  | strikeDone p => exact print (printTo_strikeDone s p) (h.printer.strikeDone p)
  | strikeTimeEnd p => exact print (printTo_strikeTimeEnd s p) (h.printer.strikeTimeEnd p)
  | bookLeft p => exact print (printTo_bookLeft s p) (h.printer.bookLeft p)
  | seeTellerEnd n => exact print (printTo_seeTellerEnd s n) (h.printer.of_pbu rfl rfl)
  | textEnd n => exact h.setText n fun _ => none
  | message m => exact h.message m
  | bits bits => exact h.receiveBits bits

theorem uplinkHappening_core {f : State → State} (event : UplinkHappening f) (h : s.Core) : (f s).Core :=
  h.of_uplink (uplinkHappening_uplinkTo event s) (uplinkHappening_uplinkLaw event h.uplink)

/-! ### Composing and answering (01 R5, 03 R48, 09) -/

/-- A record that differs in its idle flag alone. -/
theorem Position.Own.setIdle {p : Position} {next : Nat} (own : p.Own next) (b : Bool) : ({ p with idle := b } : Position).Own next :=
  ⟨own.teller, own.start, own.running, own.window, own.reached, own.range⟩

/-- Everything sound but the station lines, the displays and the lamps: what stands whether or not the part is powered. -/
structure State.Blocks (s : State) : Prop where
  settings : s.settings.InRange
  books : s.Books
  printer : s.PrinterLaw
  uplink : s.UplinkLaw

theorem State.Core.blocks (h : s.Core) : s.Blocks := ⟨h.settings, h.books, h.printer, h.uplink⟩

theorem State.Blocks.core (h : s.Blocks) (lamp : s.LampLaw) : s.Core := ⟨h.settings, h.books, lamp, h.printer, h.uplink⟩

/-- Positions that keep their states and tellers, lawful by themselves, and windows whose layers stand. -/
theorem State.Blocks.replace (h : s.Blocks) {positions : Vec 8 Position} {windows : Vec 8 Window}
    (pos : ∀ n, (positions.get n).state = (s.pos n).state ∧ (positions.get n).teller = (s.pos n).teller ∧
      (positions.get n).Own s.jnl.next)
    (layers : ∀ m, (windows.get m).amount = (s.window m).amount ∧ (windows.get m).current ≤ 15 ∧ (windows.get m).target ≤ 15) :
    State.Blocks { s with positions := positions, windows := windows } := by
  refine ⟨h.settings, ⟨{ h.books.branch with tellers := fun n m hnm hn => ?_ }, fun n => ?_⟩, h.printer, h.uplink⟩
  · obtain ⟨-, teller, -⟩ := pos n
    obtain ⟨-, teller', -⟩ := pos m
    change (positions.get n).teller = (positions.get m).teller at hnm
    change (positions.get n).teller ≠ none at hn
    rw [teller] at hnm hn
    rw [teller'] at hnm
    exact h.books.branch.tellers n m hnm hn
  · obtain ⟨state, -, own⟩ := pos n
    obtain ⟨sameAmount, current, target⟩ := layers n
    obtain ⟨outside, -, amount, -, empty, held, context, profile⟩ := (h.books.pos n).same state own
    refine ⟨outside, own, ?_, ⟨current, target⟩, empty, held, context, profile⟩
    show (windows.get n).amount ≠ none → _
    rw [sameAmount]
    exact amount

theorem target_settleWindow (settings : s.settings.InRange) (m : Fin 8) : (s.settleWindow m).target ≤ 15 := by
  obtain ⟨-, brightness, -⟩ := settings
  unfold State.settleWindow
  dsimp only
  split
  · exact Nat.zero_le _
  · exact brightness

theorem State.Core.settle (h : s.Core) : s.settle.Core := by
  cases alive : s.alive
  · rw [settle_dead alive]
    exact h
  · rw [settle_alive alive]
    refine State.Blocks.core (h.blocks.replace (fun n => ?_) fun m => ?_) fun _ m => ?_
    · rw [show s.settleIdle.positions.get n = { s.pos n with idle := (s.pos n).isIdle s.settings.idleBlank } from pos_settleIdle s n]
      exact ⟨rfl, rfl, (h.books.pos n).own.setIdle _⟩
    · rw [Vec.get_tab]
      exact ⟨rfl, (h.books.pos m).bright.1, target_settleWindow (s := s.settleIdle) h.settings m⟩
    · rw [window_settleWindows]
      show (if s.settleIdle.lampPattern m = (s.window m).pattern then (s.window m).lamp
        else (s.settleIdle.lampPattern m).output s.day.phase) = (s.settleIdle.lampPattern m).output s.day.phase
      split
      · next same => rw [h.lamp alive m, same]
      · rfl

theorem State.Core.onLink (h : s.Core) (l : Link) (f : LinkRec → LinkRec) : (s.onLink l f).Core :=
  h.of_same id rfl rfl rfl rfl rfl rfl rfl rfl rfl rfl

theorem State.Core.arrive (h : s.Core) (l : Link) : (s.arrive l).Core := by
  have received := h.onLink l fun r => { r with receiver := .hunt, frame := [], quiet := none }
  cases l with
  | sl => exact received
  | tl n =>
    have heard := workTo_onPos (touched := (· = n)) (s.onLink (.tl n) fun r => { r with receiver := .hunt, frame := [], quiet := none })
      (Position.hear s.settings.idleBlank) rfl fun l => l
    refine received.of_work heard (received.books.onPosWatch heard (fun _ => ⟨rfl, rfl, rfl, rfl⟩) (fun w => w) ?_)
    rintro ⟨teller, openTime, limit, stopwatch, service, -⟩
    exact ⟨teller, openTime, limit, stopwatch, service, Nat.zero_le _⟩

theorem State.Core.accept (h : s.Core) (l : Link) : (s.accept l).Core := (h.arrive l).onLink l _

theorem core_requestWith (h : s.Core) {l : Link} (kind tag : Byte) (acting : Bool) {judge : State → Judged}
    (judged : Gives State.Core (judge (s.accept l))) : (requestWith l kind tag acting judge s).Core := by
  cases alive : s.alive
  · rw [requestWith_dead alive]
    exact h
  · cases inWork : (s.link l).inWork
    · cases hj : judge (s.accept l) with
      | error c =>
        rw [requestWith_error ⟨alive, inWork⟩ hj]
        exact ((h.accept l).onLink l _).settle
      | ok t =>
        rw [requestWith_ok ⟨alive, inWork⟩ hj]
        have worked : t.state.Core := judged t hj
        have recorded : (if acting then t.state.recordTag l tag else t.state).Core := by
          split
          · exact worked.onLink l _
          · exact worked
        exact (recorded.onLink l _).settle
    · rw [requestWith_busy alive inWork]
      exact ((h.arrive l).onLink l _).settle

theorem core_request (h : s.Core) (l : Link) (k : Kind) (tag : Byte) (body : Bytes) :
    (request l k tag body (handler l body k) s).Core :=
  core_requestWith h _ _ _ (.check fun _ => .check fun _ => core_handler (h.accept l) l k body)

theorem core_unknownRequest (h : s.Core) (l : Link) (kind tag : Byte) : (unknownRequest l kind tag s).Core :=
  core_requestWith h _ _ _ (.error _)

theorem core_requestFrame (h : s.Core) (l : Link) (kind tag : Byte) (body : Bytes) : (requestFrame l kind tag body s).Core := by
  unfold requestFrame
  split
  · exact core_request h l _ tag body
  · exact core_unknownRequest h l kind tag

theorem core_receiveByte (h : s.Core) (l : Link) (b : Byte) : (receiveByte l b s).Core := by
  have received := h.onLink l fun _ => (s.link l).byte b
  unfold receiveByte
  dsimp only
  split
  · unfold completeFrame
    split
    · exact core_requestFrame received l _ _ _
    · exact received.onLink l _
  · exact received

end

end Sys2Proof.Machine
end

section
/-! PROOF. The three resets, and a part held or without main power, keep the core of a sound state (02 R30 to R34). -/

namespace Sys2Proof.Machine

section
variable {s t : State}

/-! ### The blocks where the supply, the clock or the links change -/

/-- A day that keeps its state and its parameters. -/
theorem State.Blocks.setDay (h : s.Blocks) {d : Day} (state : d.state = s.day.state) (parameters : d.ParametersInRange) :
    State.Blocks { s with day := d } where
  settings := h.settings
  books := {
    branch := { h.books.branch with
      parameters := parameters
      outside := by
        show d.state ≠ _ → d.state ≠ _ → _
        rw [state]
        exact h.books.branch.outside
      journal := by
        show s.jnl.Law d.state
        rw [state]
        exact h.books.branch.journal }
    pos := fun n => { h.books.pos n with
      outside := by
        show d.state ≠ _ → d.state ≠ _ → _
        rw [state]
        exact (h.books.pos n).outside } }
  printer := h.printer
  uplink := h.uplink.of_same state rfl

theorem State.Blocks.setSupply (h : s.Blocks) (x : Supply) : State.Blocks { s with supply := x } where
  settings := h.settings
  books := h.books.of_marks rfl rfl rfl rfl rfl rfl (.refl _)
  printer := h.printer
  uplink := h.uplink

theorem State.Blocks.setLinks (h : s.Blocks) (v : Vec 9 LinkRec) : State.Blocks { s with links := v } where
  settings := h.settings
  books := h.books.of_marks rfl rfl rfl rfl rfl rfl (.refl _)
  printer := h.printer
  uplink := h.uplink

/-- The job positions are the queue's and the printers' jobs'. -/
theorem jobPositions_congr {u v : Pbu} (queue : v.queue = u.queue) (jobs : ∀ p, (v.printers.get p).job = (u.printers.get p).job) :
    v.jobPositions = u.jobPositions := by
  simp only [Pbu.jobPositions, filterMap_pair, Printer.jobPosition, queue, jobs]

/-- The print unit, its jobs kept, and the uplink replaced by lawful ones. -/
theorem State.Blocks.setUnits (h : s.Blocks) {u : Pbu} {v : Ulc} (printers : ∀ p, (u.printers.get p).Law)
    (queue : u.queue = s.pbu.queue) (jobs : ∀ p, (u.printers.get p).job = (s.pbu.printers.get p).job)
    (uplink : v.Law s.day.state) : State.Blocks { s with pbu := u, ulc := v } where
  settings := h.settings
  books := h.books.of_marks rfl rfl rfl rfl rfl rfl (.refl _)
  printer := ⟨printers, (jobPositions_congr queue jobs).symm ▸ h.printer.2⟩
  uplink := (uplinkLaw_iff _).2 uplink

theorem State.Blocks.setCause (h : s.Blocks) (c : ResetCause) (count : Nat) : (s.setCause c count).Blocks :=
  h.setDay rfl h.books.branch.parameters

/-! ### A part held, or without main power (02 R30, R32) -/

theorem Printer.Law.stop {r : Printer} (h : r.Law) : ({ r with motor := .off, strike := false } : Printer).Law := by
  obtain ⟨jobless, job, noBook, book, fault, idle, offline, -, -, low, high⟩ := h
  exact ⟨jobless, job, noBook, book, fault, idle, offline, fun e => absurd rfl e, fun e => absurd e Bool.false_ne_true, low, high⟩

theorem State.Blocks.stopOutputs (h : s.Blocks) : s.stopOutputs.Blocks := by
  refine h.setUnits (fun p => ?_) rfl (fun p => ?_) (h.uplink.law.of_same rfl rfl rfl rfl h.uplink.law.purposes)
  · rw [Vec.get_map]
    exact (h.printer.1 p).stop
  · rw [Vec.get_map]

theorem State.Blocks.darken (h : s.Blocks) : s.darken.Blocks := by
  refine h.replace (fun n => ⟨rfl, rfl, (h.books.pos n).own⟩) fun m => ?_
  rw [Vec.get_map]
  exact ⟨rfl, Nat.zero_le _, (h.books.pos m).bright.2⟩

theorem Position.Own.secure {p : Position} {next : Nat} (own : p.Own next) : p.secure.Own next :=
  ⟨own.teller, own.start, own.running, (fun w hw => by cases hw), own.reached, own.range⟩

theorem State.Blocks.secureAll (h : s.Blocks) : State.Blocks { s with positions := s.positions.map Position.secure } := by
  refine h.replace (windows := s.windows) (fun n => ?_) fun m => ⟨rfl, (h.books.pos m).bright.1, (h.books.pos m).bright.2⟩
  rw [Vec.get_map]
  exact ⟨rfl, rfl, (h.books.pos n).own.secure⟩

theorem State.Blocks.holdReset (h : s.Blocks) : s.holdReset.Blocks := h.stopOutputs.secureAll.darken

/-- A part that takes no event shows nothing. -/
theorem State.Blocks.core_of_dead (h : s.Blocks) (dead : s.alive = false) : s.Core :=
  h.core fun alive => absurd (alive.symm.trans dead).symm Bool.false_ne_true

/-! ### A POWER-UP or WARM reset (02 R31, R33) -/

theorem Journal.marksTo_releaseAll (j : Journal) : j.MarksTo j.releaseAll :=
  Journal.marksTo_map (fun r => { r with claimed := none }) (fun _ => ⟨rfl, rfl, rfl, id⟩) rfl rfl rfl
    (Nat.le_of_eq (List.length_map ..))

theorem journal_resetBase (h : s.Books) : s.resetBase.jnl.Law s.day.state := by
  have released := h.branch.journal.of_marks s.jnl.marksTo_releaseAll
  rw [jnl_resetBase]
  split
  · next working => exact released.withSystem _ (Record.fresh_plain _ _ _ rfl) (DayState.working.ne_closed working) rfl
  · exact released

/-- A position after a reset: CLOSED or AWAY, its transaction ended. -/
theorem Position.own_reset {p : Position} {next next' limit : Nat} (own : p.Own next) (range : 5 ≤ limit ∧ limit ≤ 300) :
    (p.reset limit).Own next' := by
  obtain ⟨teller, start, running, -, -, ids, openTime, openLimit, stopwatch, service, -⟩ := own
  have quiet : (p.reset limit).txnStart = none ∧ (p.reset limit).running = false := by
    unfold Position.reset
    dsimp only
    split
    · exact ⟨rfl, rfl⟩
    · next txn =>
      exact ⟨by_contra fun e => txn (start.1 e), Bool.eq_false_iff.2 fun e => txn (running.1 e)⟩
  refine Position.own_quiet ?_ ?_ quiet.1 quiet.2 (fun w hw => by cases hw) ⟨ids, ?_, ?_, stopwatch, service, Nat.zero_le _⟩
  · show p.teller = none ↔ (if p.state = .closed then PosState.closed else .away) = .closed
    rw [teller]
    split <;> simp [*]
  · unfold Position.reset
    dsimp only
    split <;> rfl
  · unfold Position.reset
    dsimp only
    split
    · exact Nat.zero_le _
    · exact openTime
  · unfold Position.reset
    dsimp only
    split
    · exact range
    · exact openLimit

theorem state_reset (limit : Nat) (p : Position) :
    (p.reset limit).state = .closed ∧ p.state = .closed ∨ (p.reset limit).state = .away ∧ p.state ≠ .closed := by
  unfold Position.reset
  dsimp only
  split
  · next closed => exact Or.inl ⟨rfl, closed⟩
  · next opened => exact Or.inr ⟨rfl, opened⟩

theorem posLaw_resetBase (settings : s.settings.InRange) (h : s.Books) (n : Fin 8) : s.resetBase.PosLaw n := by
  obtain ⟨outside, own, -, bright, empty, -, context, profile⟩ := h.pos n
  have quiet : ((s.pos n).reset s.settings.openLimit).state ≠ .held ∧
      ((s.pos n).reset s.settings.openLimit).state.counts = false := by
    rcases state_reset s.settings.openLimit (s.pos n) with ⟨e, -⟩ | ⟨e, -⟩ <;> rw [e] <;> exact ⟨PosState.noConfusion, rfl⟩
  have window := window_resetBase s n
  unfold State.PosLaw
  rw [pos_resetBase]
  refine ⟨?_, Position.own_reset own settings.2.2.1, ?_, ?_, ?_, ?_, ?_, ?_⟩
  · rw [day_resetBase]
    intro a b
    rcases state_reset s.settings.openLimit (s.pos n) with ⟨e, -⟩ | ⟨-, e⟩
    · exact e
    · exact absurd (outside a b) e
  · rw [window]
    exact fun e => absurd rfl e
  · rw [window]
    exact ⟨Nat.zero_le _, bright.2⟩
  · unfold State.drawer
    rw [cash_resetBase]
    intro closed
    rcases state_reset s.settings.openLimit (s.pos n) with ⟨-, e⟩ | ⟨e, -⟩
    · exact empty e
    · rw [e] at closed
      cases closed
  · rw [dct_resetBase, if_neg quiet.1]
    rfl
  · unfold State.context
    rw [bal_resetBase, cash_resetBase]
    exact .plain context.most quiet.2
  · unfold State.profile
    rw [bal_resetBase, cash_resetBase]
    exact profile

theorem teller_reset (limit : Nat) (p : Position) : (p.reset limit).teller = p.teller := rfl

theorem books_resetBase (settings : s.settings.InRange) (h : s.Books) : s.resetBase.Books where
  branch := {
    parameters := by rw [day_resetBase]; exact h.branch.parameters
    outside := fun _ _ => by rw [dct_resetBase]
    tellers := fun n m => by
      rw [pos_resetBase, pos_resetBase, teller_reset, teller_reset]
      exact h.branch.tellers n m
    cash := by rw [cash_resetBase]; exact h.branch.cash
    table := by
      rw [dct_resetBase]
      exact Dct.law_of_empty rfl (Nat.zero_le _)
    journal := by rw [day_resetBase]; exact journal_resetBase h }
  pos := posLaw_resetBase settings h

theorem Printer.law_reset {r : Printer} (h : r.Law) : r.reset.Law := by
  obtain ⟨-, -, -, -, fault, -, -, -, -, low, high⟩ := h
  unfold Printer.reset
  dsimp only
  split
  · next state =>
    have state : r.state = .fault := state
    have stands : r.fault ≠ none := fault.2 state
    simp [Printer.Law, Printer.halt, state, stands, low, high]
  · next state =>
    have none : r.fault = none := by_contra fun e => state (fault.1 e)
    cases online : r.online <;> simp [Printer.Law, Printer.halt, online, none, low, high]

theorem Printer.law_afterReset {r : Printer} (h : r.Law) : r.afterReset.Law := by
  have law := Printer.law_reset h
  unfold Printer.afterReset Printer.ejectFound
  split
  · next found =>
    have loaded : r.reset.Loaded := { law.sane found.2 with book := found.1 }
    have fed : (r.reset.feed .ejecting 0).Law := Printer.law_feed loaded (by decide) (fun e => absurd rfl e) 0
    unfold Printer.ejectIdle
    split
    · exact Printer.law_awaitRemoval ⟨⟨loaded.fault, loaded.low, loaded.high⟩, loaded.book⟩ _
    · exact fed
  · exact law

theorem Printer.job_afterReset (r : Printer) : r.afterReset.job = none := by
  unfold Printer.afterReset Printer.ejectFound
  split
  · unfold Printer.ejectIdle
    split
    · rfl
    · exact Printer.job_reset r
  · exact Printer.job_reset r

theorem printerLaw_resetBase (h : s.PrinterLaw) : s.resetBase.PrinterLaw := by
  have printers (p : Fin 2) : s.resetBase.printer p = (s.printer p).afterReset := by
    unfold State.printer
    rw [pbu_resetBase]
    exact Vec.get_map _ _ _
  refine ⟨fun p => by rw [printers]; exact Printer.law_afterReset (h.1 p), ?_⟩
  have queue : s.resetBase.pbu.queue = [] := by
    rw [pbu_resetBase]
    rfl
  have idle (p : Fin 2) : (s.resetBase.pbu.printers.get p).jobPosition = none :=
    (congrArg Printer.jobPosition (printers p)).trans (congrArg (Option.map Job.position) (Printer.job_afterReset _))
  rw [Pbu.jobPositions, queue, filterMap_pair, idle, idle]
  exact List.nodup_nil

theorem uplinkLaw_resetBase (h : s.UplinkLaw) : s.resetBase.UplinkLaw := by
  have empty (b : Fin 2) : s.resetBase.ulc.buffers.get b = none := Vec.get_fill _ _
  refine (uplinkLaw_iff _).2 ⟨fun _ => ⟨empty, rfl⟩, fun b k e => ?_, fun b q hq => ?_, fun e => absurd rfl e, List.nodup_nil, h.law.next⟩
  · rw [empty] at e
    cases e
  · rw [empty] at hq
    cases hq

theorem State.Blocks.resetBase (h : s.Blocks) : s.resetBase.Blocks where
  settings := by rw [settings_resetBase]; exact h.settings
  books := books_resetBase h.settings h.books
  printer := printerLaw_resetBase h.printer
  uplink := uplinkLaw_resetBase h.uplink

/-- Displays composed and every lamp lit afresh, whatever they were. -/
theorem State.Blocks.lit (h : s.Blocks) : s.lit.Core := by
  refine State.Blocks.core (State.Blocks.replace (windows := s.lit.windows) h (fun n => ?_) fun m => ?_) fun _ m => ?_
  · rw [show s.settleIdle.settleWindows.positions.get n = { s.pos n with idle := (s.pos n).isIdle s.settings.idleBlank } from
      pos_settleIdle s n]
    exact ⟨rfl, rfl, (h.books.pos n).own.setIdle _⟩
  · rw [show s.lit.windows.get m = { s.settleIdle.settleWindow m with
      lamp := (s.settleIdle.settleWindow m).pattern.output s.day.phase } from window_lit s m]
    exact ⟨rfl, (h.books.pos m).bright.1, target_settleWindow (s := s.settleIdle) h.settings m⟩
  · rw [show State.window _ m = { s.settleIdle.settleWindow m with
      lamp := (s.settleIdle.settleWindow m).pattern.output s.day.phase } from window_lit s m]
    rfl

theorem State.Blocks.resetKept (h : s.Blocks) : s.resetKept.Core := by
  rw [resetKept_eq]
  exact h.resetBase.lit

theorem State.Blocks.warmReset (h : s.Blocks) (c : ResetCause) : (s.warmReset c).Core := (h.setCause c _).resetKept

theorem State.Core.warmRestart (h : s.Core) : s.warmRestart.Core := by
  unfold State.warmRestart
  split
  · exact (h.onLink .sl LinkRec.ownSent).blocks.warmReset _
  · exact h

theorem State.Core.replySent (h : s.Core) (l : Link) : (s.replySent l).Core := by
  unfold State.replySent
  split
  · exact h.warmRestart
  · exact h.onLink l _

/-! ### The supply and the reset line (02 R30 to R32) -/

theorem alive_holdReset (s : State) : s.holdReset.alive = s.alive := rfl

theorem State.Core.assertReset (h : s.Core) : s.assertReset.Core := by
  unfold State.assertReset
  split
  · next on =>
    refine (h.blocks.setSupply { s.supply with resetLine := true, restartPending := false }).holdReset.core_of_dead ?_
    rw [alive_holdReset]
    simp [State.alive]
  · refine (h.blocks.setSupply { s.supply with resetLine := true }).core_of_dead ?_
    simp [State.alive]

theorem State.Core.releaseReset (h : s.Core) : s.releaseReset.Core := by
  have released := h.blocks.setSupply { s.supply with resetLine := false }
  unfold State.releaseReset
  dsimp only
  split
  · exact released.warmReset .warmLine
  · next off => exact released.core_of_dead (by simpa [State.alive] using off)

theorem State.Core.powerFail (h : s.Core) : s.powerFail.Core := by
  refine State.Blocks.core_of_dead (State.Blocks.darken ((h.blocks.stopOutputs.setSupply
    { s.supply with mainPower := false, restartPending := false }).setLinks _)) ?_
  rfl

theorem State.Core.backupLow (h : s.Core) : s.backupLow.Core := by
  unfold State.backupLow
  split
  · exact h
  · next off =>
    refine (h.blocks.setDay (d := { s.day with intact := false }) rfl h.books.branch.parameters).core_of_dead ?_
    simp [State.alive, off]

theorem core_cold (pending : List Instr) (line : Bool) (straps : Vec 9 Speed) (sensors : Vec 8 Sensor) (books : Vec 2 Bool) :
    (State.cold pending line straps sensors books).Core := (sound_cold pending line straps sensors books).core

theorem State.Core.powerReturn (h : s.Core) : s.powerReturn.Core := by
  have powered : s.powered.Blocks := h.blocks.setSupply _
  have returned : (if s.powered.day.intact then s.powered.powerUp else s.powered.coldStart).Core := by
    split
    · exact (powered.setCause _ _).resetKept
    · exact core_cold _ _ _ _ _
  rw [powerReturn_eq]
  generalize (if s.powered.day.intact then s.powered.powerUp else s.powered.coldStart) = u at returned ⊢
  unfold State.holdIfAsserted
  split
  · next line =>
    refine returned.blocks.holdReset.core_of_dead ?_
    rw [alive_holdReset]
    simp [State.alive, line]
  · exact returned

end

end Sys2Proof.Machine
end

section
/-! PROOF. A hundredth of an idle part keeps the core of a sound state (02 R24 to R26). -/

namespace Sys2Proof.Machine

section
variable {s t : State}

/-! ### The clock and the 8 Hz tick -/

theorem State.Core.setClock (h : s.Core) {d : Day} (state : d.state = s.day.state) (parameters : d.ParametersInRange)
    (phase : d.phase = s.day.phase) : State.Core { s with day := d } :=
  (h.blocks.setDay state parameters).core fun on m => by
    show (s.window m).lamp = (s.window m).pattern.output d.phase
    rw [phase]
    exact h.lamp on m

theorem stepToward_le {target current bound : Nat} (ht : target ≤ bound) (hc : current ≤ bound) :
    stepToward target current ≤ bound := by
  unfold stepToward
  split
  · omega
  · split <;> omega

/-- An 8 Hz tick: brightnesses step, and every lamp takes the output of the new phase. -/
theorem State.Blocks.eightHz (h : s.Blocks) (phase : Nat) : (s.eightHz phase).Core := by
  have phased : State.Blocks { s with day := { s.day with phase := phase } } := h.setDay rfl h.books.branch.parameters
  cases alive : s.alive
  · rw [State.eightHz, whenAlive_dead _ (show State.alive { s with day := { s.day with phase := phase } } = false from alive)]
    exact phased.core_of_dead alive
  · rw [State.eightHz, whenAlive_alive _ (show State.alive { s with day := { s.day with phase := phase } } = true from alive)]
    refine State.Blocks.core (phased.replace (positions := s.positions) (fun n => ⟨rfl, rfl, (h.books.pos n).own⟩) fun m => ?_) fun _ m => ?_
    · rw [Vec.get_map]
      exact ⟨rfl, stepToward_le (h.books.pos m).bright.2 (h.books.pos m).bright.1, (h.books.pos m).bright.2⟩
    · show ((s.windows.map (Window.tick phase)).get m).lamp = ((s.windows.map (Window.tick phase)).get m).pattern.output phase
      rw [Vec.get_map]
      rfl

theorem State.Core.oneHz (h : s.Core) : s.oneHz.Core := h.setClock rfl h.books.branch.parameters rfl

theorem State.Core.setHundredths (h : s.Core) (k : Nat) : State.Core { s with day := { s.day with hundredths := k } } :=
  h.setClock rfl h.books.branch.parameters rfl

theorem State.Core.eightHzTick (h : s.Core) : s.eightHzTick.Core := by
  unfold State.eightHzTick
  split
  · exact h.blocks.eightHz _
  · exact (h.setHundredths _).blocks.eightHz _

theorem State.Core.advanceClock (h : s.Core) : s.advanceClock.Core := by
  unfold State.advanceClock
  dsimp only
  generalize (if s.day.hundredths < 99 then s.day.hundredths + 1 else 0) = k
  have ticked : (if k = 0 then State.oneHz { s with day := { s.day with hundredths := k } }
      else { s with day := { s.day with hundredths := k } }).Core := by
    split
    · exact (h.setHundredths k).oneHz
    · exact h.setHundredths k
  split
  · exact ticked.blocks.eightHz _
  · exact ticked

/-! ### Counting (02 R26) -/

theorem countUp_le {bound n : Nat} (h : n ≤ bound) : countUp bound n ≤ bound := by
  unfold countUp
  split <;> omega

theorem countDown_le {o : Option Nat} {bound : Nat} (h : ∀ w, o = some w → w ≤ bound) : ∀ w, countDown o = some w → w ≤ bound := by
  cases o with
  | none => exact fun w hw => by cases hw
  | some k =>
    rintro w ⟨⟩
    exact Nat.le_trans (Nat.sub_le _ _) (h k rfl)

theorem countDown_eq_none {o : Option Nat} : countDown o = none ↔ o = none := by cases o <;> simp [countDown]

theorem Position.own_count {p : Position} {next : Nat} (own : p.Own next) : p.count.Own next := by
  obtain ⟨teller, start, running, window, reached, ids, openTime, openLimit, stopwatch, service, silence⟩ := own
  refine ⟨teller, start, running, countDown_le window, reached, ids, ?_, openLimit, ?_, service, countUp_le silence⟩
  · unfold Position.count
    dsimp only
    split
    · exact countUp_le openTime
    · exact openTime
  · unfold Position.count
    dsimp only
    split
    · exact countUp_le stopwatch
    · exact stopwatch

theorem Dct.ids_count (d : Dct) : d.count.entries.map Entry.id = d.entries.map Entry.id := by
  simp only [Dct.count, List.map_map]
  rfl

theorem Dct.Law.count {c : Cash} {d : Dct} (h : d.Law c) : d.count.Law c where
  room := by
    simp only [Dct.count, List.length_map]
    exact h.room
  distinct := by
    rw [Dct.ids_count]
    exact h.distinct
  entries e he := by
    obtain ⟨k, hk, rfl⟩ := List.mem_map.1 he
    exact h.entries k hk
  cursor := h.cursor

theorem Dct.overrides_count (d : Dct) (n : Fin 8) : d.count.overrides n = d.overrides n := by
  unfold Dct.overrides Dct.count
  rw [List.filter_map, List.length_map]
  rfl

theorem heldSeqs_count (b : Option Block) :
    heldSeqs (b.map fun k => { k with answer := countDown k.answer }) = heldSeqs b := by cases b <;> rfl

theorem Ulc.Law.count {st : DayState} {u : Ulc} (h : u.Law st) : u.count.Law st := by
  have buffer (b : Fin 2) : u.count.buffers.get b = (u.buffers.get b).map fun k => { k with answer := countDown k.answer } :=
    Vec.get_map _ _ _
  refine ⟨fun away => ?_, fun b k e => ?_, fun b => ?_, fun waits => ?_, h.purposes, h.next⟩
  · obtain ⟨empty, verdict⟩ := h.quiet away
    exact ⟨fun b => by rw [buffer, empty b]; rfl, countDown_eq_none.2 verdict⟩
  · rw [buffer, Option.map_eq_some_iff] at e
    obtain ⟨j, at_, rfl⟩ := e
    obtain ⟨number, retries, answer, contents⟩ := h.blocks b j at_
    exact ⟨number, retries, fun held => countDown_eq_none.2 (answer held), contents⟩
  · rw [buffer, buffer, heldSeqs_count, heldSeqs_count]
    exact h.apart b
  · obtain ⟨b, k, at_, held⟩ := h.verdict fun e => waits (countDown_eq_none.2 e)
    exact ⟨b, { k with answer := countDown k.answer }, by rw [buffer, at_]; rfl, held⟩

theorem State.Blocks.setDct (h : s.Blocks) {d : Dct} (books : State.Books { s with dct := d }) : State.Blocks { s with dct := d } :=
  ⟨h.settings, books, h.printer, h.uplink⟩

theorem State.Blocks.countAll (h : s.Blocks) : s.countAll.Blocks := by
  have counted : State.Blocks { s with positions := s.positions.map Position.count, windows := s.windows.map Window.count } := by
    refine h.replace (fun n => ?_) fun m => ?_
    · rw [Vec.get_map]
      exact ⟨rfl, rfl, Position.own_count (h.books.pos n).own⟩
    · rw [Vec.get_map]
      exact ⟨rfl, (h.books.pos m).bright⟩
  have dct := counted.setDct (counted.books.setDct (d := s.dct.count) h.books.branch.table.count
    (fun out => by
      have none : s.dct.entries = [] := h.books.entries_outside out
      rw [Dct.count, none]
      rfl)
    fun m => Dct.overrides_count s.dct m)
  refine (dct.setLinks (s.links.map LinkRec.count)).setUnits (u := s.pbu.count) (v := s.ulc.count) (fun p => ?_) rfl (fun p => ?_)
    h.uplink.law.count
  · rw [show s.pbu.count.printers.get p = { s.printer p with timer := countDown (s.printer p).timer } from Vec.get_map _ _ _]
    exact h.printer.1 p
  · rw [show s.pbu.count.printers.get p = { s.printer p with timer := countDown (s.printer p).timer } from Vec.get_map _ _ _]
    rfl

theorem State.Core.countAll (h : s.Core) : s.countAll.Core :=
  h.blocks.countAll.core fun on m => by
    rw [show s.countAll.window m = (s.window m).count from Vec.get_map _ _ _]
    exact h.lamp on m

/-! ### What falls due (02 R26) -/

theorem State.Core.duePosition (h : s.Core) (n : Fin 8) : (s.duePosition n).Core := by
  have hold {s : State} (h : s.Core) : (s.dueHold n).Core := by
    refine h.of_work (workTo_dueHold (touched := fun _ => True) s trivial) ?_
    unfold State.dueHold
    split
    · split
      · exact h.books.opening h.settings n
      · exact h.books.shutting n
    · exact h.books
  have window {s : State} (h : s.Core) : (s.dueWindow n).Core := by
    refine h.of_work (workTo_dueWindow (touched := fun _ => True) s trivial) ?_
    unfold State.dueWindow
    split
    · exact h.books.windowEnd n
    · exact h.books
  have openTime {s : State} (h : s.Core) : (s.dueOpenTime n).Core := by
    refine h.of_work (workTo_dueOpenTime (touched := fun _ => True) s trivial) ?_
    unfold State.dueOpenTime
    split
    · exact h.books.drawerLong n
    · exact h.books
  have service {s : State} (h : s.Core) : (s.dueService n).Core := by
    refine h.of_work (workTo_dueService (touched := fun _ => True) s trivial) ?_
    unfold State.dueService
    split
    · exact h.books.serviceLong n
    · exact h.books
  have seeTeller {s : State} (h : s.Core) : (s.dueSeeTeller n).Core := by
    refine h.of_print (printTo_dueSeeTeller s n) ?_
    unfold State.dueSeeTeller
    split
    · exact h.printer.of_pbu rfl rfl
    · exact h.printer
  have text {s : State} (h : s.Core) : (s.dueText n).Core := by
    unfold State.dueText
    split
    · split
      · exact h.setText n fun _ => none
      · exact h
    · exact h
  rw [duePosition_eq]
  exact text (seeTeller (service (openTime (window (hold h)))))

theorem core_foldl {α : Type} {f : State → α → State} (hf : ∀ (s : State) (a : α), s.Core → (f s a).Core) (l : List α)
    (h : s.Core) : (l.foldl f s).Core := by
  induction l generalizing s with
  | nil => exact h
  | cons a l ih => exact ih (hf s a h)

theorem State.Core.expireId (h : s.Core) (id : Nat) : (s.expireId id).Core :=
  h.of_work (workTo_expireId (touched := fun _ => True) s id (Dct.idTouches_all _ _)) (h.books.expireId id)

theorem State.Core.duePrinter (h : s.Core) (p : Fin 2) : (s.duePrinter p).Core :=
  h.of_print (printTo_duePrinter s p) (h.printer.duePrinter p)

theorem State.Core.dueAll (h : s.Core) : s.dueAll.Core := by
  have quiet : State.Core { s with links := s.links.map LinkRec.dueQuiet } :=
    h.of_same id rfl rfl rfl rfl rfl rfl rfl rfl rfl rfl
  have positions := core_foldl (fun _ n h => State.Core.duePosition h n) (List.finRange 8) quiet
  unfold State.dueAll
  dsimp only
  generalize (List.finRange 8).foldl State.duePosition { s with links := s.links.map LinkRec.dueQuiet } = u at positions ⊢
  have entries : u.dueEntries.Core := core_foldl (fun _ id h => State.Core.expireId h id) _ positions
  have printers := (entries.duePrinter 0).duePrinter 1
  exact printers.of_uplink (uplinkTo_dueUplink _) printers.uplink.dueUplink

theorem State.Core.tick (h : s.Core) : s.tick.Core := by
  have advanced := h.advanceClock
  unfold State.tick State.whenAlive
  split
  · exact advanced.countAll.dueAll.settle
  · exact advanced

end

end Sys2Proof.Machine
end

section
/-! PROOF. Displays and lamps stay composed of the rest, a RESTART's reset stays pending only behind its own reply, and every
step keeps a sound state. -/

namespace Sys2Proof.Machine

section
variable {s t : State}

/-! ### Composed displays (03 R48, 09 R165 to R176) -/

/-- Composing reads neither the links, the clock nor the uplink, and of the windows neither brightness nor lit lamp. -/
theorem State.ComposedLaw.of_read (h : s.ComposedLaw) (alive : t.alive = true → s.alive = true)
    (positions : t.positions = s.positions) (pbu : t.pbu = s.pbu) (day : t.day.state = s.day.state)
    (digits : t.day.minorDigits = s.day.minorDigits) (settings : t.settings = s.settings) (high : t.cash.high = s.cash.high)
    (windows : ∀ m, ∃ c x, t.window m = { s.window m with current := c, lamp := x }) : t.ComposedLaw := by
  intro on
  obtain ⟨idle, composed⟩ := (settle_eq_self_iff (alive on)).1 (h (alive on))
  have pos (n : Fin 8) : t.pos n = s.pos n := congrArg (fun v => v.get n) positions
  refine (settle_eq_self_iff on).2 ⟨fun n => ?_, fun m => ?_⟩
  · rw [pos, settings]
    exact idle n
  · obtain ⟨c, x, window⟩ := windows m
    exact settleWindow_congr (pos m) pbu window day digits settings high (composed m)

theorem State.ComposedLaw.of_same (h : s.ComposedLaw) (alive : t.alive = true → s.alive = true)
    (positions : t.positions = s.positions) (pbu : t.pbu = s.pbu) (day : t.day.state = s.day.state)
    (digits : t.day.minorDigits = s.day.minorDigits) (settings : t.settings = s.settings) (high : t.cash.high = s.cash.high)
    (windows : t.windows = s.windows) : t.ComposedLaw :=
  h.of_read alive positions pbu day digits settings high fun m => ⟨_, _, congrArg (fun v => v.get m) windows⟩

theorem composed_of_dead (dead : s.alive = false) : s.ComposedLaw := fun on => absurd (dead.symm.trans on) Bool.false_ne_true

theorem composed_settle (s : State) : s.settle.ComposedLaw := fun _ => settle_settle s

theorem composed_whenAlive {f : State → State} (h : s.ComposedLaw) (run : s.alive = true → (f s).ComposedLaw) :
    (s.whenAlive f).ComposedLaw := by
  cases alive : s.alive
  · rw [whenAlive_dead _ alive]
    exact h
  · rw [whenAlive_alive _ alive]
    exact run alive

theorem State.ComposedLaw.onLink (h : s.ComposedLaw) (l : Link) (f : LinkRec → LinkRec) : (s.onLink l f).ComposedLaw :=
  h.of_same id rfl rfl rfl rfl rfl rfl rfl

theorem State.ComposedLaw.of_uplink (h : s.ComposedLaw) (w : s.UplinkTo t) : t.ComposedLaw :=
  h.of_same (fun on => by rwa [State.alive_of_supply w.supply] at on) w.positions w.pbu (by rw [w.day]) (by rw [w.day]) w.settings
    (by rw [w.cash]) w.windows

theorem composed_requestWith (h : s.ComposedLaw) (l : Link) (kind tag : Byte) (acting : Bool) (judge : State → Judged) :
    (requestWith l kind tag acting judge s).ComposedLaw :=
  composed_whenAlive h fun _ => composed_settle _

theorem composed_requestFrame (h : s.ComposedLaw) (l : Link) (kind tag : Byte) (body : Bytes) :
    (requestFrame l kind tag body s).ComposedLaw := by
  unfold requestFrame
  split
  · exact composed_requestWith h l _ _ _ _
  · exact composed_requestWith h l _ _ _ _

theorem composed_receiveByte (h : s.ComposedLaw) (l : Link) (b : Byte) : (receiveByte l b s).ComposedLaw := by
  have received := h.onLink l fun _ => (s.link l).byte b
  unfold receiveByte
  dsimp only
  split
  · unfold completeFrame
    split
    · exact composed_requestFrame received l _ _ _
    · exact received.onLink l _
  · exact received

theorem composed_resetKept (s : State) : s.resetKept.ComposedLaw := by
  rw [resetKept_eq]
  exact fun _ => settle_lit _

theorem State.ComposedLaw.warmRestart (h : s.ComposedLaw) : s.warmRestart.ComposedLaw := by
  unfold State.warmRestart
  split
  · exact composed_resetKept _
  · exact h

theorem State.ComposedLaw.replySent (h : s.ComposedLaw) (l : Link) : (s.replySent l).ComposedLaw := by
  unfold State.replySent
  split
  · exact h.warmRestart
  · exact h.onLink l _

theorem dead_assertReset (s : State) : s.assertReset.alive = false := by
  unfold State.assertReset
  split
  · rw [alive_holdReset]
    simp [State.alive]
  · simp [State.alive]

theorem composed_releaseReset (s : State) : s.releaseReset.ComposedLaw := by
  unfold State.releaseReset
  dsimp only
  split
  · exact composed_resetKept _
  · next off => exact composed_of_dead (by simpa [State.alive] using off)

theorem composed_holdIfAsserted (h : s.ComposedLaw) : s.holdIfAsserted.ComposedLaw := by
  unfold State.holdIfAsserted
  split
  · next line => exact composed_of_dead (by rw [alive_holdReset]; simp [State.alive, line])
  · exact h

theorem composed_powerReturn (s : State) : s.powerReturn.ComposedLaw := by
  rw [powerReturn_eq]
  refine composed_holdIfAsserted ?_
  split
  · exact composed_resetKept _
  · exact (sound_cold ..).composed

theorem State.ComposedLaw.backupLow (h : s.ComposedLaw) : s.backupLow.ComposedLaw := by
  unfold State.backupLow
  split
  · exact h
  · exact h.of_same id rfl rfl rfl rfl rfl rfl rfl

theorem State.ComposedLaw.eightHz (h : s.ComposedLaw) (phase : Nat) : (s.eightHz phase).ComposedLaw := by
  have phased : State.ComposedLaw { s with day := { s.day with phase := phase } } :=
    h.of_same id rfl rfl rfl rfl rfl rfl rfl
  refine composed_whenAlive phased fun _ => phased.of_read id rfl rfl rfl rfl rfl rfl fun m => ?_
  exact ⟨stepToward (s.window m).target (s.window m).current, (s.window m).pattern.output phase, Vec.get_map _ _ _⟩

theorem State.ComposedLaw.eightHzTick (h : s.ComposedLaw) : s.eightHzTick.ComposedLaw := by
  unfold State.eightHzTick
  split
  · exact h.eightHz _
  · refine State.ComposedLaw.eightHz (s := { s with day := { s.day with hundredths := _ } }) ?_ _
    exact h.of_same id rfl rfl rfl rfl rfl rfl rfl

/-- Only a powered, released part is composed after a hundredth, and then at its very end. -/
theorem composed_tick (s : State) : s.tick.ComposedLaw := by
  unfold State.tick State.whenAlive
  split
  · exact composed_settle _
  · next off => exact composed_of_dead (Bool.eq_false_iff.2 off)

theorem composed_row (row : s.Row t) (h : s.ComposedLaw) : t.ComposedLaw := by
  have onReceiver (l : Link) (f : LinkRec → LinkRec) : (s.whenAlive fun s => s.onLink l f).ComposedLaw :=
    composed_whenAlive h fun _ => h.onLink l f
  cases row with
  | byte l b => exact composed_whenAlive h fun _ => composed_receiveByte h l b
  | abandon l => exact onReceiver l _
  | gap l => exact onReceiver l _
  | silent l => exact onReceiver l _
  | replySent l => exact composed_whenAlive h fun _ => h.replySent l
  | unknown l kind tag => exact composed_requestWith h l _ _ _ _
  | request l k tag body => exact composed_requestWith h l _ _ _ _
  | happening => exact composed_whenAlive h fun _ => composed_settle _
  | uplink event => exact composed_whenAlive h fun _ => h.of_uplink (uplinkHappening_uplinkTo event s)
  | senseInput n level dead => exact composed_of_dead dead
  | bookInput p level dead => exact composed_of_dead dead
  | warmRestart => exact composed_whenAlive h fun _ => h.warmRestart
  | assertReset => exact composed_of_dead (dead_assertReset s)
  | releaseReset => exact composed_releaseReset s
  | powerFail => exact composed_of_dead rfl
  | powerAbsent => exact h
  | backupLow => exact h.backupLow
  | powerReturn => exact composed_powerReturn s
  | oneHz => exact h.of_same id rfl rfl rfl rfl rfl rfl rfl
  | eightHz => exact h.eightHzTick

/-! ### A RESTART's reset pending (02 R34) -/

/-- A reset stays pending where the supply stands and SL's request in work stays so. -/
theorem State.RestartLaw.of_work (h : s.RestartLaw) (supply : t.supply = s.supply)
    (work : s.supply.restartPending = true → (s.link .sl).inWork = true → (t.link .sl).inWork = true) : t.RestartLaw := by
  intro pending
  rw [supply] at pending
  obtain ⟨alive, inWork⟩ := h pending
  exact ⟨(State.alive_of_supply supply).trans alive, work pending inWork⟩

/-- A powered part in which a reset becomes pending has SL's request in work. -/
theorem State.RestartLaw.of_plain (h : s.RestartLaw) (alive : s.alive = true) (w : s.PlainTo t) : t.RestartLaw := by
  intro pending
  refine ⟨w.power.trans alive, (w.line .sl).2.trans ?_⟩
  rcases w.restart pending with before | inWork
  · exact (h before).2
  · exact inWork

theorem restart_of_clear (clear : s.supply.restartPending = false) : s.RestartLaw :=
  fun pending => absurd (clear.symm.trans pending) Bool.false_ne_true

theorem restart_whenAlive {f : State → State} (h : s.RestartLaw) (run : s.alive = true → (f s).RestartLaw) :
    (s.whenAlive f).RestartLaw := by
  cases alive : s.alive
  · rw [whenAlive_dead _ alive]
    exact h
  · rw [whenAlive_alive _ alive]
    exact run alive

/-- A link's record changed in a way that leaves no request in work behind. -/
theorem State.RestartLaw.onLink (h : s.RestartLaw) (l : Link) {f : LinkRec → LinkRec}
    (work : s.supply.restartPending = true → l = .sl → (s.link l).inWork = true → (f (s.link l)).inWork = true) :
    (s.onLink l f).RestartLaw := by
  refine h.of_work rfl fun pending inWork => ?_
  by_cases e : l = .sl
  · subst e
    rw [State.link_onLink_self]
    exact work pending rfl inWork
  · rwa [State.link_onLink_ne _ _ (Ne.symm e)]

theorem restart_requestWith (h : s.RestartLaw) {l : Link} (kind tag : Byte) (acting : Bool) {judge : State → Judged}
    (judged : Gives (s.accept l).PlainTo (judge (s.accept l))) : (requestWith l kind tag acting judge s).RestartLaw := by
  cases alive : s.alive
  · rw [requestWith_dead alive]
    exact h
  have composed {u : State} (power : u.alive = true) (law : u.RestartLaw) : u.settle.RestartLaw :=
    law.of_plain power (plainTo_settle u)
  cases inWork : (s.link l).inWork
  · have on : (s.accept l).alive = true := (plainTo_arrive s l).power.trans alive
    have accepted : (s.accept l).RestartLaw := (h.of_plain alive (plainTo_arrive s l)).onLink l fun _ _ _ => rfl
    cases hj : judge (s.accept l) with
    | error c =>
      rw [requestWith_error ⟨alive, inWork⟩ hj]
      exact composed on (accepted.onLink l fun _ _ w => w)
    | ok r =>
      rw [requestWith_ok ⟨alive, inWork⟩ hj]
      have work : (s.accept l).PlainTo (if acting then r.state.recordTag l tag else r.state) :=
        (judged r hj).trans (.ite (fun _ => plainTo_recordTag _ _ _) fun _ => .refl _)
      exact composed (work.power.trans on) ((accepted.of_plain on work).onLink l fun _ _ w => w)
  · rw [requestWith_busy alive inWork]
    have arrived := h.of_plain alive (plainTo_arrive s l)
    refine composed ((plainTo_arrive s l).power.trans alive) (arrived.onLink l fun _ _ w => ?_)
    split
    · exact w
    · exact w

theorem restart_requestFrame (h : s.RestartLaw) (l : Link) (kind tag : Byte) (body : Bytes) :
    (requestFrame l kind tag body s).RestartLaw := by
  unfold requestFrame
  split
  · exact restart_requestWith h _ _ _ (gives_judgeRequest body)
  · exact restart_requestWith h _ _ _ (.error _)

theorem restart_receiveByte (h : s.RestartLaw) (l : Link) (b : Byte) : (receiveByte l b s).RestartLaw := by
  have received : (s.onLink l fun _ => (s.link l).byte b).RestartLaw :=
    h.onLink l fun _ _ w => (LinkRec.sameReplies_byte b _).2.1.trans w
  unfold receiveByte
  dsimp only
  split
  · unfold completeFrame
    split
    · exact restart_requestFrame received l _ _ _
    · exact received.onLink l fun _ _ w => w
  · exact received

theorem restart_resetKept (s : State) : s.resetKept.RestartLaw := restart_of_clear (by rw [supply_resetKept])

theorem State.RestartLaw.warmRestart (h : s.RestartLaw) : s.warmRestart.RestartLaw := by
  unfold State.warmRestart
  split
  · exact restart_resetKept _
  · exact h

/-- A reply that is not the accepted request's own ends no request's work. -/
theorem LinkRec.inWork_replySent {r : LinkRec} (h : r.ownFirst = false) : r.replySent.inWork = r.inWork := by
  cases queue : r.transmit with
  | nil => rw [LinkRec.replySent_nil queue]
  | cons a rest =>
    rw [LinkRec.ownFirst_cons queue] at h
    rw [LinkRec.replySent_cons queue]
    simp [h]

theorem State.RestartLaw.replySent (h : s.RestartLaw) (l : Link) : (s.replySent l).RestartLaw := by
  unfold State.replySent
  split
  · exact h.warmRestart
  · next plain =>
    refine h.onLink l fun pending sl w => ?_
    subst sl
    exact (LinkRec.inWork_replySent (Bool.eq_false_iff.2 fun own => plain ⟨rfl, pending, own⟩)).trans w

/-- Without main power no reset is pending. -/
theorem State.RestartLaw.clear (h : s.RestartLaw) (off : ¬s.supply.mainPower = true) : s.supply.restartPending = false := by
  refine Bool.eq_false_iff.2 fun pending => off ?_
  have alive := (h pending).1
  simp only [State.alive, Bool.and_eq_true] at alive
  exact alive.1

theorem State.RestartLaw.assertReset (h : s.RestartLaw) : s.assertReset.RestartLaw := by
  unfold State.assertReset
  split
  · exact restart_of_clear rfl
  · next off => exact restart_of_clear (h.clear off)

theorem State.RestartLaw.releaseReset (h : s.RestartLaw) : s.releaseReset.RestartLaw := by
  unfold State.releaseReset
  dsimp only
  split
  · exact restart_resetKept _
  · next off => exact restart_of_clear (h.clear off)

theorem State.RestartLaw.backupLow (h : s.RestartLaw) : s.backupLow.RestartLaw := by
  unfold State.backupLow
  split
  · exact h
  · exact h.of_work rfl fun _ w => w

theorem restart_powerReturn (s : State) : s.powerReturn.RestartLaw := by
  have clear : (if s.powered.day.intact then s.powered.powerUp else s.powered.coldStart).supply.restartPending = false := by
    split
    · rw [State.powerUp, supply_resetKept]
    · rfl
  rw [powerReturn_eq]
  generalize (if s.powered.day.intact then s.powered.powerUp else s.powered.coldStart) = u at clear ⊢
  unfold State.holdIfAsserted
  split
  · exact restart_of_clear (s := u.holdReset) clear
  · exact restart_of_clear clear

/-- A clock that has advanced has changed neither the supply nor the links. -/
theorem State.RestartLaw.of_clock (h : s.RestartLaw) (supply : t.supply = s.supply) (links : t.links = s.links) : t.RestartLaw :=
  h.of_work supply fun _ w => by
    unfold State.link
    rw [links]
    exact w

theorem supply_eightHz (s : State) (phase : Nat) : (s.eightHz phase).supply = s.supply ∧ (s.eightHz phase).links = s.links := by
  unfold State.eightHz State.whenAlive
  split <;> exact ⟨rfl, rfl⟩

theorem State.RestartLaw.eightHz (h : s.RestartLaw) (phase : Nat) : (s.eightHz phase).RestartLaw :=
  h.of_clock (supply_eightHz s phase).1 (supply_eightHz s phase).2

theorem State.RestartLaw.eightHzTick (h : s.RestartLaw) : s.eightHzTick.RestartLaw := by
  unfold State.eightHzTick
  split
  · exact h.eightHz _
  · refine State.RestartLaw.eightHz (s := { s with day := { s.day with hundredths := _ } }) ?_ _
    exact h.of_clock rfl rfl

theorem State.RestartLaw.advanceClock (h : s.RestartLaw) : s.advanceClock.RestartLaw := by
  unfold State.advanceClock
  dsimp only
  generalize (if s.day.hundredths < 99 then s.day.hundredths + 1 else 0) = k
  have ticked : (if k = 0 then State.oneHz { s with day := { s.day with hundredths := k } }
      else { s with day := { s.day with hundredths := k } }).RestartLaw := by
    split
    · exact h.of_clock rfl rfl
    · exact h.of_clock rfl rfl
  split
  · exact ticked.eightHz _
  · exact ticked

theorem State.RestartLaw.tick (h : s.RestartLaw) : s.tick.RestartLaw :=
  restart_whenAlive h.advanceClock fun on =>
    h.advanceClock.of_plain on (((plainTo_countAll _).trans (plainTo_dueAll _)).trans (plainTo_settle _))

theorem restart_row (row : s.Row t) (h : s.RestartLaw) : t.RestartLaw := by
  have onReceiver {l : Link} {f : LinkRec → LinkRec} (hf : (s.link l).SameReplies (f (s.link l))) :
      (s.whenAlive fun s => s.onLink l f).RestartLaw :=
    restart_whenAlive h fun _ => h.onLink l fun _ _ w => hf.2.1.trans w
  cases row with
  | byte l b => exact restart_whenAlive h fun _ => restart_receiveByte h l b
  | abandon l => exact onReceiver (LinkRec.sameReplies_abandon _)
  | gap l => exact onReceiver (LinkRec.sameReplies_gap _)
  | silent l => exact onReceiver (LinkRec.sameReplies_silent _)
  | replySent l => exact restart_whenAlive h fun _ => h.replySent l
  | unknown l kind tag => exact restart_requestWith h _ _ _ (.error _)
  | request l k tag body => exact restart_requestWith h _ _ _ (gives_judgeRequest body)
  | happening event =>
    exact restart_whenAlive h fun on => h.of_plain on ((happening_plainTo event s).trans (plainTo_settle _))
  | uplink event => exact restart_whenAlive h fun on => h.of_plain on (uplinkHappening_uplinkTo event s).plain
  | senseInput n level dead => exact h.of_work rfl fun _ w => w
  | bookInput p level dead => exact h.of_work rfl fun _ w => w
  | warmRestart => exact restart_whenAlive h fun _ => h.warmRestart
  | assertReset => exact h.assertReset
  | releaseReset => exact h.releaseReset
  | powerFail => exact restart_of_clear rfl
  | powerAbsent => exact h
  | backupLow => exact h.backupLow
  | powerReturn => exact restart_powerReturn s
  | oneHz => exact h.of_clock rfl rfl
  | eightHz => exact h.eightHzTick

/-! ### Every row -/

theorem State.Core.whenAlive {f : State → State} (h : s.Core) (run : (f s).Core) : (s.whenAlive f).Core := by
  unfold State.whenAlive
  split
  · exact run
  · exact h

/-- A sensor's level read while the part takes no event. -/
theorem State.Core.senseInput (h : s.Core) (n : Fin 8) (level : Sensor) :
    (s.onPos n fun p => { p with input := level }).Core := by
  have read := workTo_onPos (touched := (· = n)) s (fun p => { p with input := level }) rfl fun l => l
  exact h.of_work read (h.books.onPosWatch read (fun _ => ⟨rfl, rfl, rfl, rfl⟩) (fun w => w) fun r => r)

theorem State.Core.bookInput (h : s.Core) (p : Fin 2) (level : Bool) :
    (s.onPrinter p fun r => { r with input := level }).Core :=
  h.of_print (printTo_onPrinter s p _) (h.printer.onPrinter (Or.inr rfl) (h.printer.1 p))

theorem core_row (row : s.Row t) (h : s.Core) : t.Core := by
  cases row with
  | byte l b => exact h.whenAlive (core_receiveByte h l b)
  | abandon l => exact h.whenAlive (h.onLink l _)
  | gap l => exact h.whenAlive (h.onLink l _)
  | silent l => exact h.whenAlive (h.onLink l _)
  | replySent l => exact h.whenAlive (h.replySent l)
  | unknown l kind tag => exact core_unknownRequest h l kind tag
  | request l k tag body => exact core_request h l k tag body
  | happening event => exact h.whenAlive (happening_core event h).settle
  | uplink event => exact h.whenAlive (uplinkHappening_core event h)
  | senseInput n level => exact h.senseInput n level
  | bookInput p level => exact h.bookInput p level
  | warmRestart => exact h.whenAlive h.warmRestart
  | assertReset => exact h.assertReset
  | releaseReset => exact h.releaseReset
  | powerFail => exact h.powerFail
  | powerAbsent => exact h
  | backupLow => exact h.backupLow
  | powerReturn => exact h.powerReturn
  | oneHz => exact (h.setHundredths 0).oneHz
  | eightHz => exact h.eightHzTick

theorem sound_tick (h : s.Sound) : s.tick.Sound :=
  h.core.tick.sound ((plainTo_tick s).plainLaws h.plainLaws) h.restart.tick (composed_tick s)

theorem sound_row (row : s.Row t) (h : s.Sound) : t.Sound :=
  (core_row row h.core).sound (plainLaws_row row h.plainLaws) (restart_row row h.restart) (composed_row row h.composed)

/-- Nothing that is sound depends on the commands still queued. -/
theorem sound_queue (h : s.Sound) (rest : List Instr) : State.Sound { s with pending := rest } :=
  State.Core.sound (h.core.of_same id rfl rfl rfl rfl rfl rfl rfl rfl rfl rfl) h.plainLaws h.restart
    (h.composed.of_same id rfl rfl rfl rfl rfl rfl rfl)

end

end Sys2Proof.Machine

open Sys2Proof Sys2Proof.Machine

/-- Settles O60: an idle hundredth, and every row run on the queue's rest, keeps a sound state. -/
theorem everyStepKeepsASoundState : Obligations.EveryStepKeepsASoundState := by
  intro s t sound h
  obtain rfl | ⟨rest, row⟩ := step_cases h
  · exact sound_tick sound
  · exact sound_row row (sound_queue sound rest)
end

section
/-! PROOF. Ticks, the supply and the reset line, and what a part that takes no event takes (02 R24, R25, R30 to R32, R34,
09 R173, R175, R177). -/

namespace Sys2Proof.Machine

/-! ### The ticks (02 R24, R25, 09 R173, R175) -/

/-- The phase of a count is the number of the ticks after the first that it has reached. -/
theorem phaseOf_eq (count : Nat) :
    phaseOf count = ([12, 25, 37, 50, 62, 75, 87].filter (fun k => decide (k ≤ count))).length := by
  simp [phaseOf, tickCounts]

theorem Window.tick_eq (phase : Nat) (w : Window) :
    w.tick phase = { w with
      current := if w.current < w.target then w.current + 1 else if w.target < w.current then w.current - 1 else w.current
      lamp := w.pattern.output phase } := rfl

theorem eightHz_eq (s : State) (phase : Nat) :
    s.eightHz phase = { s with
      day := { s.day with phase := phase }
      windows := if s.alive then s.windows.map (Window.tick phase) else s.windows } := by
  have alive : State.alive { s with day := { s.day with phase := phase } } = s.alive := rfl
  unfold State.eightHz State.whenAlive
  rw [alive]
  split <;> rfl

/-! ### A part that takes no event (02 R32) -/

/-- Every command but the world's own is a request or an event, and a part that takes none stands. -/
theorem exec_dead {c : Instr} {s : State} (dead : s.alive = false) (inside : outsideCommand c = false) : exec c s = .next s := by
  cases c
  case resetLineAsserted | warmLine | mainPowerFail | backupLow | mainPowerReturn | oneHzTick | eightHzTick
    | sensorInputChange | insertion | removal => cases inside
  case unknownKind | takeNotices | statusTeller | statusSupervisor | cutoff | reopenDay | send | resend | config | restart
    | signOn | openTxn | closeTxn | away | unlock | signOff | forceSignOff | readPosition | post | void | readCashTeller
    | readCashSupervisor | propose | confirm | decline | withdraw | beginBalance | declare | forceBalance | reopen
    | vaultDeclare | readProfile | readJournal | printBook | cancelPrint | printerServiceOffline | printerServiceOnline
    | printerServiceClear | showText => exact congrArg Host.Outcome.next (requestWith_dead dead)
  all_goals exact congrArg Host.Outcome.next (whenAlive_dead _ dead)

/-! ### The supply and the reset line (02 R30 to R32, R34, 09 R177) -/

theorem powerReturn_clear {s : State} (h : s.day.intact = false) :
    s.powerReturn = if s.supply.resetLine then s.coldStart.holdReset else s.coldStart := by
  simp only [State.powerReturn, h]
  rfl

end Sys2Proof.Machine

open Sys2Proof Sys2Proof.Machine

/-- Settles O54: a tick of either kind is its definition, the phase counted from the first of the eight ticks. -/
theorem ticksAdvanceClockRampsAndLamps : Obligations.TicksAdvanceClockRampsAndLamps := by
  intro s reached phase lit ticked
  have at_count : phaseOf s.day.hundredths = reached := phaseOf_eq _
  have lit_eq (p : Pattern) : p.output phase = lit p := by cases p <;> rfl
  have ticked_eq : Window.tick phase = ticked := funext fun w => by rw [Window.tick_eq, lit_eq]
  refine ⟨rfl, congrArg Host.Outcome.next ?_⟩
  unfold State.eightHzTick
  rw [at_count]
  by_cases next : reached = s.day.phase
  · have hp : (s.day.phase + 1) % 8 = phase := (if_pos next).symm
    simp only [next, ne_eq, not_true_eq_false, if_false, if_true, hp, eightHz_eq, ticked_eq, List.getD_eq_getElem?_getD]
    rfl
  · have hp : reached = phase := (if_neg next).symm
    rw [if_pos next, hp, eightHz_eq, ticked_eq, ← hp, if_neg next]

/-- Settles O3: what is not the world's own command does nothing, and a sensor's level is its input alone. -/
theorem heldPartTakesNothing : Obligations.HeldPartTakesNothing := by
  intro s dead
  refine ⟨fun c inside => exec_dead dead inside, fun n level => ?_, fun p => ⟨?_, ?_⟩⟩
  · simp only [exec, execSensorInputChange, dead]
    rfl
  · simp only [exec, execInsertion, State.bookEvent, dead]
    rfl
  · simp only [exec, execRemoval, State.bookEvent, dead]
    rfl

/-- Settles O55: each row by the supply as it stands; the COLD state's items are those of its definition. -/
theorem supplyAndResetLine : Obligations.SupplyAndResetLine := by
  intro s held cold
  refine ⟨fun on => ?_, fun off => ⟨?_, ?_⟩, fun on => ?_, fun off => ?_, fun on => ?_, fun off => ?_, fun clear line => ?_,
    fun clear line => ?_, ?_⟩
  · simp only [exec, execResetLineAsserted, State.assertReset, on]
    rfl
  · simp only [exec, execResetLineAsserted, State.assertReset, off]
    rfl
  · simp only [exec, execWarmLine, State.releaseReset, off]
    rfl
  · simp only [exec, execMainPowerFail, on]
    rfl
  · simp only [exec, execMainPowerFail, off]
    rfl
  · simp only [exec, execBackupLow, State.backupLow, on]
    rfl
  · simp only [exec, execBackupLow, State.backupLow, off]
    rfl
  · simp only [exec, execMainPowerReturn, powerReturn_clear clear, line]
    rfl
  · simp only [exec, execMainPowerReturn, powerReturn_clear clear, line]
    rfl
  · refine ⟨rfl, rfl, rfl, rfl, rfl, rfl, rfl, rfl, rfl, fun n => ?_, rfl, rfl, rfl, rfl, rfl, rfl, rfl, fun p => ?_,
      fun l k => ?_⟩
    · rw [show cold.pos n = _ from pos_cold .., show cold.drawer n = _ from drawer_cold ..]
      exact ⟨rfl, rfl, rfl, rfl, Vec.get_fill _ _⟩
    · rw [show cold.printer p = _ from printer_cold ..]
      rfl
    · rw [show cold.link l = _ from link_cold ..]
      exact restartedOnly_get k
end

section
/-! PROOF. An answered request and an event in one lemma each (01 R5 to R12): what the change itself makes, and the reply and
the composing of the displays that follow it. -/

namespace Sys2Proof.Machine

/-! ### A change before its displays are composed -/

/-- From `s` to `t`, before the displays are composed, what `c` names has changed and nothing else. -/
structure State.Makes (s t : State) (c : Change) : Prop where
  alive : t.alive = s.alive
  keeps : s.Keeps t c
  notes : s.Notes t c
  line : ∀ l, s.SameLink t l
  cores : ∀ m, m ∉ c.positions → (t.pos m).core = (s.pos m).core
  lamps : ∀ m, (t.window m).pattern = (s.window m).pattern ∧ (t.window m).lamp = (s.window m).lamp

/-- A change of parts and notices alone. -/
theorem State.Makes.of_parts {s t : State} {c : Change} (pending : t.pending = s.pending) (alive : t.alive = s.alive)
    (positions : t.positions = s.positions) (windows : t.windows = s.windows) (parts : ∀ p, p ∉ c.parts → s.SamePart t p)
    (notes : s.Notes t c) (line : ∀ l, s.SameLink t l) : s.Makes t c where
  alive := alive
  keeps := ⟨pending, parts, fun m _ => by simp only [State.SameLayers, State.window, windows, and_self]⟩
  notes := notes
  line := line
  cores m _ := by simp only [State.pos, positions]
  lamps m := by simp only [State.window, windows, and_self]

theorem State.Makes.refl (s : State) : s.Makes s {} :=
  .of_parts rfl rfl rfl rfl (fun p _ => by cases p <;> rfl) (fun _ _ => (Bool.or_false _).symm) fun _ => rfl

/-- A lamp's output is new only where its pattern is. -/
theorem shows_settle_of_lamps {s u : State} (alive : u.alive = true)
    (lamps : ∀ m, (u.window m).pattern = (s.window m).pattern ∧ (u.window m).lamp = (s.window m).lamp) : s.Shows u.settle := by
  refine ⟨settle_settle u, fun m => ?_⟩
  obtain ⟨pattern, lamp⟩ := lamps m
  have window : u.settleIdle.window m = u.window m := rfl
  simp only [window_settle alive, State.settleWindow, window, pattern, lamp, State.day_settle, State.day_settleIdle]

/-- An event is what it makes, composed. -/
theorem State.Makes.event {s t : State} {c : Change} (h : s.Makes t c) (alive : s.alive = true) : s.Event t.settle c := by
  obtain ⟨pending, parts, layers⟩ := h.keeps
  refine ⟨keeps_settle c pending parts layers, fun l k => ?_, fun l => ?_, fun m hm => ?_,
    shows_settle_of_lamps (h.alive.trans alive) h.lamps⟩
  · rw [link_settle]
    exact h.notes l k
  · rw [State.SameLink, link_settle]
    exact h.line l
  · rw [core_settle]
    exact h.cores m hm

/-- The tag and the reply of a request taken, as one change of its link. -/
theorem reply_recordTag (u : State) (l : Link) (kind tag : Byte) (acting : Bool) (code : Code) (rest : Bytes) :
    (if acting then u.recordTag l tag else u).reply l kind tag code rest =
      u.onLink l fun r => LinkRec.place kind tag code rest true { r with lastTag := if acting then some tag else r.lastTag } := by
  cases acting
  · rfl
  · simp only [if_true, State.recordTag, State.reply, State.onLink_onLink]

theorem notices_reply (u : State) (l j : Link) (kind tag : Byte) (code : Code) (rest : Bytes) (lastTag : LinkRec → Option Byte) :
    ((u.onLink l fun r => LinkRec.place kind tag code rest true { r with lastTag := lastTag r }).link j).notices =
      (u.link j).notices := by
  by_cases h : j = l
  · subst h
    rw [State.link_onLink_self]
    rfl
  · rw [State.link_onLink_ne _ _ h]

theorem notices_accept (s : State) (l j : Link) : ((s.accept l).link j).notices = (s.link j).notices := by
  by_cases h : j = l
  · subst h
    rw [link_accept_self]
  · rw [link_accept_ne _ h]

/-- A request that its judgement takes is answered with the code and body that the judgement gives, and changes what the
judgement makes. -/
theorem State.Makes.answered {l : Link} {kind tag : Byte} {acting : Bool} {judge : State → Judged} {s u : State} {code : Code}
    {rest : Bytes} {c : Change} (h : (s.accept l).Makes u c) (accepts : s.Accepts l)
    (judged : judge (s.accept l) = .ok ⟨u, code, rest⟩) :
    s.Answered (requestWith l kind tag acting judge s) l kind tag acting code rest c := by
  rw [requestWith_ok accepts judged, reply_recordTag]
  obtain ⟨pending, parts, layers⟩ := h.keeps
  have alive : u.alive = true := by rw [h.alive, alive_accept, accepts.1]
  refine ⟨keeps_settle c (pending.trans (by simp)) (fun p hp => ?_) (fun m hm => ?_), fun j k => ?_, ?_, fun j hj => ?_,
    fun m hm => ?_, shows_settle_of_lamps alive fun m => ?_⟩
  · have kept := parts p hp
    cases p <;> simpa [State.SamePart] using kept
  · have kept := layers m hm
    simpa [State.SameLayers, State.window] using kept
  · rw [link_settle, notices_reply, h.notes j k, notices_accept]
  · have own : u.link l = { (s.accept l).link l with notices := (u.link l).notices } := h.line l
    rw [link_accept_self] at own
    rw [State.Replied, link_settle, State.link_onLink_self]
    refine Eq.trans (congrArg (fun r : LinkRec => LinkRec.place kind tag code rest true
      { r with lastTag := if acting then some tag else r.lastTag }) own) ?_
    rfl
  · have other : u.link j = { (s.accept l).link j with notices := (u.link j).notices } := h.line j
    rw [link_accept_ne _ hj] at other
    rw [State.SameLink, link_settle, State.link_onLink_ne _ _ hj]
    exact other
  · rw [core_settle, State.pos_onLink, h.cores m hm, ← core_arrive]
    rfl
  · simpa [State.window] using h.lamps m

/-- A request that passes the checks of role and length is the owning block's to judge. -/
theorem judgeRequest_passed {l : Link} {k : Kind} {body : Bytes} (role : k.allows l = true) (length : k.admits l body.length = true)
    (handler : State → Judged) (s : State) : judgeRequest l k body handler s = handler s := by
  rw [judgeRequest, check_pos role, check_pos length]

/-! ### DAY-CHANGED on all nine links (02 R16) -/

theorem contains_everywhere (j k : Notice) (l : Link) : (everywhere j).contains (k, l) = decide (k = j) := by
  rw [Bool.eq_iff_iff, List.contains_iff_mem, decide_eq_true_eq]
  cases l <;> simp [everywhere, eq_comm]

theorem notices_flag (r : LinkRec) (j k : Notice) : (r.flag j).notices.get k.idx = (r.notices.get k.idx || decide (k = j)) := by
  rw [LinkRec.flag, Vec.get_set]
  by_cases h : k = j
  · simp [h]
  · simp [h, show ¬k.idx = j.idx from fun e => h (Notice.idx_inj e)]

/-- A day that moves changes what it names and tells every link. -/
theorem State.Makes.of_dayChanged {s t : State} {parts : List Part} (pending : t.pending = s.pending) (alive : t.alive = s.alive)
    (positions : t.positions = s.positions) (windows : t.windows = s.windows) (same : ∀ p, p ∉ parts → s.SamePart t p)
    (links : t.links = s.notifyDayChanged.links) : s.Makes t { parts := parts, notices := everywhere .dayChanged } := by
  have link (l : Link) : t.link l = (s.link l).flag .dayChanged := by
    rw [← link_notifyDayChanged]
    simp only [State.link, links]
  refine .of_parts pending alive positions windows same (fun l k => ?_) fun l => ?_
  · rw [link, notices_flag, contains_everywhere]
  · rw [State.SameLink, link]
    rfl

/-! ### A request by its owning block's answer -/

/-- A request of the right role and length that its owning block refuses. -/
theorem refuses_request {l : Link} {k : Kind} {tag : Byte} {body : Bytes} {handler : State → Judged} {s : State} {code : Code}
    (accepts : s.Accepts l) (role : k.allows l = true) (length : k.admits l body.length = true)
    (h : handler (s.accept l) = .error code) : s.Refused (request l k tag body handler s) l k.byte tag code :=
  refused_of_error accepts ((judgeRequest_passed role length handler _).trans h)

/-- A request of the right role and length that its owning block takes: its answer, and the parts of the state it gives. -/
theorem State.Makes.request {l : Link} {k : Kind} {tag : Byte} {body : Bytes} {handler : State → Judged} {s u : State} {code : Code}
    {rest : Bytes} {c : Change} (h : (s.accept l).Makes u c) (accepts : s.Accepts l) (role : k.allows l = true)
    (length : k.admits l body.length = true) (taken : handler (s.accept l) = .ok ⟨u, code, rest⟩) :
    s.Answered (request l k tag body handler s) l k.byte tag k.acting code rest c ∧
      ∀ p, u.SamePart (request l k tag body handler s) p := by
  have judged : judgeRequest l k body handler (s.accept l) = .ok ⟨u, code, rest⟩ :=
    (judgeRequest_passed role length handler _).trans taken
  refine ⟨h.answered accepts judged, fun p => ?_⟩
  rw [Sys2Proof.Machine.request, requestWith_ok accepts judged, reply_recordTag]
  cases p <;> simp [State.SamePart]

end Sys2Proof.Machine
end

section
/-! PROOF. CUTOFF, REOPEN-DAY and RESTART, and the supervisor's STATUS (02 R19, R20, R34, R35). -/

namespace Sys2Proof.Machine

/-! ### The day's requests (02 R19, R20, R34) -/

theorem cutoff_taken {s : State} (h : s.day.state = .opened) : cutoff s = .ok ⟨s.moveDay .cutoff, .ok, []⟩ := check_pos h

theorem reopenDay_cutoff {s : State} (h : s.day.state = .cutoff) : reopenDay s = .ok ⟨s.moveDay .opened, .ok, []⟩ := by
  simp only [reopenDay, h, reduceCtorEq, if_false]
  rfl

theorem reopenDay_rejected {s : State} (h : s.day.state = .rejected) :
    reopenDay s = .ok ⟨s.clearRejection.moveDay .opened, .ok, []⟩ := by
  simp only [reopenDay, h, if_true]
  rfl

/-- A day that moves and nothing else. -/
theorem makes_moveDay (s : State) (d : DayState) :
    s.Makes (s.moveDay d) { parts := [.day], notices := everywhere .dayChanged } :=
  .of_dayChanged rfl rfl rfl rfl (fun p hp => by cases p <;> simp at hp <;> rfl) rfl

/-- A day that moves with its rejection cleared. -/
theorem makes_clearRejection (s : State) (d : DayState) :
    s.Makes (s.clearRejection.moveDay d) { parts := [.day, .jnl], notices := everywhere .dayChanged } :=
  .of_dayChanged rfl rfl rfl rfl (fun p hp => by cases p <;> simp at hp <;> rfl) rfl

/-- A RESTART leaves its reset pending and nothing else. -/
theorem makes_restart (s : State) :
    s.Makes { s with supply := { s.supply with restartPending := true } } { parts := [.supply] } :=
  .of_parts rfl rfl rfl rfl (fun p hp => by cases p <;> simp at hp <;> rfl) (fun _ _ => (Bool.or_false _).symm) fun _ => rfl

/-! ### The fields of a body (11 R199) -/

theorem take_be_append (k n : Nat) (b : Bytes) : (be k n ++ b).take k = be k n :=
  List.take_left' (be_length k n)

/-- The field at the head of a body. -/
theorem field_be (k n : Nat) (b : Bytes) : field (be k n ++ b) 0 k = n % 256 ^ k := by
  rw [field, List.drop_zero, take_be_append, ofBytes_be]

/-- A field behind the head of a body. -/
theorem field_be_add (k n off width : Nat) (b : Bytes) : field (be k n ++ b) (k + off) width = field b off width := by
  rw [field, field, ← List.drop_drop, List.drop_left' (be_length k n)]

/-- A rejection reason's form and its code, one byte each (11 R199). -/
def Rejection.form : Rejection → Nat
  | .none => 0
  | .mismatch => 1
  | .code _ => 2
def Rejection.reason : Rejection → Nat
  | .code c => c
  | .none | .mismatch => 0

theorem Rejection.bytes_eq (r : Rejection) : r.bytes = be 1 r.form ++ be 1 r.reason := by
  cases r <;> rfl

theorem dateBytes_eq (d : Option Date) :
    dateBytes d = be 1 (d.elim 0 Date.day) ++ (be 1 (d.elim 0 Date.month) ++ be 1 (d.elim 0 Date.year)) := by
  cases d <;> rfl

/-- The pairs of id and kind of a list of entries, read back. -/
theorem field_pairs (es : List Entry) (rest : Bytes) {k : Nat} {e : Entry} (h : es[k]? = some e) :
    field ((es.map Entry.pair).flatten ++ rest) (2 * k) 1 = e.id % 256 ∧
      field ((es.map Entry.pair).flatten ++ rest) (2 * k + 1) 1 = e.proposal.num := by
  induction es generalizing k with
  | nil => cases h
  | cons a es ih =>
    simp only [List.map_cons, List.flatten_cons, Entry.pair, List.append_assoc]
    cases k with
    | zero =>
      obtain rfl : a = e := by simpa using h
      refine ⟨field_be 1 _ _, ?_⟩
      rw [show 2 * 0 + 1 = 1 + 0 from rfl, field_be_add, field_be]
      cases a.proposal <;> rfl
    | succ k =>
      rw [show 2 * (k + 1) = 1 + (1 + 2 * k) by omega, show 1 + (1 + 2 * k) + 1 = 1 + (1 + (2 * k + 1)) by omega]
      simp only [field_be_add]
      exact ih (by simpa using h)

theorem length_pairs (es : List Entry) : (es.map Entry.pair).flatten.length = 2 * es.length := by
  induction es with
  | nil => rfl
  | cons a es ih =>
    simp only [List.map_cons, List.flatten_cons, List.length_append, ih, Entry.pair, be_length, List.length_cons]
    omega

theorem tagBytes_eq (t : Option Byte) : tagBytes t = match t with | none => [0, 0] | some k => [1, k] := by
  cases t <;> rfl

/-- A field of a number stands behind the bytes of the numbers before it. -/
theorem field_be_skip {k off : Nat} (n width : Nat) (b : Bytes) (h : k ≤ off) :
    field (be k n ++ b) off width = field b (off - k) width := by
  obtain ⟨d, rfl⟩ := Nat.exists_eq_add_of_le h
  rw [field_be_add, Nat.add_sub_cancel_left]

theorem field_append_add {a : Bytes} {k : Nat} (h : a.length = k) (off width : Nat) (b : Bytes) :
    field (a ++ b) (k + off) width = field b off width := by
  rw [field, field, ← List.drop_drop, List.drop_left' h]

/-- The first 43 bytes of the supervisor's STATUS, up to the number of the entries awaiting SL. -/
def State.statusHead (s : State) : Bytes :=
  be 1 s.day.state.num ++ (be 1 (s.day.date.elim 0 Date.day) ++ (be 1 (s.day.date.elim 0 Date.month) ++
  (be 1 (s.day.date.elim 0 Date.year) ++ (be 1 s.day.rejection.form ++
  (be 1 s.day.rejection.reason ++ (be 3 s.day.seconds ++ (be 1 (boolNum s.day.clockSet) ++
  (be 1 s.day.cause.num ++ (be 1 s.day.warmCount ++ (be 1 (boolNum s.ulc.up) ++ (be 1 (s.printer 0).state.num ++
  (be 1 (faultNum (s.printer 0).fault) ++ (be 1 (s.printer 1).state.num ++ (be 1 (faultNum (s.printer 1).fault) ++
  (be 2 s.jnl.records.length ++ (be 2 s.jnl.customers ++ (be 2 s.jnl.unjournaled ++ (be 1 s.day.minorDigits ++
  (be 5 s.day.postingLimit ++ (be 5 s.day.itemization ++ (be 5 s.day.drawerMax ++ (be 3 s.day.tolerance ++
  be 1 (s.dct.awaiting .sl).length))))))))))))))))))))))

theorem length_statusHead (s : State) : s.statusHead.length = 43 := by
  simp only [State.statusHead, List.length_append, be_length]

/-- STATUS on SL answers its head, the entries awaiting SL and the tag, and changes nothing. -/
theorem statusSupervisor_eq (s : State) :
    statusSupervisor s =
      .ok ⟨s, .ok, s.statusHead ++ (((s.dct.awaiting .sl).map Entry.pair).flatten ++ tagBytes (s.link .sl).lastTag)⟩ := by
  simp only [statusSupervisor, okReply, dateBytes_eq, Rejection.bytes_eq, Printer.serviceBytes, counted, List.length_map,
    State.statusHead, List.append_assoc]

/-- Each number of STATUS's head, read at its place behind those before it. -/
theorem field_statusHead (s : State) (rest : Bytes) :
    let at_ (off width value : Nat) : Prop := field (s.statusHead ++ rest) off width = value % 256 ^ width
    at_ 0 1 s.day.state.num ∧ at_ 1 1 (s.day.date.elim 0 Date.day) ∧ at_ 2 1 (s.day.date.elim 0 Date.month) ∧
    at_ 3 1 (s.day.date.elim 0 Date.year) ∧ at_ 4 1 s.day.rejection.form ∧
    at_ 5 1 s.day.rejection.reason ∧ at_ 6 3 s.day.seconds ∧
    at_ 9 1 (boolNum s.day.clockSet) ∧ at_ 10 1 s.day.cause.num ∧ at_ 11 1 s.day.warmCount ∧ at_ 12 1 (boolNum s.ulc.up) ∧
    at_ 13 1 (s.printer 0).state.num ∧ at_ 14 1 (faultNum (s.printer 0).fault) ∧ at_ 15 1 (s.printer 1).state.num ∧
    at_ 16 1 (faultNum (s.printer 1).fault) ∧ at_ 17 2 s.jnl.records.length ∧ at_ 19 2 s.jnl.customers ∧
    at_ 21 2 s.jnl.unjournaled ∧ at_ 23 1 s.day.minorDigits ∧ at_ 24 5 s.day.postingLimit ∧ at_ 29 5 s.day.itemization ∧
    at_ 34 5 s.day.drawerMax ∧ at_ 39 3 s.day.tolerance ∧ at_ 42 1 (s.dct.awaiting .sl).length := by
  simp only [State.statusHead, List.append_assoc, field_be_skip, field_be, Nat.reduceLeDiff, Nat.reduceSub, and_self]

/-- The date's three bytes are 0 where there is no date. -/
theorem field_statusHead_noDate (s : State) (rest : Bytes) (h : s.day.date = none) :
    field (s.statusHead ++ rest) 1 3 = 0 := by
  simp only [State.statusHead, List.append_assoc, field_be_skip, h, Option.elim_none, Nat.reduceLeDiff, Nat.reduceSub]
  rfl

end Sys2Proof.Machine

open Sys2Proof Sys2Proof.Machine

/-- Settles O12: each request by the check it is taken or refused by, and the one change that it makes. -/
theorem cutoffReopenDayAndRestart : Obligations.CutoffReopenDayAndRestart := by
  intro tag s accepts
  have day : (s.accept .sl).day = s.day := State.day_accept s .sl
  have jnl : (s.accept .sl).jnl = s.jnl := State.jnl_accept s .sl
  refine ⟨fun h => ?_, fun h => ?_, fun h => ?_, fun h => ?_, fun hc hr => ?_, ?_⟩
  · obtain ⟨answered, same⟩ := (makes_moveDay _ _).request (k := .cutoff) (tag := tag) (body := []) accepts rfl rfl (cutoff_taken (day ▸ h))
    exact ⟨_, rfl, answered, (same .day).trans (day ▸ rfl)⟩
  · exact ⟨_, rfl, refuses_request accepts rfl rfl (check_neg (day ▸ h))⟩
  · obtain ⟨answered, same⟩ := (makes_moveDay _ _).request (k := .reopenDay) (tag := tag) (body := []) accepts rfl rfl
      (reopenDay_cutoff (day ▸ h))
    exact ⟨_, rfl, answered, (same .day).trans (day ▸ rfl)⟩
  · obtain ⟨answered, same⟩ := (makes_clearRejection _ _).request (k := .reopenDay) (tag := tag) (body := []) accepts rfl rfl
      (reopenDay_rejected (day ▸ h))
    exact ⟨_, rfl, answered, (same .day).trans (day ▸ rfl), (same .jnl).trans (jnl ▸ rfl)⟩
  · exact ⟨_, rfl, refuses_request accepts rfl rfl (check_neg (day ▸ not_or.2 ⟨hc, hr⟩))⟩
  · obtain ⟨answered, same⟩ := (makes_restart _).request (k := .restart) (tag := tag) (body := []) (handler := restart) accepts rfl rfl rfl
    exact ⟨_, rfl, answered, (same .supply).trans (State.supply_accept s .sl ▸ rfl)⟩

/-- Settles O57: the reply is STATUS's layout, and each field of it is read behind the ones before it. -/
theorem supervisorStatusReturnsTheRecord : Obligations.SupervisorStatusReturnsTheRecord := by
  intro tag s accepts clock parameters records unjournaled entries awaiting
  obtain ⟨-, seconds, -, warm⟩ := clock
  obtain ⟨minor, posting, itemization, ⟨-, drawer⟩, tolerance⟩ := parameters
  have same : (s.accept .sl).statusHead = s.statusHead := by simp [State.statusHead, State.printer]
  have tagged : ((s.accept .sl).link .sl).lastTag = (s.link .sl).lastTag := by rw [link_accept_self]
  have taken := statusSupervisor_eq (s.accept .sl)
  rw [same, tagged, State.dct_accept] at taken
  obtain ⟨answered, -⟩ := (State.Makes.refl (s.accept .sl)).request (k := .status) (tag := tag) (body := []) accepts rfl rfl taken
  refine ⟨_, _, rfl, answered, ?_⟩
  obtain ⟨state, day, month, year, form, reason, time, set, cause, warmth, up, state₀, fault₀, state₁, fault₁, count, customers,
    lost, digits, limit, items, most, close, listed⟩ :=
    field_statusHead s (((s.dct.awaiting .sl).map Entry.pair).flatten ++ tagBytes (s.link .sl).lastTag)
  have cut (n width : Nat) (h : n < 256 ^ width) : n % 256 ^ width = n := Nat.mod_eq_of_lt h
  have flag (b : Bool) : boolNum b % 256 ^ 1 = 1 ↔ b = true := by cases b <;> decide
  have printerNum (r : Printer) : r.state.num % 256 ^ 1 = r.state.num := by cases r.state <;> rfl
  have faultCut (f : Option FaultCause) : faultNum f % 256 ^ 1 = faultNum f := by
    rcases f with _ | f
    · rfl
    · cases f <;> rfl
  have shorter (p : Entry → Bool) : (s.dct.entries.filter p).length ≤ 6 := (List.length_filter_le p _).trans entries
  have fewer : s.jnl.customers ≤ 4096 := (List.length_filter_le _ _).trans records
  simp only [Config.maxAmount] at posting itemization
  simp only [Config.maxTotal] at drawer
  simp only [Config.maxTolerance] at tolerance
  refine ⟨state.trans ?_, fun d hd hday hmonth hyear => ?_, field_statusHead_noDate s _, form.trans ?_, fun c hc hlt => ?_,
    time.trans (cut _ _ (by omega)), set ▸ flag _, cause.trans ?_, warmth.trans (cut _ _ (by omega)), up ▸ flag _, fun p => ?_,
    count.trans (cut _ _ (by omega)), customers.trans (cut _ _ (by omega)), lost.trans (cut _ _ (by omega)),
    digits.trans (cut _ _ (by omega)), limit.trans (cut _ _ (by omega)), items.trans (cut _ _ (by omega)),
    most.trans (cut _ _ (by omega)), close.trans (cut _ _ (by omega)),
    listed.trans (cut _ _ (Nat.lt_of_le_of_lt (shorter _) (by decide))), fun k e he hid => ?_, ?_⟩
  · cases s.day.state <;> rfl
  · rw [day, month, year, hd]
    exact ⟨cut _ _ hday, cut _ _ hmonth, cut _ _ hyear⟩
  · cases s.day.rejection <;> rfl
  · rw [reason, hc]
    exact cut _ _ hlt
  · cases s.day.cause <;> rfl
  · obtain rfl | rfl := fin2_cases p
    · exact ⟨state₀.trans (printerNum _), fault₀.trans (faultCut _)⟩
    · exact ⟨state₁.trans (printerNum _), fault₁.trans (faultCut _)⟩
  · have pair := field_pairs awaiting (tagBytes (s.link .sl).lastTag) he
    rw [show 44 + 2 * k = 43 + (2 * k + 1) by omega, field_append_add (length_statusHead s), field_append_add (length_statusHead s)]
    exact ⟨pair.1.trans (cut _ 1 hid), pair.2⟩
  · have length : (s.statusHead ++ ((s.dct.awaiting .sl).map Entry.pair).flatten).length = 43 + 2 * awaiting.length := by
      rw [List.length_append, length_statusHead, length_pairs]
      rfl
    rw [← List.append_assoc, List.drop_left' length]
    exact tagBytes_eq _
end

section
/-! PROOF. A message's arrival, and the two messages that begin and end a day: DAY-OPEN and the verdict (02 R17, R18, R22,
07 R132, 10 R179, R183, R195). -/

namespace Sys2Proof.Machine

/-! ### Filling touches the uplink alone (10 R186) -/

theorem fillBuffer_frame (s : State) (b : Fin 2) : s.fillBuffer b = { s with ulc := (s.fillBuffer b).ulc } := by
  unfold State.fillBuffer
  split <;> rfl

theorem fillSummary_frame (s : State) : s.fillSummary = { s with ulc := s.fillSummary.ulc } := by
  unfold State.fillSummary
  split <;> rfl

theorem fill_frame (s : State) : s.fill = { s with ulc := s.fill.ulc } := by
  unfold State.fill
  split
  · rw [fillSummary_frame, fillBuffer_frame (s.fillBuffer 0), fillBuffer_frame s]
  · rfl

theorem verdict_produce (u : Ulc) (f : UpFrame) : (u.produce f).verdict = u.verdict := (Ulc.pump_same _).2.2.1

theorem verdict_fillBuffer (s : State) (b : Fin 2) : (s.fillBuffer b).ulc.verdict = s.ulc.verdict := by
  unfold State.fillBuffer
  split
  · exact verdict_produce _ _
  · rfl

theorem verdict_fillSummary (s : State) : s.fillSummary.ulc.verdict = s.ulc.verdict := by
  unfold State.fillSummary
  split
  · exact verdict_produce _ _
  · rfl

theorem verdict_fill (s : State) : s.fill.ulc.verdict = s.ulc.verdict := by
  unfold State.fill
  split
  · rw [verdict_fillSummary, verdict_fillBuffer, verdict_fillBuffer]
  · rfl

/-! ### A message's arrival (10 R179, R183) -/

theorem heard_up {s : State} (h : s.ulc.up = true) :
    s.heard = { s with ulc := { s.ulc with sinceRef := 0, round := none } } := by
  simp only [State.heard, State.linkUp, h, if_true]

theorem heard_down {s : State} (h : s.ulc.up = false) :
    s.heard =
      (State.notify { s with ulc := { s.ulc with up := true, sinceRef := 0, round := none } } .linkChanged .sl).fill := by
  simp only [State.heard, State.linkUp, h, Bool.false_eq_true, if_false]

/-- An arrival touches the uplink, and SL's notices where the link goes UP. -/
theorem heard_frame (s : State) :
    s.heard = { s with links := (if s.ulc.up then s else s.notify .linkChanged .sl).links, ulc := s.heard.ulc } := by
  cases h : s.ulc.up
  · rw [heard_down h, fill_frame]
    rfl
  · rw [heard_up h]
    rfl

/-- Outside a transmission an arrival sets the ping reference, ends the round and brings the link UP, and no more. -/
theorem ulc_heard {s : State} (h : s.ulc.up = true ∨ s.day.state ≠ .sending) :
    s.heard.ulc = { s.ulc with up := true, sinceRef := 0, round := none } := by
  cases up : s.ulc.up
  · have idle : s.day.state ≠ .sending := h.resolve_left (by rw [up]; exact Bool.false_ne_true)
    rw [heard_down up, State.fill, if_neg fun on => idle on.1]
    rfl
  · rw [heard_up up, ← up]

theorem verdict_heard (s : State) : s.heard.ulc.verdict = s.ulc.verdict := by
  cases h : s.ulc.up
  · rw [heard_down h, verdict_fill, State.ulc_notify]
  · rw [heard_up h]

/-- The notices of an arrival. -/
def State.arrivalNotices (s : State) : List (Notice × Link) := if s.ulc.up then [] else [(.linkChanged, .sl)]

theorem notices_heard (s : State) (l : Link) (k : Notice) :
    (s.heard.link l).notices.get k.idx = ((s.link l).notices.get k.idx || s.arrivalNotices.contains (k, l)) := by
  rw [heard_frame, State.arrivalNotices]
  cases s.ulc.up
  · show ((s.notify .linkChanged .sl).link l).notices.get k.idx = _
    rw [notices_notify]
    cases l <;> simp [Notice.carriedBy, List.contains_eq_mem]
  · exact (Bool.or_false _).symm

theorem sameLink_heard (s : State) (l : Link) : s.SameLink s.heard l := by
  rw [heard_frame]
  cases s.ulc.up
  · exact link_notify_frame s .linkChanged .sl l
  · rfl

/-- What an arrival makes, with the uplink then changed as its kind says. -/
theorem makes_heard (s : State) (u : Ulc) :
    s.Makes { s.heard with ulc := u } { parts := [.ulc], notices := s.arrivalNotices } := by
  have frame := heard_frame s
  refine .of_parts (by rw [frame]) (by rw [frame]; rfl) (by rw [frame]) (by rw [frame]) (fun p hp => ?_) (notices_heard s)
    (sameLink_heard s)
  rw [frame]
  cases p <;> simp at hp <;> rfl

/-- What an arrival makes that moves the day besides. -/
theorem makes_heard_moved {s t : State} {parts : List Part} (pending : t.pending = s.pending) (alive : t.alive = s.alive)
    (positions : t.positions = s.positions) (windows : t.windows = s.windows) (same : ∀ p, p ∉ parts → s.SamePart t p)
    (links : t.links = s.heard.notifyDayChanged.links) :
    s.Makes t { parts := parts, notices := everywhere .dayChanged ++ s.arrivalNotices } := by
  have link (l : Link) : t.link l = (s.heard.link l).flag .dayChanged := by
    rw [← link_notifyDayChanged]
    simp only [State.link, links]
  refine .of_parts pending alive positions windows same (fun l k => ?_) fun l => ?_
  · rw [link, notices_flag, notices_heard, List.contains_append, contains_everywhere, Bool.or_assoc,
      Bool.or_comm (s.arrivalNotices.contains (k, l))]
  · rw [State.SameLink, link]
    exact congrArg (LinkRec.flag .dayChanged) (sameLink_heard s l)

theorem exec_pingReply {s : State} (alive : s.alive = true) : exec .pingReply s = .next s.heard.settle :=
  congrArg Host.Outcome.next (event_alive _ alive)

/-! ### The checks of a DAY-OPEN (02 R17, R18) -/

/-- The ranges of a DAY-OPEN's fields, in figures. -/
theorem openInRange_figures (f : DayOpenFields) :
    openInRange f = true ↔
      (1 ≤ f.day ∧ f.day ≤ 31 ∧ 1 ≤ f.month ∧ f.month ≤ 12 ∧ f.year ≤ 99 ∧ f.seconds ≤ 86399) ∧
      (f.minorDigits = 0 ∨ f.minorDigits = 2 ∨ f.minorDigits = 3) ∧ (∀ i, f.faces.get i ≤ 10000000) ∧
      f.postingLimit ≤ 9999999999 ∧ f.itemization ≤ 9999999999 ∧ 1 ≤ f.drawerMax ∧ f.drawerMax ≤ 99999999999 ∧
      f.tolerance ≤ 99999 := by
  have most : (f.drawerMax : Int) ≤ 99999999999 ↔ f.drawerMax ≤ 99999999999 := by omega
  simp only [openInRange_iff, Config.maxFace, Config.maxAmount, Config.maxTotal, Config.maxTolerance, most, and_assoc]

theorem increasing_iff (l : List Nat) : increasing l = true ↔ l.Pairwise (· < ·) := by
  rw [← List.isChain_iff_pairwise]
  induction l with
  | nil => simp [increasing]
  | cons a l ih =>
    cases l with
    | nil => simp [increasing]
    | cons b l => simp [increasing, ih]

theorem pairwise_toList {n : Nat} {α : Type} (v : Vec n α) (R : α → α → Prop) :
    v.toList.Pairwise R ↔ ∀ i j, i < j → R (v.get i) (v.get j) := by
  rw [List.pairwise_iff_getElem]
  constructor
  · intro h i j hij
    exact h i.val j.val (by rw [v.size]; exact i.isLt) (by rw [v.size]; exact j.isLt) hij
  · intro h i j hi hj hij
    exact h ⟨i, v.size ▸ hi⟩ ⟨j, v.size ▸ hj⟩ hij

/-- The face values present strictly increase with the slots. -/
theorem openOrdered_iff (f : DayOpenFields) :
    openOrdered f = true ↔ ∀ i j, i < j → f.faces.get i ≠ 0 → f.faces.get j ≠ 0 → f.faces.get i < f.faces.get j := by
  rw [openOrdered, increasing_iff, List.pairwise_filterMap, pairwise_toList]
  refine forall₃_congr fun i j _ => ?_
  simp only [openTable, Vec.get_map, id]
  by_cases hi : f.faces.get i = 0 <;> by_cases hj : f.faces.get j = 0 <;> simp [hi, hj]

theorem get_openTable (f : DayOpenFields) (i : Fin 12) :
    (openTable f).get i = if f.faces.get i = 0 then none else some (f.faces.get i) := Vec.get_map _ _ _

theorem openTable_eq (f : DayOpenFields) :
    openTable f = Vec.tab fun i => if f.faces.get i = 0 then none else some (f.faces.get i) := by
  ext i : 1
  rw [get_openTable, Vec.get_tab]

theorem vaultKeeps_iff (c : Cash) (f : DayOpenFields) :
    c.vaultKeeps (openTable f) = true ↔
      ∀ i, c.vault.counts.get i ≠ 0 → f.faces.get i ≠ 0 ∧ c.faces.get i = some (f.faces.get i) := by
  rw [Cash.vaultKeeps, decide_eq_true_eq]
  refine forall₂_congr fun i _ => ?_
  rw [get_openTable]
  by_cases h : f.faces.get i = 0
  · simp [h]
  · simp [h, eq_comm]

/-- A DAY-OPEN that fails a check changes nothing but the list that its answer joins. -/
theorem dayOpen_refused {s : State} {f : DayOpenFields} {o : OpenOutcome} (h : s.judgeDayOpen f = o) (ho : o ≠ .accepted) :
    s.dayOpen f = s.produce (.dayOpenReply o s.day.state s.day.date) := by
  simp only [State.dayOpen, h, ho, if_false]

theorem dayOpen_taken {s : State} {f : DayOpenFields} (h : s.judgeDayOpen f = .accepted) :
    s.dayOpen f = (s.openDay f).produce (.dayOpenReply .accepted .opened (some ⟨f.day, f.month, f.year⟩)) := by
  simp only [State.dayOpen, h, if_true]
  rfl

theorem exec_dayOpen {s : State} (f : DayOpenFields) (alive : s.alive = true) :
    exec (.dayOpen f) s = .next (s.heard.dayOpen f).settle :=
  congrArg Host.Outcome.next (event_alive _ alive)

/-- A DAY-OPEN is judged as the day and the vault stood when it came. -/
theorem judgeDayOpen_heard (s : State) (f : DayOpenFields) : s.heard.judgeDayOpen f = s.judgeDayOpen f := by
  rw [heard_frame]
  rfl

/-! ### The verdict (02 R22, 10 R195) -/

theorem heldSummary_none {s : State} (h : s.ulc.verdict = none) : s.heldSummary = none := by
  simp only [State.heldSummary, h]

/-- Without a verdict wait a verdict is its arrival alone. -/
theorem act_verdict_none {s : State} (h : s.ulc.verdict = none) (totals : Totals) (reason : Nat) :
    s.heard.dayAccepted totals = s.heard ∧ s.heard.dayRejected reason = s.heard := by
  have none : s.heard.heldSummary = none := heldSummary_none ((verdict_heard s).trans h)
  simp only [State.dayAccepted, State.dayRejected, none, and_self]

/-- A reason code of 0 is discarded. -/
theorem dayRejected_zero (s : State) : s.dayRejected 0 = s := by
  unfold State.dayRejected
  split <;> rfl

/-- The SUMMARY that a verdict is taken on: HELD in buffer A while the verdict wait runs. -/
theorem heldSummary_of_held {s : State} {k : Block} {m : Summary} (waits : s.ulc.verdict ≠ none)
    (at_ : s.ulc.buffers.get 0 = some k) (held : k.held = true) (summary : k.contents = .summary m) : s.heldSummary = some m := by
  obtain ⟨v, hv⟩ := Option.ne_none_iff_exists'.1 waits
  have block : s.ulc.heldBlock = some (0, k) := by
    unfold Ulc.heldBlock
    cases h : s.ulc.buffers.get 1 <;> simp only [at_, held, if_true]
  simp only [State.heldSummary, hv, block, summary]

/-- Both buffers emptied: no block's frame waits, and no verdict. -/
theorem Ulc.clear_eq (u : Ulc) :
    u.clear = { u with
      buffers := Vec.fill none, verdict := none, waiting := u.waiting.filter (fun g => g.purpose < 2) } := by
  have buffers : ((u.buffers.set 0 none).set 1 none) = Vec.fill none := by
    ext b : 1
    rw [Vec.get_fill]
    obtain rfl | rfl := fin2_cases b
    · rw [Vec.get_set_ne _ _ (by decide), Vec.get_set_self]
    · rw [Vec.get_set_self]
  have waiting : (u.waiting.filter (fun g => g.purpose != 2)).filter (fun g => g.purpose != 3) =
      u.waiting.filter (fun g => g.purpose < 2) := by
    rw [List.filter_filter]
    refine List.filter_congr fun g _ => ?_
    rcases g with _ | _ | ⟨b, _, _⟩ | ⟨b, _, _⟩
    · rfl
    · rfl
    all_goals obtain rfl | rfl := fin2_cases b <;> rfl
  rw [← buffers, ← waiting]
  rfl

/-- A day accepted moves with the transmission ended and the journal carried over. -/
theorem acceptDay_eq {s : State} {date : Date} (h : s.day.date = some date) :
    s.acceptDay = { s.notifyDayChanged with
      day := { s.day with state := .closed, date := none }, jnl := s.jnl.acceptDay date, ulc := s.ulc.clear } := by
  simp only [State.acceptDay, h]
  rfl

/-- A verdict's arrival and the day it ends or returns, with the uplink `u` that the arrival left. -/
theorem makes_rejectDay (s : State) (u : Ulc) (r : Rejection) :
    s.Makes (State.rejectDay { s with ulc := u } r) { parts := [.day, .ulc], notices := everywhere .dayChanged } :=
  .of_dayChanged rfl rfl rfl rfl (fun p hp => by cases p <;> simp at hp <;> rfl) rfl

theorem makes_acceptDay (s : State) (u : Ulc) :
    s.Makes (State.acceptDay { s with ulc := u }) { parts := [.day, .jnl, .ulc], notices := everywhere .dayChanged } :=
  .of_dayChanged rfl rfl rfl rfl (fun p hp => by cases p <;> simp at hp <;> rfl) rfl

end Sys2Proof.Machine

open Sys2Proof Sys2Proof.Machine

/-- Settles O11: the arrival and then the outcome of the four checks; a DAY-OPEN taken opens the day. -/
theorem dayOpenIsJudgedAndOpensTheDay : Obligations.DayOpenIsJudgedAndOpensTheDay := by
  intro f s alive inRange ordered keepsVault answers
  have refused {o : OpenOutcome} (h : s.judgeDayOpen f = o) (ho : o ≠ .accepted) : answers o := by
    have made := dayOpen_refused ((judgeDayOpen_heard s f).trans h) ho
    have day : s.heard.day = s.day := (uplinkTo_heard s).day
    refine ⟨_, _, exec_dayOpen f alive, exec_pingReply alive, ?_, ?_, fun quiet => ?_⟩
    · rw [made]
      exact (makes_heard s _).event alive
    · rw [made, State.ulc_settle, State.ulc_settle, day]
      rfl
    · rw [State.ulc_settle]
      exact ulc_heard quiet
  refine ⟨fun h => ?_, fun h out => ?_, fun h inside hn => ?_, fun h inside order keeps => ?_⟩
  · exact refused (by simp only [State.judgeDayOpen, h, ne_eq, not_false_eq_true, if_true]) (by decide)
  · have range : openInRange f = false := Bool.eq_false_iff.2 fun e => out ((openInRange_figures f).1 e)
    exact refused (by simp [State.judgeDayOpen, h, range]) (by decide)
  · have range : openInRange f = true := (openInRange_figures f).2 inside
    refine refused ?_ (by decide)
    cases order : openOrdered f
    · simp [State.judgeDayOpen, h, range, order]
    · have vault : s.cash.vaultKeeps (openTable f) = false :=
        Bool.eq_false_iff.2 fun e => hn ⟨(openOrdered_iff f).1 order, (vaultKeeps_iff _ f).1 e⟩
      simp [State.judgeDayOpen, h, range, order, vault]
  · have accepted : s.judgeDayOpen f = .accepted := by
      simp [State.judgeDayOpen, h, (openInRange_figures f).2 inside, (openOrdered_iff f).2 order, (vaultKeeps_iff _ f).2 keeps]
    have made := dayOpen_taken ((judgeDayOpen_heard s f).trans accepted)
    have quiet := ulc_heard (s := s) (.inr (by rw [h]; decide))
    refine ⟨_, exec_dayOpen f alive, ?_, ?_, ?_, ?_, ?_, ?_⟩
    · rw [made]
      refine (makes_heard_moved ?_ ?_ ?_ ?_ (fun p hp => ?_) ?_).event alive
      all_goals rw [heard_frame]
      · rfl
      · rfl
      · rfl
      · rfl
      · cases p <;> simp at hp <;> rfl
      · rfl
    · rw [made, State.day_settle, heard_frame]
      rfl
    · rw [made, State.cash_settle, heard_frame, ← openTable_eq]
      rfl
    · rw [made, State.bal_settle, heard_frame]
      rfl
    · rw [made, State.jnl_settle, heard_frame]
      rfl
    · rw [made, State.ulc_settle, ← quiet]
      rfl

/-- Settles O14: a verdict is taken on the SUMMARY held in the verdict wait, and is its arrival alone anywhere else. -/
theorem verdictEndsOrReturnsTheDay : Obligations.VerdictEndsOrReturnsTheDay := by
  constructor
  · intro totals reason s
    have alone {c : Message} (h : s.heard.act c = s.heard) :
        Host.Outcome.next (event (State.message c) s) = exec .pingReply s :=
      congrArg Host.Outcome.next (congrArg (fun t : State => s.whenAlive fun _ => t.settle) h)
    refine ⟨fun h => ?_, alone (c := .dayRejected 0) (dayRejected_zero _)⟩
    obtain ⟨accepted, rejected⟩ := act_verdict_none h totals reason
    exact ⟨alone (c := .dayAccepted totals) accepted, alone (c := .dayRejected reason) rejected⟩
  · intro k m date s alive up waits at_ held summary dated ended pending joining
    have arrived := heard_up up
    have summaryHeld : s.heard.heldSummary = some m := by
      rw [arrived]
      exact heldSummary_of_held waits at_ held summary
    have cleared : s.heard.ulc.clear = ended := by
      rw [arrived, Ulc.clear_eq]
    have rejected (r : Rejection) : ∃ t, t = (s.heard.rejectDay r).settle ∧
        s.Event t { parts := [.day, .ulc], notices := everywhere .dayChanged } ∧
        t.day = { s.day with state := .rejected, rejection := r } ∧ t.ulc = ended := by
      refine ⟨_, rfl, ?_, ?_, ?_⟩
      · rw [arrived]
        exact (makes_rejectDay s _ r).event alive
      · rw [State.day_settle, arrived]
        rfl
      · rw [State.ulc_settle, ← cleared]
        rfl
    refine ⟨?_, fun totals other => ?_, fun reason nonzero => ?_⟩
    · have dated' : s.heard.day.date = some date := by rw [arrived]; exact dated
      have taken : exec (.dayAccepted m.totals) s = .next s.heard.acceptDay.settle := by
        refine congrArg Host.Outcome.next ((event_alive _ alive).trans (congrArg State.settle ?_))
        show s.heard.dayAccepted m.totals = _
        simp only [State.dayAccepted, summaryHeld, if_true]
      refine ⟨_, taken, ?_, ?_, ?_, ?_⟩
      · rw [arrived]
        exact (makes_acceptDay s _).event alive
      · rw [State.day_settle, acceptDay_eq dated', arrived]
      · rw [State.ulc_settle, acceptDay_eq dated', ← cleared]
      · rw [State.jnl_settle, acceptDay_eq dated', arrived]
        rfl
    · obtain ⟨t, rfl, rest⟩ := rejected .mismatch
      refine ⟨_, congrArg Host.Outcome.next ((event_alive _ alive).trans (congrArg State.settle ?_)), rest⟩
      show s.heard.dayAccepted totals = _
      simp only [State.dayAccepted, summaryHeld, other, if_false]
    · obtain ⟨t, rfl, rest⟩ := rejected (.code reason)
      refine ⟨_, congrArg Host.Outcome.next ((event_alive _ alive).trans (congrArg State.settle ?_)), rest⟩
      show s.heard.dayRejected reason = _
      simp only [State.dayRejected, summaryHeld, nonzero, if_false]
end

section
/-! PROOF. SEND and RESEND, and the filling of two free buffers (02 R21, R23, 10 R185, R186, R192). -/

namespace Sys2Proof.Machine

/-! ### Records named by their numbers -/

/-- Of records with distinct numbers, those whose numbers a run of them names are that run. -/
theorem filter_contains_of_sublist {a l : List Record} (sub : a.Sublist l) (distinct : (l.map Record.seq).Nodup) :
    l.filter (fun r => (a.map Record.seq).contains r.seq) = a := by
  induction sub with
  | slnil => rfl
  | @cons a l x sub ih =>
    simp only [List.map_cons, List.nodup_cons] at distinct
    have out : x.seq ∉ a.map Record.seq := fun h => distinct.1 ((sub.map Record.seq).subset h)
    rw [List.filter_cons_of_neg (by simpa [List.contains_eq_mem] using out), ih distinct.2]
  | @cons_cons a l x sub ih =>
    simp only [List.map_cons, List.nodup_cons] at distinct
    have same : l.filter (fun r => (x.seq :: a.map Record.seq).contains r.seq) =
        l.filter (fun r => (a.map Record.seq).contains r.seq) := by
      refine List.filter_congr fun r hr => ?_
      have other : r.seq ≠ x.seq := fun e => distinct.1 (e ▸ List.mem_map_of_mem hr)
      simp [List.contains_eq_mem, other]
    rw [List.map_cons, List.filter_cons_of_pos (by simp), same, ih distinct.2]

/-- Those beside the first sixteen are the rest. -/
theorem filter_not_contains_take {l : List Record} (distinct : (l.map Record.seq).Nodup) (n : Nat) :
    l.filter (fun r => !((l.take n).map Record.seq).contains r.seq) = l.drop n := by
  have split : l.filter (fun r => !((l.take n).map Record.seq).contains r.seq) =
      (l.take n ++ l.drop n).filter (fun r => !((l.take n).map Record.seq).contains r.seq) := by rw [List.take_append_drop]
  have apart : ∀ r ∈ l.drop n, r.seq ∉ (l.take n).map Record.seq := by
    intro r hr mem
    rw [← List.take_append_drop n l, List.map_append] at distinct
    exact (List.nodup_append.1 distinct).2.2 _ mem _ (List.mem_map_of_mem hr) rfl
  rw [split, List.filter_append, List.filter_eq_nil_iff.2, List.filter_eq_self.2, List.nil_append]
  · intro r hr
    simpa [List.contains_eq_mem] using apart r hr
  · intro r hr
    have mem := List.mem_map_of_mem (f := Record.seq) hr
    simpa [List.contains_eq_mem] using mem

/-! ### A frame produced beside the buffers (10 R181) -/

theorem buffers_produce (u : Ulc) (f : UpFrame) : (u.produce f).buffers = u.buffers := (Ulc.pump_same _).2.1
theorem nextBlock_produce (u : Ulc) (f : UpFrame) : (u.produce f).nextBlock = u.nextBlock := (Ulc.pump_same _).2.2.2.1

theorem produce_setBuffers (u : Ulc) (f : UpFrame) (v : Vec 2 (Option Block)) (n : Nat) :
    { u.produce f with buffers := v, nextBlock := n } = Ulc.produce { u with buffers := v, nextBlock := n } f := by
  have pump (w : Ulc) : { w.pump with buffers := v, nextBlock := n } = Ulc.pump { w with buffers := v, nextBlock := n } := by
    obtain ⟨_, _, _, _, _, _, waiting, sending⟩ := w
    cases sending <;> cases waiting <;> rfl
  exact pump _

/-! ### Filling (10 R186) -/

/-- The unsent records of a journal. -/
def Journal.unsent (j : Journal) : List Record := j.records.filter (fun r => !r.sent)

theorem allSent_iff (j : Journal) : j.allSent = true ↔ j.unsent = [] := by
  simp [Journal.allSent, Journal.unsent, List.filter_eq_nil_iff]

/-- What a buffer draws beside a buffer that holds nothing, and beside one that holds the first sixteen. -/
theorem drawn_of_free {s : State} {b : Fin 2} (h : s.ulc.buffers.get (otherBuffer b) = none) :
    s.drawn b = (s.jnl.unsent.take 16).map Record.seq := by
  simp [State.drawn, h, heldSeqs, Journal.unsent, Config.blockRecords]

theorem drawn_of_first {s : State} {b : Fin 2} {k : Block} (distinct : (s.jnl.records.map Record.seq).Nodup)
    (h : s.ulc.buffers.get (otherBuffer b) = some k) (holds : k.seqs = (s.jnl.unsent.take 16).map Record.seq) :
    s.drawn b = ((s.jnl.unsent.drop 16).take 16).map Record.seq := by
  have nodup : (s.jnl.unsent.map Record.seq).Nodup := distinct.sublist (List.filter_sublist.map _)
  rw [← filter_not_contains_take nodup 16]
  simp only [State.drawn, h, heldSeqs, holds, Config.blockRecords]
  rw [Journal.unsent, List.filter_filter]
  simp only [Bool.and_comm]

/-- The uplink with a block put into buffer `b` under the next number, its frame joining the list. -/
def Ulc.loaded (u : Ulc) (b : Fin 2) (x : Option Block) (f : UpFrame) : Ulc :=
  Ulc.produce { u with buffers := u.buffers.set b x, nextBlock := numberAfter u.nextBlock } f

theorem buffers_loaded (u : Ulc) (b : Fin 2) (x : Option Block) (f : UpFrame) : (u.loaded b x f).buffers = u.buffers.set b x :=
  buffers_produce _ _

/-- The block that a run of unsent records makes, and its frame. -/
theorem load_records {s : State} (b : Fin 2) {rs : List Record} (sub : rs.Sublist s.jnl.unsent)
    (distinct : (s.jnl.records.map Record.seq).Nodup) :
    s.load b (.records (rs.map Record.seq)) =
      { s with ulc := s.ulc.loaded b (recordBlock s.ulc.nextBlock rs) (.block b s.ulc.nextBlock rs) } := by
  have frame : s.jnl.records.filter (fun r => (rs.map Record.seq).contains r.seq) = rs :=
    filter_contains_of_sublist (sub.trans List.filter_sublist) distinct
  simp only [State.load, State.blockFrame, frame]
  rfl

/-- A free buffer beside a free one takes the first sixteen unsent records, where there are any. -/
theorem fillBuffer_first {s : State} (free : s.ulc.buffers = Vec.fill none) (distinct : (s.jnl.records.map Record.seq).Nodup)
    (some_ : s.jnl.unsent ≠ []) :
    s.fillBuffer 0 = { s with
      ulc := s.ulc.loaded 0 (recordBlock s.ulc.nextBlock (s.jnl.unsent.take 16))
        (.block 0 s.ulc.nextBlock (s.jnl.unsent.take 16)) } := by
  have drawn : s.drawn 0 = (s.jnl.unsent.take 16).map Record.seq := drawn_of_free (by rw [free, Vec.get_fill])
  have takes : (s.ulc.buffers.get 0).isNone = true ∧ s.drawn 0 ≠ [] := by
    rw [free, Vec.get_fill, drawn]
    simpa using some_
  rw [State.fillBuffer, if_pos takes, drawn, load_records 0 (List.take_sublist _ _) distinct]

/-- With no record unsent no buffer takes any. -/
theorem fillBuffer_none {s : State} (free : s.ulc.buffers = Vec.fill none) (none_ : s.jnl.unsent = []) (b : Fin 2) :
    s.fillBuffer b = s := by
  have drawn : s.drawn b = [] := by rw [drawn_of_free (by rw [free, Vec.get_fill]), none_]; rfl
  rw [State.fillBuffer, if_neg fun h => h.2 drawn]

/-- Buffer B, beside the first sixteen, takes the next sixteen, where there are any. -/
theorem fillBuffer_second {s : State} (distinct : (s.jnl.records.map Record.seq).Nodup) (free : s.ulc.buffers.get 1 = none)
    {n : Nat} (first : s.ulc.buffers.get 0 = recordBlock n (s.jnl.unsent.take 16)) :
    s.fillBuffer 1 = if (s.jnl.unsent.drop 16).take 16 = [] then s else { s with
      ulc := s.ulc.loaded 1 (recordBlock s.ulc.nextBlock ((s.jnl.unsent.drop 16).take 16))
        (.block 1 s.ulc.nextBlock ((s.jnl.unsent.drop 16).take 16)) } := by
  have drawn : s.drawn 1 = ((s.jnl.unsent.drop 16).take 16).map Record.seq := drawn_of_first distinct first rfl
  rw [State.fillBuffer, drawn]
  by_cases h : (s.jnl.unsent.drop 16).take 16 = []
  · rw [if_pos h, if_neg fun takes => takes.2 (by rw [h]; rfl)]
  · rw [if_neg h, if_pos ⟨by rw [free]; rfl, fun e => h (List.map_eq_nil_iff.1 e)⟩,
      load_records 1 ((List.take_sublist _ _).trans (List.drop_sublist _ _)) distinct]

/-- No SUMMARY is built while buffer A holds a block. -/
theorem fillSummary_held {s : State} (h : s.ulc.buffers.get 0 ≠ none) : s.fillSummary = s := by
  rw [State.fillSummary, if_neg fun on => h (Option.isNone_iff_eq_none.1 on.1)]

theorem summaryIs_summary (s : State) : s.SummaryIs s.summary := by
  have credit : Record.isCredit = fun r => r.kind == .deposit || r.kind == .credit || r.kind == .cashOver ||
      r.kind == .reversal && r.effect == .credit := by
    funext r
    unfold Record.isCredit
    cases r.kind <;> simp
  have debit : Record.isDebit = fun r => r.kind == .withdrawal || r.kind == .debit || r.kind == .cashShort ||
      r.kind == .reversal && r.effect == .debit := by
    funext r
    unfold Record.isDebit
    cases r.kind <;> simp
  refine ⟨rfl, rfl, ?_, ?_, rfl, rfl, rfl, rfl, rfl, rfl, rfl, rfl, rfl, rfl⟩
  · rw [← credit]
    rfl
  · rw [← debit]
    rfl

/-- A SUMMARY is of the parts it reads, and so is what filling makes. -/
theorem filled_congr {s t : State} {u : Ulc} (same : ∀ p, s.SamePart t p) (h : s.Filled u) : t.Filled u := by
  have day : t.day = s.day := same .day
  have cash : t.cash = s.cash := same .cash
  have bal : t.bal = s.bal := same .bal
  have jnl : t.jnl = s.jnl := same .jnl
  have ulc : t.ulc = s.ulc := same .ulc
  simpa only [State.Filled, State.SummaryIs, day, cash, bal, jnl, ulc] using h

/-- What filling two free buffers makes of the uplink, case by case. -/
theorem filled_of_none {t : State} {u : Ulc} {m : Summary} (h : t.jnl.unsent = []) (figures : t.SummaryIs m)
    (ulc : t.ulc = u.loaded 0 (summaryBlock u.nextBlock m) (.summary 0 u.nextBlock m)) : t.Filled u :=
  (if_pos h).mpr ⟨m, figures, ulc⟩

theorem filled_of_first {t : State} {u : Ulc} (h : t.jnl.unsent ≠ []) (rest : (t.jnl.unsent.drop 16).take 16 = [])
    (ulc : t.ulc = u.loaded 0 (recordBlock u.nextBlock (t.jnl.unsent.take 16)) (.block 0 u.nextBlock (t.jnl.unsent.take 16))) :
    t.Filled u :=
  (if_neg h).mpr ((if_pos rest).mpr ulc)

theorem filled_of_both {t : State} {u : Ulc} (h : t.jnl.unsent ≠ []) (rest : (t.jnl.unsent.drop 16).take 16 ≠ [])
    (ulc : t.ulc =
      (u.loaded 0 (recordBlock u.nextBlock (t.jnl.unsent.take 16)) (.block 0 u.nextBlock (t.jnl.unsent.take 16))).loaded 1
        (recordBlock (numberAfter u.nextBlock) ((t.jnl.unsent.drop 16).take 16))
        (.block 1 (numberAfter u.nextBlock) ((t.jnl.unsent.drop 16).take 16))) : t.Filled u := by
  refine (if_neg h).mpr ((if_neg rest).mpr (ulc.trans ?_))
  simp only [Ulc.loaded, buffers_produce, nextBlock_produce, produce_setBuffers]
  rfl

/-- Filling two free buffers, while the day is SENDING and the link UP. -/
theorem filled_fill {s : State} (sending : s.day.state = .sending) (up : s.ulc.up = true) (free : s.ulc.buffers = Vec.fill none)
    (noVerdict : s.ulc.verdict = none) (distinct : (s.jnl.records.map Record.seq).Nodup) : s.fill.Filled s.ulc := by
  have empty (b : Fin 2) : s.ulc.buffers.get b = none := by rw [free, Vec.get_fill]
  rw [State.fill, if_pos ⟨sending, up⟩]
  by_cases none_ : s.jnl.unsent = []
  · have takes : (s.ulc.buffers.get 0).isNone = true ∧ (s.ulc.buffers.get 1).isNone = true ∧ s.jnl.allSent = true ∧
        s.ulc.verdict.isNone = true := by
      rw [empty, empty, noVerdict]
      exact ⟨rfl, rfl, (allSent_iff _).2 none_, rfl⟩
    rw [fillBuffer_none free none_, fillBuffer_none free none_, State.fillSummary, if_pos takes]
    exact filled_of_none (m := s.summary) none_ (summaryIs_summary s) rfl
  · rw [fillBuffer_first free distinct none_]
    generalize loaded : s.ulc.loaded 0 (recordBlock s.ulc.nextBlock (s.jnl.unsent.take 16))
      (.block 0 s.ulc.nextBlock (s.jnl.unsent.take 16)) = u
    have first : u.buffers.get 0 = recordBlock s.ulc.nextBlock (s.jnl.unsent.take 16) := by
      rw [← loaded, buffers_loaded, Vec.get_set_self]
    have held : u.buffers.get 0 ≠ none := by
      rw [first]
      exact Option.some_ne_none _
    have second : u.buffers.get 1 = none := by
      rw [← loaded, buffers_loaded, Vec.get_set_ne _ _ (by decide), empty]
    have number : u.nextBlock = numberAfter s.ulc.nextBlock := by
      rw [← loaded]
      exact nextBlock_produce _ _
    rw [fillBuffer_second (s := { s with ulc := u }) distinct second first]
    by_cases rest : (s.jnl.unsent.drop 16).take 16 = []
    · rw [if_pos rest, fillSummary_held held]
      exact filled_of_first none_ rest loaded.symm
    · rw [if_neg rest, fillSummary_held]
      · refine filled_of_both none_ rest ?_
        rw [loaded, ← number]
      · rwa [buffers_loaded, Vec.get_set_ne _ _ (by decide)]

/-! ### A transmission's start (02 R21, R23, 10 R185) -/

theorem startTransmission_frame (s : State) : s.startTransmission = { s with ulc := s.startTransmission.ulc } := by
  rw [State.startTransmission, fill_frame]

/-- The uplink as a transmission starts: both buffers free and the numbers from 1. -/
def Ulc.started (u : Ulc) : Ulc :=
  { u with
    buffers := Vec.fill none, nextBlock := 1, verdict := none, waiting := u.waiting.filter (fun g => g.purpose < 2) }

theorem startTransmission_eq (s : State) : s.startTransmission = State.fill { s with ulc := s.ulc.started } := by
  rw [State.startTransmission, Ulc.clear_eq]
  rfl

/-- What the start of a transmission makes of the uplink, by the state of the link. -/
theorem startTransmission_spec {s : State} (sending : s.day.state = .sending) :
    (s.ulc.up = false → s.startTransmission.ulc = s.ulc.started) ∧
      (s.ulc.up = true → (s.jnl.records.map Record.seq).Nodup → s.startTransmission.Filled s.ulc.started) := by
  rw [startTransmission_eq]
  refine ⟨fun down => ?_, fun up distinct => filled_fill (s := { s with ulc := s.ulc.started }) sending up rfl rfl distinct⟩
  rw [State.fill, if_neg fun on => ?_]
  exact absurd (down.symm.trans on.2) Bool.false_ne_true

/-- SEND's day moves, and its transmission starts. -/
theorem makes_send (s : State) (u : Ulc) :
    s.Makes { s.moveDay .sending with ulc := u } { parts := [.day, .ulc], notices := everywhere .dayChanged } :=
  .of_dayChanged rfl rfl rfl rfl (fun p hp => by cases p <;> simp at hp <;> rfl) rfl

/-- RESEND's clears every sent mark and the reason besides. -/
theorem makes_resend (s : State) (u : Ulc) :
    s.Makes { s.clearRejection.moveDay .sending with ulc := u }
      { parts := [.day, .jnl, .ulc], notices := everywhere .dayChanged } :=
  .of_dayChanged rfl rfl rfl rfl (fun p hp => by cases p <;> simp at hp <;> rfl) rfl

theorem send_taken {s : State} (day : s.day.state = .cutoff) (closed : ∀ n, (s.pos n).state = .closed)
    (entries : s.dct.entries = []) : send s = .ok ⟨(s.moveDay .sending).startTransmission, .ok, []⟩ := by
  have all : s.positions.all (fun p => p.state == .closed) = true := Vec.all_iff.2 fun n => by
    simpa [State.pos] using closed n
  rw [send, check_pos day, check_pos all, check_pos entries]
  rfl

theorem send_busy {s : State} (day : s.day.state = .cutoff) (h : (∃ n, (s.pos n).state ≠ .closed) ∨ s.dct.entries ≠ []) :
    send s = .error .wrongState := by
  rw [send, check_pos day]
  by_cases all : s.positions.all (fun p => p.state == .closed) = true
  · rw [check_pos all, check_neg]
    refine h.resolve_left fun ⟨n, open_⟩ => open_ ?_
    simpa [State.pos] using Vec.all_iff.1 all n
  · exact check_neg all

theorem resend_taken {s : State} (day : s.day.state = .rejected) :
    resend s = .ok ⟨(s.clearRejection.moveDay .sending).startTransmission, .ok, []⟩ := check_pos day

end Sys2Proof.Machine

open Sys2Proof Sys2Proof.Machine

/-- Settles O13: the checks of the two requests, and one start of a transmission. -/
theorem sendAndResendStartTheTransmission : Obligations.SendAndResendStartTheTransmission := by
  intro tag s accepts cleared starts
  have day : (s.accept .sl).day = s.day := State.day_accept s .sl
  have jnl : (s.accept .sl).jnl = s.jnl := State.jnl_accept s .sl
  have ulc : (s.accept .sl).ulc = s.ulc := State.ulc_accept s .sl
  have pos (n : Fin 8) : (s.accept .sl).pos n = s.pos n := rfl
  have dct : (s.accept .sl).dct = s.dct := State.dct_accept s .sl
  have started {u t : State} (sending : u.day.state = .sending) (ulc : u.ulc = s.ulc)
      (records : u.jnl.records.map Record.seq = s.jnl.records.map Record.seq)
      (same : ∀ p, u.startTransmission.SamePart t p) : starts t := by
    obtain ⟨down, up⟩ := startTransmission_spec sending
    rw [ulc] at down up
    exact ⟨fun h => (same .ulc).trans (down h), fun h distinct => filled_congr same (up h (records ▸ distinct))⟩
  refine ⟨fun h => ?_, fun h busy => ?_, fun h closed entries => ?_, fun h => ?_, fun h => ?_⟩
  · exact ⟨_, rfl, refuses_request accepts rfl rfl (check_neg (day ▸ h))⟩
  · exact ⟨_, rfl, refuses_request accepts rfl rfl (send_busy (day ▸ h) (by simpa only [pos, dct] using busy))⟩
  · have taken := send_taken (s := s.accept .sl) (day ▸ h) closed (dct ▸ entries)
    have made := makes_send (s.accept .sl) ((s.accept .sl).moveDay .sending).startTransmission.ulc
    rw [← startTransmission_frame] at made
    obtain ⟨answered, same⟩ := made.request (k := .send) (tag := tag) (body := []) accepts rfl rfl taken
    refine ⟨_, rfl, answered, (same .day).trans ?_,
      started (u := (s.accept .sl).moveDay .sending) rfl ulc (by rw [← jnl]; rfl) same⟩
    rw [startTransmission_frame, ← day]
    rfl
  · exact ⟨_, rfl, refuses_request accepts rfl rfl (check_neg (day ▸ h))⟩
  · have taken := resend_taken (s := s.accept .sl) (day ▸ h)
    have made := makes_resend (s.accept .sl) ((s.accept .sl).clearRejection.moveDay .sending).startTransmission.ulc
    rw [← startTransmission_frame] at made
    obtain ⟨answered, same⟩ := made.request (k := .resend) (tag := tag) (body := []) accepts rfl rfl taken
    refine ⟨_, rfl, answered, (same .day).trans ?_, (same .jnl).trans ?_,
      started (u := (s.accept .sl).clearRejection.moveDay .sending) rfl ulc ?_ same⟩
    · rw [startTransmission_frame, ← day]
      rfl
    · rw [startTransmission_frame, ← jnl]
      rfl
    · rw [← jnl]
      exact List.map_map ..
end

section
/-! PROOF. What falls due at one hundredth, one watch at a time (02 R24 to R26, 03 R48 to R56, 05 R95, 08 R163, 09 R171,
10 R182, R187, R194): the commands that `dueNow` names are what `dueAll` takes, and taking one makes no other due. -/

namespace Sys2Proof.Machine

/-! ### What taking a watch keeps -/

/-- What a position's watches read becomes no more due from `p` to `q`. -/
structure Position.CalmTo (p q : Position) : Prop where
  hold : q.hold = some 0 → p.hold = some 0
  window : q.window = some 0 → p.window = some 0
  long : q.sensor = .opened ∧ q.longRaised = false ∧ q.openLimit * 100 ≤ q.openTime →
    p.sensor = .opened ∧ p.longRaised = false ∧ p.openLimit * 100 ≤ p.openTime
  service : q.running = true ∧ q.serviceRaised = false ∧ q.serviceLimit * 100 ≤ q.stopwatch →
    p.running = true ∧ p.serviceRaised = false ∧ p.serviceLimit * 100 ≤ p.stopwatch

/-- What the print unit's watches read becomes no more due. -/
structure Pbu.CalmTo (u v : Pbu) : Prop where
  seeTeller : ∀ n, v.seeTeller.get n = some 0 → u.seeTeller.get n = some 0
  printer : ∀ p, (v.printers.get p).timer = some 0 → v.printers.get p = u.printers.get p

/-- What the uplink's watches read becomes no more due, with a ping period of `period` seconds. -/
structure Ulc.CalmTo (period : Nat) (u v : Ulc) : Prop where
  answer : ∀ b, (v.buffers.get b).bind Block.answer = some 0 → (u.buffers.get b).bind Block.answer = some 0
  verdict : v.verdict = some 0 → u.verdict = some 0
  wait : v.round.bind Round.wait = some 0 → u.round.bind Round.wait = some 0
  round : v.round = none ∧ period * 100 ≤ v.sinceRef → u.round = none ∧ period * 100 ≤ u.sinceRef

/-- Nothing that was not due in `s` is due in `t`. -/
structure State.CalmTo (s t : State) : Prop where
  settings : t.settings = s.settings
  pos : ∀ n, (s.pos n).CalmTo (t.pos n)
  text : ∀ n, (t.window n).text = (s.window n).text ∨ (t.window n).text = none
  entries : ∀ e ∈ t.dct.entries, e ∈ s.dct.entries
  pbu : s.pbu.CalmTo t.pbu
  ulc : s.ulc.CalmTo s.settings.pingPeriod t.ulc

/-- The times that run up at a position stand. -/
def Position.SameTimes (p q : Position) : Prop := q.silence = p.silence ∧ q.running = p.running ∧ q.stopwatch = p.stopwatch

/-- From `s` to `t` the queue, the supply, the day and the times that run up at positions stand. -/
structure State.TimesTo (s t : State) : Prop where
  pending : t.pending = s.pending
  supply : t.supply = s.supply
  day : t.day = s.day
  times : ∀ n, (s.pos n).SameTimes (t.pos n)

theorem Position.CalmTo.refl (p : Position) : p.CalmTo p := ⟨id, id, id, id⟩
theorem Pbu.CalmTo.refl (u : Pbu) : u.CalmTo u := ⟨fun _ => id, fun _ _ => rfl⟩
theorem Ulc.CalmTo.refl (period : Nat) (u : Ulc) : u.CalmTo period u := ⟨fun _ => id, id, id, id⟩
theorem State.CalmTo.refl (s : State) : s.CalmTo s := ⟨rfl, fun _ => .refl _, fun _ => .inl rfl, fun _ => id, .refl _, .refl _ _⟩

theorem Pbu.CalmTo.trans {u v w : Pbu} (h : u.CalmTo v) (k : v.CalmTo w) : u.CalmTo w where
  seeTeller n e := h.seeTeller n (k.seeTeller n e)
  printer p e := by
    have last := k.printer p e
    rw [last] at e ⊢
    exact h.printer p e

theorem Position.SameTimes.refl (p : Position) : p.SameTimes p := ⟨rfl, rfl, rfl⟩
theorem State.TimesTo.refl (s : State) : s.TimesTo s := ⟨rfl, rfl, rfl, fun _ => .refl _⟩
theorem State.TimesTo.trans {s t u : State} (h : s.TimesTo t) (k : t.TimesTo u) : s.TimesTo u where
  pending := k.pending.trans h.pending
  supply := k.supply.trans h.supply
  day := k.day.trans h.day
  times n :=
    let ⟨silence, running, stopwatch⟩ := h.times n
    let ⟨silence', running', stopwatch'⟩ := k.times n
    ⟨silence'.trans silence, running'.trans running, stopwatch'.trans stopwatch⟩

section
variable {s t : State}

theorem State.WorkTo.calm (w : s.WorkTo (fun _ => True) t) (pos : ∀ n, (s.pos n).CalmTo (t.pos n))
    (entries : ∀ e ∈ t.dct.entries, e ∈ s.dct.entries) : s.CalmTo t where
  settings := w.settings
  pos := pos
  text n := .inl (by rw [w.layers n])
  entries := entries
  pbu := w.pbu ▸ .refl _
  ulc := w.ulc ▸ .refl _ _

theorem State.PrintTo.calm (w : s.PrintTo t) (pbu : s.pbu.CalmTo t.pbu) : s.CalmTo t where
  settings := w.settings
  pos n := by
    rw [show t.pos n = s.pos n from congrArg (fun v => v.get n) w.positions]
    exact .refl _
  text n := .inl (congrArg (fun v => (v.get n).text) w.windows)
  entries e he := w.dct ▸ he
  pbu := pbu
  ulc := w.ulc ▸ .refl _ _

theorem State.UplinkTo.calm (w : s.UplinkTo t) (ulc : s.ulc.CalmTo s.settings.pingPeriod t.ulc) : s.CalmTo t where
  settings := w.settings
  pos n := by
    rw [show t.pos n = s.pos n from congrArg (fun v => v.get n) w.positions]
    exact .refl _
  text n := .inl (congrArg (fun v => (v.get n).text) w.windows)
  entries e he := w.dct ▸ he
  pbu := w.pbu ▸ .refl _
  ulc := ulc

theorem State.WorkTo.times (w : s.WorkTo (fun _ => True) t) (pos : ∀ n, (s.pos n).SameTimes (t.pos n)) : s.TimesTo t :=
  ⟨w.pending, w.supply, w.day, pos⟩

theorem State.TimesTo.of_positions (pending : t.pending = s.pending) (supply : t.supply = s.supply) (day : t.day = s.day)
    (positions : t.positions = s.positions) : s.TimesTo t where
  pending := pending
  supply := supply
  day := day
  times n := by
    rw [show t.pos n = s.pos n from congrArg (fun v => v.get n) positions]
    exact .refl _

theorem State.PrintTo.times (w : s.PrintTo t) : s.TimesTo t := .of_positions w.pending w.supply w.day w.positions
theorem State.UplinkTo.times (w : s.UplinkTo t) : s.TimesTo t := .of_positions w.pending w.supply w.day w.positions

end

/-! ### The watches of a position (03 R49 to R56) -/

section
variable (s : State) (n m : Fin 8)

theorem pos_onPos_cases (f : Position → Position) : (s.onPos n f).pos m = s.pos m ∨ (s.onPos n f).pos m = f (s.pos m) := by
  by_cases h : m = n
  · subst h
    exact .inr (State.pos_onPos_self ..)
  · exact .inl (State.pos_onPos_ne _ _ h)

theorem positions_forcedOpening : (s.forcedOpening n).positions = (s.onPos n fun p => { p with forced := true }).positions := by
  unfold State.forcedOpening
  dsimp only
  split
  · rw [State.positions_appendSystem, State.positions_notify]
  · rw [State.positions_notify]

theorem pos_opening : (s.opening n).pos m = s.pos m ∨
    ∃ b, (s.opening n).pos m = { (s.pos m).open s.settings.openLimit with forced := b } := by
  by_cases h : m = n
  · subst h
    unfold State.opening
    split
    · right
      dsimp only
      split
      · refine ⟨true, ?_⟩
        rw [State.pos, positions_forcedOpening]
        exact (State.pos_onPos_self ..).trans
          (congrArg (fun p : Position => { p with forced := true }) (State.pos_onPos_self ..))
      · exact ⟨(s.pos m).forced, State.pos_onPos_self ..⟩
    · exact .inl rfl
  · exact .inl ((workTo_opening (touched := (· = n)) s rfl).same m h).pos

theorem pos_shutting : (s.shutting n).pos m = s.pos m ∨ (s.shutting n).pos m = (s.pos m).shut := by
  unfold State.shutting
  split
  · exact pos_onPos_cases ..
  · exact .inl rfl

theorem pos_windowEnd : (s.windowEnd n).pos m = s.pos m ∨ (s.windowEnd n).pos m = (s.pos m).secure := by
  unfold State.windowEnd
  split
  · exact pos_onPos_cases ..
  · exact .inl rfl

theorem pos_drawerLong : (s.drawerLong n).pos m = s.pos m ∨
    ∃ k, (s.drawerLong n).pos m = { s.pos m with longRaised := true, openTime := k } := by
  unfold State.drawerLong
  split
  · rw [pos_notify, pos_notify]
    exact (pos_onPos_cases ..).imp id fun e => ⟨_, e⟩
  · exact .inl rfl

/-- The service watch taken at its limit leaves the stopwatch as it stands. -/
theorem pos_dueService : (s.dueService n).pos m = s.pos m ∨ (s.dueService n).pos m = { s.pos m with serviceRaised := true } := by
  unfold State.dueService
  split
  · next reached =>
    unfold State.serviceLong
    split
    · rw [pos_notify]
      by_cases h : m = n
      · subst h
        rw [State.pos_onPos_self, Nat.max_eq_left reached]
        exact .inr rfl
      · exact .inl (State.pos_onPos_ne _ _ h)
    · exact .inl rfl
  · exact .inl rfl

theorem pos_expireId (id : Nat) : ∃ st, ((s.expireId id).pos m) = { s.pos m with state := st } := by
  unfold State.expireId
  split
  · next e _ =>
    unfold State.expire
    split
    · exact ⟨_, by rw [pos_notify, pos_notify]; rfl⟩
    · next n _ _ =>
      rw [pos_notify, State.endOverride, State.movePos, pos_notify]
      rcases pos_onPos_cases ((s.dropEntry e.id).setOutcome n .expired) n m (fun p => { p with state := .serving }) with same | served
      · exact ⟨_, same⟩
      · exact ⟨_, served⟩
  · exact ⟨_, rfl⟩

/-- An expiry removes the entry of its id, and no other. -/
theorem entries_expireId (id : Nat) : (s.expireId id).dct.entries = s.dct.entries.filter (fun e => e.id != id) := by
  unfold State.expireId
  split
  · next e found =>
    have named : e.id = id := by simpa using List.find?_some found
    unfold State.expire
    split
    · rw [State.dct_notify, State.dct_notify, named]
      rfl
    · rw [State.dct_notify, State.endOverride, State.movePos, State.dct_notify, State.dct_onPos, named]
      rfl
  · next absent =>
    refine (List.filter_eq_self.2 fun e he => ?_).symm
    have other := List.find?_eq_none.1 absent e he
    simpa using other

end

section
variable (s : State) (n : Fin 8)

theorem dct_opening : (s.opening n).dct = s.dct := by
  unfold State.opening State.forcedOpening
  dsimp only
  split
  · split
    · split <;> simp
    · rfl
  · rfl

theorem dct_shutting : (s.shutting n).dct = s.dct := by
  unfold State.shutting
  split <;> rfl

theorem dct_windowEnd : (s.windowEnd n).dct = s.dct := by
  unfold State.windowEnd
  split <;> rfl

theorem dct_drawerLong : (s.drawerLong n).dct = s.dct := by
  unfold State.drawerLong
  split <;> simp

theorem dct_serviceLong : (s.serviceLong n).dct = s.dct := by
  unfold State.serviceLong
  split <;> simp

theorem dct_dueHold : (s.dueHold n).dct = s.dct := by
  unfold State.dueHold
  split
  · split
    · exact dct_opening s n
    · exact dct_shutting s n
  · rfl

theorem dct_dueWindow : (s.dueWindow n).dct = s.dct := by
  unfold State.dueWindow
  split
  · exact dct_windowEnd s n
  · rfl

theorem dct_dueOpenTime : (s.dueOpenTime n).dct = s.dct := by
  unfold State.dueOpenTime
  split
  · exact dct_drawerLong s n
  · rfl

theorem dct_dueService : (s.dueService n).dct = s.dct := by
  unfold State.dueService
  split
  · exact dct_serviceLong s n
  · rfl

/-- What the hold's end makes of a position: nothing, an opening or a shutting. -/
theorem pos_dueHold (m : Fin 8) : (s.dueHold n).pos m = s.pos m ∨
    (∃ b, (s.dueHold n).pos m = { (s.pos m).open s.settings.openLimit with forced := b }) ∨
    (s.dueHold n).pos m = (s.pos m).shut := by
  unfold State.dueHold
  split
  · split
    · exact (pos_opening s n m).imp id .inl
    · exact (pos_shutting s n m).imp id .inr
  · exact .inl rfl

theorem pos_dueWindow (m : Fin 8) : (s.dueWindow n).pos m = s.pos m ∨ (s.dueWindow n).pos m = (s.pos m).secure := by
  unfold State.dueWindow
  split
  · exact pos_windowEnd s n m
  · exact .inl rfl

theorem pos_dueOpenTime (m : Fin 8) : (s.dueOpenTime n).pos m = s.pos m ∨
    ∃ k, (s.dueOpenTime n).pos m = { s.pos m with longRaised := true, openTime := k } := by
  unfold State.dueOpenTime
  split
  · exact pos_drawerLong s n m
  · exact .inl rfl

end

/-! ### Position by position -/

theorem Position.calmTo_open {p : Position} {limit : Nat} (h : 5 ≤ limit) (b : Bool) :
    p.CalmTo { p.open limit with forced := b } where
  hold e := by cases e
  window e := by cases e
  long e := by
    have reached : limit * 100 ≤ 0 := e.2.2
    omega
  service := id

theorem Position.calmTo_shut (p : Position) : p.CalmTo p.shut where
  hold e := by cases e
  window e := by cases e
  long e := by cases e.1
  service := id

theorem Position.calmTo_secure (p : Position) : p.CalmTo p.secure where
  hold := id
  window e := by cases e
  long := id
  service := id

theorem Position.calmTo_longRaised (p : Position) (k : Nat) : p.CalmTo { p with longRaised := true, openTime := k } where
  hold := id
  window := id
  long e := by cases e.2.1
  service := id

theorem Position.calmTo_serviceRaised (p : Position) : p.CalmTo { p with serviceRaised := true } where
  hold := id
  window := id
  long := id
  service e := by cases e.2.1

section
variable (s : State) (n : Fin 8)

theorem calm_dueHold (h : s.settings.InRange) : s.CalmTo (s.dueHold n) := by
  refine (workTo_dueHold s trivial).calm (fun m => ?_) fun e he => dct_dueHold s n ▸ he
  rcases pos_dueHold s n m with same | ⟨b, opened⟩ | shut
  · rw [same]
    exact .refl _
  · rw [opened]
    exact Position.calmTo_open h.2.2.1.1 b
  · rw [shut]
    exact Position.calmTo_shut _

theorem calm_dueWindow : s.CalmTo (s.dueWindow n) := by
  refine (workTo_dueWindow s trivial).calm (fun m => ?_) fun e he => dct_dueWindow s n ▸ he
  rcases pos_dueWindow s n m with same | secured
  · rw [same]
    exact .refl _
  · rw [secured]
    exact Position.calmTo_secure _

theorem calm_dueOpenTime : s.CalmTo (s.dueOpenTime n) := by
  refine (workTo_dueOpenTime s trivial).calm (fun m => ?_) fun e he => dct_dueOpenTime s n ▸ he
  rcases pos_dueOpenTime s n m with same | ⟨k, raised⟩
  · rw [same]
    exact .refl _
  · rw [raised]
    exact Position.calmTo_longRaised _ k

theorem calm_dueService : s.CalmTo (s.dueService n) := by
  refine (workTo_dueService s trivial).calm (fun m => ?_) fun e he => dct_dueService s n ▸ he
  rcases pos_dueService s n m with same | raised
  · rw [same]
    exact .refl _
  · rw [raised]
    exact Position.calmTo_serviceRaised _

theorem times_dueHold : s.TimesTo (s.dueHold n) := by
  refine (workTo_dueHold s trivial).times fun m => ?_
  rcases pos_dueHold s n m with same | ⟨b, opened⟩ | shut
  · rw [same]
    exact .refl _
  · rw [opened]
    exact ⟨rfl, rfl, rfl⟩
  · rw [shut]
    exact ⟨rfl, rfl, rfl⟩

theorem times_dueWindow : s.TimesTo (s.dueWindow n) := by
  refine (workTo_dueWindow s trivial).times fun m => ?_
  rcases pos_dueWindow s n m with same | secured
  · rw [same]
    exact .refl _
  · rw [secured]
    exact ⟨rfl, rfl, rfl⟩

theorem times_dueOpenTime : s.TimesTo (s.dueOpenTime n) := by
  refine (workTo_dueOpenTime s trivial).times fun m => ?_
  rcases pos_dueOpenTime s n m with same | ⟨k, raised⟩
  · rw [same]
    exact .refl _
  · rw [raised]
    exact ⟨rfl, rfl, rfl⟩

theorem times_dueService : s.TimesTo (s.dueService n) := by
  refine (workTo_dueService s trivial).times fun m => ?_
  rcases pos_dueService s n m with same | raised
  · rw [same]
    exact .refl _
  · rw [raised]
    exact ⟨rfl, rfl, rfl⟩

/-- The end of a see-teller time leaves none that has ended. -/
theorem calm_dueSeeTeller : s.CalmTo (s.dueSeeTeller n) := by
  refine (printTo_dueSeeTeller s n).calm ?_
  unfold State.dueSeeTeller
  split
  · refine ⟨fun m e => ?_, fun _ _ => rfl⟩
    change (s.pbu.seeTeller.set n none).get m = _ at e
    rw [Vec.get_set] at e
    split at e
    · cases e
    · exact e
  · exact .refl _

theorem calm_dueText : s.CalmTo (s.dueText n) ∧ s.TimesTo (s.dueText n) ∧ (s.dueText n).dct = s.dct := by
  have ended : s.CalmTo (s.textEnd n) :=
    ⟨rfl, fun _ => .refl _, fun m => by
      by_cases h : m = n
      · subst h
        exact .inr (congrArg Window.text (State.window_onWindow_self ..))
      · exact .inl (congrArg Window.text (State.window_onWindow_ne _ _ h)), fun _ => id, .refl _, .refl _ _⟩
  unfold State.dueText
  split
  · split
    · exact ⟨ended, .of_positions rfl rfl rfl rfl, rfl⟩
    · exact ⟨.refl s, .refl s, rfl⟩
  · exact ⟨.refl s, .refl s, rfl⟩

end

/-! ### The entries (05 R95) -/

theorem calm_expireId (s : State) (k : Nat) : s.CalmTo (s.expireId k) := by
  refine (workTo_expireId s k (Dct.idTouches_all _ _)).calm (fun m => ?_) fun e he => ?_
  · obtain ⟨st, at_⟩ := pos_expireId s m k
    rw [at_]
    exact ⟨id, id, id, id⟩
  · rw [entries_expireId] at he
    exact List.mem_of_mem_filter he

theorem times_expireId (s : State) (id : Nat) : s.TimesTo (s.expireId id) := by
  refine (workTo_expireId s id (Dct.idTouches_all _ _)).times fun m => ?_
  obtain ⟨st, at_⟩ := pos_expireId s m id
  rw [at_]
  exact ⟨rfl, rfl, rfl⟩

end Sys2Proof.Machine
end

section
/-! PROOF. What falls due at the printers and on the uplink, and one hundredth in all (02 R24 to R26, 08 R144 to R155,
10 R182 to R194). -/

namespace Sys2Proof.Machine

/-! ### The print unit's watches (08 R144 to R158) -/

section
variable (s : State) (p : Fin 2)

theorem calm_onPrinter {f : Printer → Printer} (h : (f (s.printer p)).timer ≠ some 0) : s.pbu.CalmTo (s.onPrinter p f).pbu where
  seeTeller _ := id
  printer q e := by
    change ((s.onPrinter p f).printer q).timer = some 0 at e
    by_cases hq : q = p
    · subst hq
      rw [State.printer_onPrinter_self] at e
      exact absurd e h
    · exact State.printer_onPrinter_ne _ _ hq

theorem calm_endJob (j : Job) (o : PrintOutcome) (q : Option (Fin 2)) (c : Option FaultCause) :
    s.pbu.CalmTo (s.endJob j o q c).pbu := by
  rw [State.endJob, State.pbu_notify]
  refine ⟨fun n e => ?_, fun _ _ => rfl⟩
  dsimp only at e
  rw [Vec.get_set] at e
  split at e
  · split at e
    · cases e
    · cases e
  · exact e

theorem calm_takeJob (j : Job) : s.pbu.CalmTo (s.takeJob p j).pbu := by
  unfold State.takeJob
  dsimp only
  split
  · exact calm_endJob s _ _ _ _
  · exact calm_onPrinter s p (by simp [Config.bookWait])

theorem calm_setQueue (q : List Job) : s.pbu.CalmTo { s.pbu with queue := q } := ⟨fun _ => id, fun _ _ => rfl⟩

theorem calm_assignJobs (l : List Job) : s.pbu.CalmTo (assignJobs l s).pbu := by
  induction l generalizing s with
  | nil => exact .refl _
  | cons j l ih =>
    unfold assignJobs
    split
    · exact (calm_takeJob s _ j).trans (ih _)
    · exact (calm_setQueue s _).trans (ih { s with pbu := { s.pbu with queue := s.pbu.queue ++ [j] } })

theorem calm_assign : s.pbu.CalmTo s.assign.pbu :=
  (calm_setQueue s []).trans (calm_assignJobs { s with pbu := { s.pbu with queue := [] } } s.pbu.queue)

theorem calm_restPrinter : s.pbu.CalmTo (s.restPrinter p).pbu := by
  have rested := calm_onPrinter s p (f := Printer.rest) (by simp [Printer.rest, Printer.halt])
  unfold State.restPrinter
  dsimp only
  split
  · exact rested.trans (calm_assign _)
  · exact rested

theorem calm_faultPrinter (cause : FaultCause) : s.pbu.CalmTo (s.faultPrinter p cause).pbu := by
  have halted := calm_onPrinter s p
    (f := fun r => { r.halt with state := .fault, fault := some cause, job := none, leftBy := none }) (by simp [Printer.halt])
  unfold State.faultPrinter
  dsimp only
  rw [State.pbu_notify]
  split
  · exact halted.trans (calm_endJob _ _ _ _ _)
  · exact halted

theorem calm_enterStriking : s.pbu.CalmTo (s.enterStriking p).pbu := calm_onPrinter s p (by simp [Config.strikeTime])

theorem calm_ejectEnd : s.pbu.CalmTo (s.ejectEnd p).pbu := by
  unfold State.ejectEnd
  split
  · exact calm_onPrinter s p (by simp [Printer.awaitRemoval, Config.removalTime])
  · split
    · exact calm_onPrinter s p (by simp [Config.removalTime])
    · split
      · exact calm_onPrinter s p (by simp [Printer.halt])
      · exact (calm_onPrinter s p (by simp [Printer.awaitRemoval, Config.removalTime])).trans (calm_endJob _ _ _ _ _)

theorem calm_startFeed (st : PrinterState) (target : Int) : s.pbu.CalmTo (s.startFeed p st target).pbu := by
  have fed := calm_onPrinter s p (f := Printer.feed st target) (by simp [Printer.feed, Config.feedTime])
  unfold State.startFeed
  dsimp only
  split
  · unfold State.feedEnd
    split
    · exact fed.trans (calm_ejectEnd _ p)
    · exact fed.trans (calm_enterStriking _ p)
  · exact fed

theorem calm_waitEnds (st : PrinterState) (o : PrintOutcome) : s.pbu.CalmTo (s.waitEnds p st o).pbu := by
  unfold State.waitEnds
  split
  · split
    · exact (calm_endJob s _ _ _ _).trans (calm_restPrinter _ p)
    · exact calm_restPrinter s p
  · exact .refl _

theorem calm_bookConfirmed : s.pbu.CalmTo (s.bookConfirmed p).pbu := by
  unfold State.bookConfirmed
  split
  · split
    · exact (calm_onPrinter s p (by simp [Printer.halt])).trans (calm_startFeed _ p _ _)
    · exact .refl _
  · exact .refl _

theorem calm_jam : s.pbu.CalmTo (s.jam p).pbu := by
  unfold State.jam
  split
  · exact calm_faultPrinter s p _
  · exact .refl _

theorem calm_strikeTimeEnd : s.pbu.CalmTo (s.strikeTimeEnd p).pbu := by
  unfold State.strikeTimeEnd
  split
  · exact calm_faultPrinter s p _
  · exact .refl _

theorem calm_bookLeft : s.pbu.CalmTo (s.bookLeft p).pbu := by
  have given := calm_onPrinter s p (f := fun r => { r with bookLeft := true, timer := none }) (by simp)
  unfold State.bookLeft
  dsimp only
  split
  · split
    · rw [State.pbu_notify]
      exact given
    · rw [State.pbu_notify]
      exact given
    · exact given
  · exact .refl _

theorem calm_duePrinter : s.CalmTo (s.duePrinter p) := by
  refine (printTo_duePrinter s p).calm ?_
  unfold State.duePrinter
  split
  · split
    · exact calm_waitEnds s p _ _
    · exact calm_waitEnds s p _ _
    · exact calm_bookConfirmed s p
    · exact calm_strikeTimeEnd s p
    iterate 3 exact calm_jam s p
    · exact calm_bookLeft s p
    iterate 3 exact .refl _
  · exact .refl _

end

/-! ### The uplink's watches (10 R182, R187, R194) -/

section
variable {period : Nat}

theorem Ulc.CalmTo.trans {u v w : Ulc} (h : u.CalmTo period v) (k : v.CalmTo period w) : u.CalmTo period w :=
  ⟨fun b => h.answer b ∘ k.answer b, h.verdict ∘ k.verdict, h.wait ∘ k.wait, h.round ∘ k.round⟩

theorem sinceRef_produce (u : Ulc) (f : UpFrame) : (u.produce f).sinceRef = u.sinceRef := by
  unfold Ulc.produce Ulc.pump
  dsimp only
  split <;> rfl

theorem round_produce (u : Ulc) (f : UpFrame) : (u.produce f).round = u.round := (Ulc.pump_same _).2.2.2.2.1

theorem Ulc.calm_produce (u : Ulc) (f : UpFrame) : u.CalmTo period (u.produce f) := by
  refine ⟨fun b => ?_, ?_, ?_, ?_⟩
  · rw [buffers_produce]
    exact id
  · rw [verdict_produce]
    exact id
  · rw [round_produce]
    exact id
  · rw [round_produce, sinceRef_produce]
    exact id

/-- A buffer whose block has no answer time. -/
theorem Ulc.calm_setBlock (u : Ulc) (b : Fin 2) {k : Block} (h : k.answer = none) :
    u.CalmTo period { u with buffers := u.buffers.set b (some k) } where
  answer c e := by
    dsimp only at e
    rw [Vec.get_set] at e
    split at e
    · exact absurd (h.symm.trans e) (by simp)
    · exact e
  verdict := id
  wait := id
  round := id

theorem Ulc.calm_clear (u : Ulc) (up : Bool) : u.CalmTo period { u.clear with up := up } := by
  rw [Ulc.clear_eq]
  refine ⟨fun b e => ?_, fun e => ?_, id, id⟩
  · rw [Vec.get_fill] at e
    cases e
  · cases e

theorem calm_linkDown (s : State) : s.ulc.CalmTo period s.linkDown.ulc := by
  unfold State.linkDown
  split
  · rw [State.ulc_notify]
    exact s.ulc.calm_clear false
  · exact .refl _ _

theorem calm_retry (s : State) (b : Fin 2) (k : Block) : s.ulc.CalmTo period (s.retry b k).ulc := by
  unfold State.retry
  split
  · exact (s.ulc.calm_setBlock b rfl).trans (Ulc.calm_produce _ _)
  · exact calm_linkDown s

theorem calm_unanswered (s : State) (b : Fin 2) : s.ulc.CalmTo period (s.unanswered b).ulc := by
  unfold State.unanswered
  split
  · split
    · exact calm_retry s b _
    · exact .refl _ _
  · exact .refl _ _

theorem calm_verdictWaitEnd (s : State) : s.ulc.CalmTo period s.verdictWaitEnd.ulc := by
  have ended : s.ulc.CalmTo period { s.ulc with verdict := none } := ⟨fun _ => id, fun e => (by cases e), id, id⟩
  unfold State.verdictWaitEnd
  dsimp only
  split
  · split
    · exact ended.trans (calm_retry { s with ulc := { s.ulc with verdict := none } } _ _)
    · exact ended
  · exact .refl _ _

/-- A round whose wait does not run. -/
theorem Ulc.calm_setRound (u : Ulc) {r : Round} (h : r.wait = none) : u.CalmTo period { u with round := some r } where
  answer _ := id
  verdict := id
  wait e := absurd (h.symm.trans e) (by simp)
  round e := by cases e.1

theorem calm_beginRound (s : State) : s.ulc.CalmTo period s.beginRound.ulc :=
  (s.ulc.calm_setRound rfl).trans (Ulc.calm_produce _ _)

theorem calm_pingWaitEnd (s : State) (h : 0 < period) : s.ulc.CalmTo period s.pingWaitEnd.ulc := by
  have failed : s.ulc.CalmTo period { s.ulc with round := none, sinceRef := 0 } :=
    ⟨fun _ => id, id, fun e => (by cases e), fun e => absurd e.2 (by dsimp only; omega)⟩
  unfold State.pingWaitEnd
  split
  · split
    · exact .refl _ _
    · split
      · exact (s.ulc.calm_setRound rfl).trans (Ulc.calm_produce _ _)
      · exact failed.trans (calm_linkDown { s with ulc := { s.ulc with round := none, sinceRef := 0 } })
  · exact .refl _ _

end

theorem calm_dueAnswer (s : State) (b : Fin 2) : s.CalmTo (s.dueAnswer b) := by
  refine (uplinkTo_dueAnswer s b).calm ?_
  unfold State.dueAnswer
  split
  · split
    · exact calm_unanswered s b
    · exact .refl _ _
  · exact .refl _ _

theorem calm_dueVerdict (s : State) : s.CalmTo s.dueVerdict := by
  refine (uplinkTo_dueVerdict s).calm ?_
  unfold State.dueVerdict
  split
  · exact calm_verdictWaitEnd s
  · exact .refl _ _

theorem calm_duePing (s : State) (h : s.settings.InRange) : s.CalmTo s.duePing := by
  obtain ⟨-, -, -, -, -, -, -, -, -, -, ⟨period, -⟩, -⟩ := h
  refine (uplinkTo_duePing s).calm ?_
  unfold State.duePing
  split
  · split
    · exact calm_pingWaitEnd s (by omega)
    · exact .refl _ _
  · unfold State.judgeRound
    split
    · exact calm_beginRound s
    · exact .refl _ _

end Sys2Proof.Machine
end

section
/-! PROOF. One hundredth in all (02 R24 to R26): the watches in their order, what each takes, and what all of them leave. -/

namespace Sys2Proof.Machine

/-! ### The watches (02 R26, 03 R49 to R56, 05 R95, 08 R144 to R163, 09 R171, 10 R182 to R194) -/

/-- What may fall due at one hundredth. -/
inductive Watch
  | hold (n : Fin 8)
  | window (n : Fin 8)
  | openTime (n : Fin 8)
  | service (n : Fin 8)
  | seeTeller (n : Fin 8)
  | text (n : Fin 8)
  | entries
  | printer (p : Fin 2)
  | answer (b : Fin 2)
  | verdict
  | ping

/-- The command of a printer whose timer has ended. -/
def State.printerDue (s : State) (p : Fin 2) : List Instr :=
  if (s.printer p).timer = some 0 then
    match (s.printer p).state with
    | .waitBook => [.noBook p]
    | .pageTurn => [.pageTimeout p]
    | .confirming => [.bookConfirmed p]
    | .striking => [.strikeTimeEnd p]
    | .aligning | .feeding | .ejecting => [.jam p]
    | .waitRemoval => [.bookLeft p]
    | .idle | .fault | .offline => []
  else []

/-- The commands of a watch whose moments have come: those of `State.dueNow` at its place. -/
def Watch.due (s : State) : Watch → List Instr
  | .hold n => dueIf ((s.pos n).hold = some 0) (if (s.pos n).input = .opened then .opening n else .shutting n)
  | .window n => dueIf ((s.pos n).window = some 0) (.releaseWindowEnd n)
  | .openTime n =>
    dueIf ((s.pos n).sensor = .opened ∧ (s.pos n).longRaised = false ∧ (s.pos n).openLimit * 100 ≤ (s.pos n).openTime)
      (.drawerLong n)
  | .service n =>
    dueIf ((s.pos n).running = true ∧ (s.pos n).serviceRaised = false ∧ (s.pos n).serviceLimit * 100 ≤ (s.pos n).stopwatch)
      (.serviceLong n)
  | .seeTeller n => dueIf (s.pbu.seeTeller.get n = some 0) (.seeTellerTimeEnd n)
  | .text n => dueIf ((s.window n).text.map TextLayer.hold = some 0) (.textHoldEnd n)
  | .entries => (s.dct.entries.filter (fun e => e.remaining == 0)).map (fun e => .expiry e.id)
  | .printer p => s.printerDue p
  | .answer b => dueIf ((s.ulc.buffers.get b).bind Block.answer = some 0) (.answerTimeEnd b)
  | .verdict => dueIf (s.ulc.verdict = some 0) .verdictWaitEnd
  | .ping =>
    dueIf (s.ulc.round.bind Round.wait = some 0) .pingWaitEnd ++
      dueIf (s.ulc.round = none ∧ s.settings.pingPeriod * 100 ≤ s.ulc.sinceRef) .pingRound

/-- What a watch does at one hundredth: the step of `State.dueAll` at its place. -/
def Watch.take (s : State) : Watch → State
  | .hold n => s.dueHold n
  | .window n => s.dueWindow n
  | .openTime n => s.dueOpenTime n
  | .service n => s.dueService n
  | .seeTeller n => s.dueSeeTeller n
  | .text n => s.dueText n
  | .entries => s.dueEntries
  | .printer p => s.duePrinter p
  | .answer b => s.dueAnswer b
  | .verdict => s.dueVerdict
  | .ping => s.duePing

def Watch.ofPosition (n : Fin 8) : List Watch := [.hold n, .window n, .openTime n, .service n, .seeTeller n, .text n]

/-- The watches behind those of the positions and the entries. -/
def Watch.rest : List Watch := [.printer 0, .printer 1, .answer 0, .answer 1, .verdict, .ping]

/-- All of them, in the order of `State.dueAll` (log 2). -/
def Watch.all : List Watch := (List.finRange 8).flatMap Watch.ofPosition ++ .entries :: Watch.rest

theorem due_ofPosition (s : State) (n : Fin 8) : (Watch.ofPosition n).flatMap (Watch.due s) = List.flatten
    [Watch.due s (.hold n), Watch.due s (.window n), Watch.due s (.openTime n), Watch.due s (.service n),
      Watch.due s (.seeTeller n), Watch.due s (.text n)] := rfl

theorem due_rest (s : State) : Watch.rest.flatMap (Watch.due s) =
    (s.printerDue 0 ++ s.printerDue 1) ++ ((Watch.due s (.answer 0) ++ Watch.due s (.answer 1)) ++
      (Watch.due s .verdict ++ Watch.due s .ping)) := by
  simp only [Watch.rest, List.flatMap_cons, List.flatMap_nil, List.append_nil, List.append_assoc]
  rfl

theorem dueNow_eq (s : State) : s.dueNow = Watch.all.flatMap (Watch.due s) := by
  rw [Watch.all, List.flatMap_append, List.flatMap_assoc, List.flatMap_cons, due_rest]
  simp only [due_ofPosition]
  have pair (f : Fin 2 → List Instr) : (List.finRange 2).flatMap f = f 0 ++ f 1 := by
    change f 0 ++ (f 1 ++ []) = _
    rw [List.append_nil]
  simp only [State.dueNow, List.flatten_cons, List.flatten_nil, List.append_nil, pair]
  rfl

theorem take_ofPosition (s : State) (n : Fin 8) : (Watch.ofPosition n).foldl Watch.take s = s.duePosition n := by
  simp only [duePosition_eq, Watch.ofPosition, List.foldl_cons, List.foldl_nil, Watch.take]

theorem take_rest (s : State) : Watch.rest.foldl Watch.take s =
    ((((s.duePrinter 0).duePrinter 1).dueAnswer 0).dueAnswer 1).dueVerdict.duePing := by
  simp only [Watch.rest, List.foldl_cons, List.foldl_nil, Watch.take]

theorem dueAll_eq (s : State) :
    s.dueAll = Watch.all.foldl Watch.take { s with links := s.links.map LinkRec.dueQuiet } := by
  rw [Watch.all, List.foldl_append, List.foldl_flatMap, List.foldl_cons, take_rest]
  simp only [take_ofPosition, State.dueAll, Watch.take]

theorem dueIf_eq_nil {p : Prop} [Decidable p] {c : Instr} : dueIf p c = [] ↔ ¬p := by
  unfold dueIf
  split <;> simp_all

theorem dueIf_eq_singleton {p : Prop} [Decidable p] {c d : Instr} : dueIf p c = [d] ↔ p ∧ c = d := by
  unfold dueIf
  split <;> simp_all

/-! ### Taking one watch -/

section
variable {s u : State} {c : Instr}

/-- A watch with nothing due does nothing. -/
theorem take_of_idle (w : Watch) (h : w.due s = []) : w.take s = s := by
  cases w with
  | hold n => exact if_neg (dueIf_eq_nil.1 h)
  | window n => exact if_neg (dueIf_eq_nil.1 h)
  | openTime n =>
    have idle := dueIf_eq_nil.1 h
    change s.dueOpenTime n = s
    unfold State.dueOpenTime
    split
    · next reached => exact if_neg fun e => idle ⟨e.1, e.2, reached⟩
    · rfl
  | service n =>
    have idle := dueIf_eq_nil.1 h
    change s.dueService n = s
    unfold State.dueService
    split
    · next reached => exact if_neg fun e => idle ⟨e.1, e.2, reached⟩
    · rfl
  | seeTeller n => exact if_neg (dueIf_eq_nil.1 h)
  | text n =>
    have idle := dueIf_eq_nil.1 h
    change s.dueText n = s
    unfold State.dueText
    split
    · next t shown => exact if_neg fun e => idle (by rw [shown, Option.map_some, e])
    · rfl
  | entries =>
    change List.foldl _ s _ = s
    rw [List.map_eq_nil_iff.1 h]
    rfl
  | printer p =>
    change s.printerDue p = [] at h
    change s.duePrinter p = s
    unfold State.printerDue at h
    unfold State.duePrinter
    split
    · next ended =>
      rw [if_pos ended] at h
      cases at_ : (s.printer p).state <;> simp only [at_] at h ⊢ <;> cases h
    · rfl
  | answer b =>
    have idle := dueIf_eq_nil.1 h
    change s.dueAnswer b = s
    unfold State.dueAnswer
    split
    · next k stands => exact if_neg fun e => idle (by rw [stands, Option.bind_some, e])
    · rfl
  | verdict => exact if_neg (dueIf_eq_nil.1 h)
  | ping =>
    obtain ⟨waiting, beginning⟩ := List.append_eq_nil_iff.1 h
    have waiting := dueIf_eq_nil.1 waiting
    have beginning := dueIf_eq_nil.1 beginning
    change s.duePing = s
    unfold State.duePing
    split
    · next r stands => exact if_neg fun e => waiting (by rw [stands, Option.bind_some, e])
    · next none_ => exact if_neg fun e => beginning ⟨none_, by simpa [State.roundDue, none_] using e⟩

theorem settle_of_event {f : State → State} (alive : s.alive = true)
    (run : (.next (event f s) : Host.Outcome State Fault Refusal) = .next u) : (f s).settle = u.settle := by
  cases run
  rw [event_alive f alive, settle_settle]

theorem settle_of_whenAlive {f : State → State} (alive : s.alive = true)
    (run : (.next (s.whenAlive f) : Host.Outcome State Fault Refusal) = .next u) : (f s).settle = u.settle := by
  cases run
  rw [whenAlive_alive f alive]

/-- Where one command is due at a watch, the watch does what the command does. -/
theorem take_of_due (w : Watch) (alive : s.alive = true) (due : w.due s = [c]) (run : exec c s = .next u) :
    (w.take s).settle = u.settle := by
  cases w with
  | hold n =>
    obtain ⟨ended, rfl⟩ := dueIf_eq_singleton.1 due
    change (s.dueHold n).settle = u.settle
    rw [State.dueHold, if_pos ended]
    by_cases level : (s.pos n).input = .opened
    · rw [if_pos level] at run ⊢
      exact settle_of_event (f := fun s => s.opening n) alive run
    · rw [if_neg level] at run ⊢
      exact settle_of_event (f := fun s => s.shutting n) alive run
  | window n =>
    obtain ⟨ended, rfl⟩ := dueIf_eq_singleton.1 due
    change (s.dueWindow n).settle = u.settle
    rw [State.dueWindow, if_pos ended]
    exact settle_of_event (f := fun s => s.windowEnd n) alive run
  | openTime n =>
    obtain ⟨⟨-, -, reached⟩, rfl⟩ := dueIf_eq_singleton.1 due
    change (s.dueOpenTime n).settle = u.settle
    rw [State.dueOpenTime, if_pos reached]
    exact settle_of_event (f := fun s => s.drawerLong n) alive run
  | service n =>
    obtain ⟨⟨-, -, reached⟩, rfl⟩ := dueIf_eq_singleton.1 due
    change (s.dueService n).settle = u.settle
    rw [State.dueService, if_pos reached]
    exact settle_of_event (f := fun s => s.serviceLong n) alive run
  | seeTeller n =>
    obtain ⟨ended, rfl⟩ := dueIf_eq_singleton.1 due
    change (s.dueSeeTeller n).settle = u.settle
    rw [State.dueSeeTeller, if_pos ended]
    exact settle_of_event (f := fun s => s.seeTellerEnd n) alive run
  | text n =>
    obtain ⟨ended, rfl⟩ := dueIf_eq_singleton.1 due
    obtain ⟨t, shown, ended⟩ := Option.map_eq_some_iff.1 ended
    change (s.dueText n).settle = u.settle
    simp only [State.dueText, shown, if_pos ended]
    exact settle_of_event (f := fun s => s.textEnd n) alive run
  | entries =>
    obtain ⟨e, one, rfl⟩ := List.map_eq_singleton_iff.1 due
    change (List.foldl _ s _).settle = u.settle
    rw [one]
    exact settle_of_event (f := fun s => s.expireId e.id) alive run
  | printer p =>
    change s.printerDue p = [c] at due
    change (s.duePrinter p).settle = u.settle
    unfold State.printerDue at due
    unfold State.duePrinter
    split at due
    · next ended =>
      rw [if_pos ended]
      cases at_ : (s.printer p).state <;> simp only [at_] at due ⊢ <;> cases due
      case waitBook => exact settle_of_event (f := fun s => s.noBook p) alive run
      case pageTurn => exact settle_of_event (f := fun s => s.pageTimeout p) alive run
      case confirming => exact settle_of_event (f := fun s => s.bookConfirmed p) alive run
      case striking => exact settle_of_event (f := fun s => s.strikeTimeEnd p) alive run
      case aligning | feeding | ejecting => exact settle_of_event (f := fun s => s.jam p) alive run
      case waitRemoval => exact settle_of_event (f := fun s => s.bookLeft p) alive run
    · cases due
  | answer b =>
    obtain ⟨ended, rfl⟩ := dueIf_eq_singleton.1 due
    obtain ⟨k, stands, ended⟩ := Option.bind_eq_some_iff.1 ended
    change (s.dueAnswer b).settle = u.settle
    simp only [State.dueAnswer, stands, if_pos ended]
    exact settle_of_whenAlive (f := fun s => s.unanswered b) alive run
  | verdict =>
    obtain ⟨ended, rfl⟩ := dueIf_eq_singleton.1 due
    change s.dueVerdict.settle = u.settle
    rw [State.dueVerdict, if_pos ended]
    exact settle_of_whenAlive alive run
  | ping =>
    change s.duePing.settle = u.settle
    rcases List.append_eq_singleton_iff.1 due with ⟨-, beginning⟩ | ⟨waiting, -⟩
    · obtain ⟨⟨none_, reached⟩, rfl⟩ := dueIf_eq_singleton.1 beginning
      have same : s.pingRound = s.beginRound := by
        rw [State.pingRound, if_pos (by rw [none_]; rfl), Nat.max_eq_left reached]
      have due : s.roundDue = true := by simp [State.roundDue, none_, reached]
      simp only [State.duePing, none_, State.judgeRound, due, if_true, ← same]
      exact settle_of_whenAlive alive run
    · obtain ⟨ended, rfl⟩ := dueIf_eq_singleton.1 waiting
      obtain ⟨r, stands, ended⟩ := Option.bind_eq_some_iff.1 ended
      simp only [State.duePing, stands, if_pos ended]
      exact settle_of_whenAlive alive run

end

/-! ### What a watch leaves to the others -/

section
variable {s t : State}

theorem State.CalmTo.trans {u : State} (h : s.CalmTo t) (k : t.CalmTo u) : s.CalmTo u where
  settings := k.settings.trans h.settings
  pos n :=
    ⟨(h.pos n).hold ∘ (k.pos n).hold, (h.pos n).window ∘ (k.pos n).window, (h.pos n).long ∘ (k.pos n).long,
      (h.pos n).service ∘ (k.pos n).service⟩
  text n := by
    rcases k.text n with same | gone
    · rw [same]
      exact h.text n
    · exact .inr gone
  entries e he := h.entries e (k.entries e he)
  pbu := h.pbu.trans k.pbu
  ulc := h.ulc.trans (h.settings ▸ k.ulc)

/-- A watch with nothing due has nothing due where nothing more is. -/
theorem due_of_calm (h : s.CalmTo t) (w : Watch) (idle : w.due s = []) : w.due t = [] := by
  cases w with
  | hold n => exact dueIf_eq_nil.2 (dueIf_eq_nil.1 idle ∘ (h.pos n).hold)
  | window n => exact dueIf_eq_nil.2 (dueIf_eq_nil.1 idle ∘ (h.pos n).window)
  | openTime n => exact dueIf_eq_nil.2 (dueIf_eq_nil.1 idle ∘ (h.pos n).long)
  | service n => exact dueIf_eq_nil.2 (dueIf_eq_nil.1 idle ∘ (h.pos n).service)
  | seeTeller n => exact dueIf_eq_nil.2 (dueIf_eq_nil.1 idle ∘ h.pbu.seeTeller n)
  | text n =>
    refine dueIf_eq_nil.2 fun ended => dueIf_eq_nil.1 idle ?_
    rcases h.text n with same | gone
    · rw [← same]
      exact ended
    · rw [gone] at ended
      cases ended
  | entries =>
    refine List.map_eq_nil_iff.2 (List.filter_eq_nil_iff.2 fun e he => ?_)
    exact List.filter_eq_nil_iff.1 (List.map_eq_nil_iff.1 idle) e (h.entries e he)
  | printer p =>
    change s.printerDue p = [] at idle
    change t.printerDue p = []
    by_cases ended : (t.printer p).timer = some 0
    · have same : t.printer p = s.printer p := h.pbu.printer p ended
      rw [State.printerDue, same]
      exact idle
    · rw [State.printerDue, if_neg ended]
  | answer b => exact dueIf_eq_nil.2 (dueIf_eq_nil.1 idle ∘ h.ulc.answer b)
  | verdict => exact dueIf_eq_nil.2 (dueIf_eq_nil.1 idle ∘ h.ulc.verdict)
  | ping =>
    obtain ⟨waiting, beginning⟩ := List.append_eq_nil_iff.1 idle
    refine List.append_eq_nil_iff.2 ⟨dueIf_eq_nil.2 (dueIf_eq_nil.1 waiting ∘ h.ulc.wait), dueIf_eq_nil.2 ?_⟩
    rw [h.settings]
    exact dueIf_eq_nil.1 beginning ∘ h.ulc.round

theorem calm_expireIds (l : List Nat) (s : State) : s.CalmTo (l.foldl State.expireId s) := by
  induction l generalizing s with
  | nil => exact .refl s
  | cons k l ih => exact (calm_expireId s k).trans (ih _)

theorem times_expireIds (l : List Nat) (s : State) : s.TimesTo (l.foldl State.expireId s) := by
  induction l generalizing s with
  | nil => exact .refl s
  | cons k l ih => exact (times_expireId s k).trans (ih _)

theorem entries_expireIds (l : List Nat) (s : State) :
    (l.foldl State.expireId s).dct.entries = s.dct.entries.filter (fun e => decide (e.id ∉ l)) := by
  induction l generalizing s with
  | nil => simp
  | cons k l ih =>
    rw [List.foldl_cons, ih, entries_expireId, List.filter_filter]
    refine List.filter_congr fun e _ => ?_
    by_cases same : e.id = k <;> simp [same]

theorem calm_take (s : State) (h : s.settings.InRange) (w : Watch) : s.CalmTo (w.take s) := by
  cases w with
  | hold n => exact calm_dueHold s n h
  | window n => exact calm_dueWindow s n
  | openTime n => exact calm_dueOpenTime s n
  | service n => exact calm_dueService s n
  | seeTeller n => exact calm_dueSeeTeller s n
  | text n => exact (calm_dueText s n).1
  | entries => exact calm_expireIds _ s
  | printer p => exact calm_duePrinter s p
  | answer b => exact calm_dueAnswer s b
  | verdict => exact calm_dueVerdict s
  | ping => exact calm_duePing s h

theorem times_take (s : State) (w : Watch) : s.TimesTo (w.take s) := by
  cases w with
  | hold n => exact times_dueHold s n
  | window n => exact times_dueWindow s n
  | openTime n => exact times_dueOpenTime s n
  | service n => exact times_dueService s n
  | seeTeller n => exact (printTo_dueSeeTeller s n).times
  | text n => exact (calm_dueText s n).2.1
  | entries => exact times_expireIds _ s
  | printer p => exact (printTo_duePrinter s p).times
  | answer b => exact (uplinkTo_dueAnswer s b).times
  | verdict => exact (uplinkTo_dueVerdict s).times
  | ping => exact (uplinkTo_duePing s).times

/-- Only the watch over the entries removes any. -/
theorem dct_take (s : State) {w : Watch} (h : w ≠ .entries) : (w.take s).dct = s.dct := by
  cases w with
  | hold n => exact dct_dueHold s n
  | window n => exact dct_dueWindow s n
  | openTime n => exact dct_dueOpenTime s n
  | service n => exact dct_dueService s n
  | seeTeller n => exact (printTo_dueSeeTeller s n).dct
  | text n => exact (calm_dueText s n).2.2
  | entries => exact absurd rfl h
  | printer p => exact (printTo_duePrinter s p).dct
  | answer b => exact (uplinkTo_dueAnswer s b).dct
  | verdict => exact (uplinkTo_dueVerdict s).dct
  | ping => exact (uplinkTo_duePing s).dct

/-- The entries whose time has run out go, and no other: no two bear one id. -/
theorem entries_dueEntries (s : State) (ids : (s.dct.entries.map Entry.id).Nodup) :
    s.dueEntries.dct.entries = s.dct.entries.filter (fun e => e.remaining != 0) := by
  rw [State.dueEntries, entries_expireIds]
  refine List.filter_congr fun e he => ?_
  have listed : e.id ∈ (s.dct.entries.filter (fun e => e.remaining == 0)).map Entry.id ↔ e.remaining = 0 := by
    refine ⟨fun named => ?_, fun out => List.mem_map_of_mem (List.mem_filter.2 ⟨he, by simpa using out⟩)⟩
    obtain ⟨d, expired, same⟩ := List.mem_map.1 named
    obtain ⟨hd, out⟩ := List.mem_filter.1 expired
    rw [← List.inj_on_of_nodup_map ids hd he same]
    simpa using out
  rw [Bool.eq_iff_iff, decide_eq_true_iff, bne_iff_ne]
  exact not_congr listed

end

/-! ### Taking them all -/

section
variable {s : State} {c : Instr}

theorem take_all_idle {l : List Watch} (idle : ∀ w ∈ l, w.due s = []) : l.foldl Watch.take s = s := by
  induction l with
  | nil => rfl
  | cons w l ih =>
    rw [List.foldl_cons, take_of_idle w (idle w List.mem_cons_self)]
    exact ih fun v hv => idle v (List.mem_cons_of_mem w hv)

/-- Where one command is due in all, its watch alone does something. -/
theorem take_all_one {l : List Watch} (range : s.settings.InRange) (due : l.flatMap (Watch.due s) = [c]) :
    ∃ w, Watch.due s w = [c] ∧ l.foldl Watch.take s = w.take s := by
  induction l with
  | nil => cases due
  | cons w l ih =>
    rw [List.flatMap_cons] at due
    rcases List.append_eq_singleton_iff.1 due with ⟨idle, later⟩ | ⟨now, idle⟩
    · rw [List.foldl_cons, take_of_idle w idle]
      exact ih later
    · refine ⟨w, now, (List.foldl_cons ..).trans (take_all_idle fun v hv => ?_)⟩
      exact due_of_calm (calm_take s range w) v (List.flatMap_eq_nil_iff.1 idle v hv)

theorem times_all (l : List Watch) (s : State) : s.TimesTo (l.foldl Watch.take s) := by
  induction l generalizing s with
  | nil => exact .refl s
  | cons w l ih => exact (times_take s w).trans (ih _)

theorem dct_take_all {l : List Watch} (h : .entries ∉ l) (s : State) : (l.foldl Watch.take s).dct = s.dct := by
  induction l generalizing s with
  | nil => rfl
  | cons w l ih =>
    rw [List.foldl_cons, ih fun mem => h (List.mem_cons_of_mem w mem)]
    exact dct_take s fun same => h (same ▸ List.mem_cons_self)

theorem entries_all (s : State) (ids : (s.dct.entries.map Entry.id).Nodup) :
    (Watch.all.foldl Watch.take s).dct.entries = s.dct.entries.filter (fun e => e.remaining != 0) := by
  have positions : Watch.entries ∉ (List.finRange 8).flatMap Watch.ofPosition := by simp [Watch.ofPosition]
  have others : Watch.entries ∉ Watch.rest := by simp [Watch.rest]
  have kept := dct_take_all positions s
  rw [Watch.all, List.foldl_append, List.foldl_cons, dct_take_all others,
    show ∀ t : State, Watch.take t .entries = t.dueEntries from fun _ => rfl, entries_dueEntries, kept]
  rw [kept]
  exact ids

end

/-! ### The clock and the counts (02 R24 to R26) -/

/-- The phase that a count brings, where a tick falls at it. -/
def tickAt (count : Nat) : Option Nat := if tickCounts.contains count then some (phaseOf count) else none

theorem advanceClock_eq (s : State) (h : Nat) (count : h = if s.day.hundredths < 99 then s.day.hundredths + 1 else 0) :
    s.advanceClock = { s with
      day := { s.day with
        hundredths := h, phase := (tickAt h).getD s.day.phase
        seconds := if h = 0 then nextSecond s.day.seconds else s.day.seconds }
      windows := if s.alive then s.windows.map ((tickAt h).elim id Window.tick) else s.windows } := by
  unfold State.advanceClock
  simp only [← count, eightHz_eq]
  by_cases ticks : tickCounts.contains h = true
  · simp only [tickAt, if_pos ticks]
    by_cases wraps : h = 0
    · simp only [if_pos wraps]
      rfl
    · simp only [if_neg wraps]
      rfl
  · have still : (if s.alive then s.windows.map (Option.elim none id Window.tick) else s.windows) = s.windows := by
      split
      · exact Vec.ext_get fun n => Vec.get_map _ _ _
      · rfl
    simp only [tickAt, if_neg ticks, still]
    by_cases wraps : h = 0
    · simp only [if_pos wraps]
      rfl
    · simp only [if_neg wraps]
      rfl

theorem countDown_eq : countDown = lessOne := by
  funext t
  cases t <;> rfl

theorem LinkRec.dueQuiet_count (r : LinkRec) : r.count.dueQuiet =
    if lessOne r.quiet = some 0 then
      (if r.receiver = .receiving then { r with receiver := .skipping, frame := [], quiet := some 2 }
        else if r.receiver = .skipping then { r with receiver := .hunt, frame := [], quiet := none }
        else { r with quiet := some 0 })
    else { r with quiet := lessOne r.quiet } := by
  have counted : r.count = { r with quiet := lessOne r.quiet } := by rw [LinkRec.count, countDown_eq]
  rw [counted, LinkRec.dueQuiet]
  by_cases silent : lessOne r.quiet = some 0
  · rw [if_pos silent, if_pos silent]
    cases at_ : r.receiver <;> simp [LinkRec.silent, LinkRec.abandon, Config.quietTime, silent]
  · rw [if_neg silent, if_neg silent]

theorem tickAt_none {h : Nat} (away : h ∉ tickCounts) : tickAt h = none := if_neg (by simpa using away)

/-- One hundredth counted, and each line's silence judged. -/
def State.counted (s : State) : State :=
  { s with
    links := s.links.map (fun r => r.count.dueQuiet), positions := s.positions.map Position.count, dct := s.dct.count
    pbu := s.pbu.count, windows := s.windows.map Window.count, ulc := s.ulc.count }

theorem dueAll_countAll (s : State) : s.countAll.dueAll = Watch.all.foldl Watch.take s.counted := by
  have links : (s.links.map LinkRec.count).map LinkRec.dueQuiet = s.links.map (fun r => r.count.dueQuiet) :=
    Vec.ext_get fun n => by simp only [Vec.get_map]
  rw [dueAll_eq]
  exact congrArg (fun links => Watch.all.foldl Watch.take { s.countAll with links := links }) links

theorem Position.count_eq (p : Position) : p.count = { p with
    window := lessOne p.window, hold := lessOne p.hold, silence := oneMore 90000 p.silence
    openTime := if p.sensor = .opened then oneMore 999999 p.openTime else p.openTime
    stopwatch := if p.running then oneMore 999999 p.stopwatch else p.stopwatch } := by
  rw [← countDown_eq]
  rfl

/-- A part that takes events when the clock has advanced, all that runs has counted and the lines' silences are judged. -/
theorem counted_advanceClock {s : State} (alive : s.alive = true) : s.advanceClock.counted = s.passed := by
  unfold State.passed
  extract_lets h tick
  have ticked : tick = tickAt h := by
    dsimp only [tick]
    clear_value h
    split
    iterate 8 rfl
    next => exact (tickAt_none (by simp_all [tickCounts])).symm
  clear_value tick
  subst ticked
  rw [advanceClock_eq s h rfl, if_pos alive]
  clear_value h
  have pbu : s.pbu.count = { s.pbu with
      printers := s.pbu.printers.map (fun r => { r with timer := lessOne r.timer })
      seeTeller := s.pbu.seeTeller.map lessOne } := by
    simp only [Pbu.count, countDown_eq]
  have ulc : s.ulc.count = { s.ulc with
      sinceRef := s.ulc.sinceRef + 1
      round := s.ulc.round.map (fun r => { r with wait := lessOne r.wait })
      buffers := s.ulc.buffers.map (fun b => b.map (fun k => { k with answer := lessOne k.answer }))
      verdict := lessOne s.ulc.verdict } := by
    simp only [Ulc.count, countDown_eq]
  simp only [State.counted, State.mk.injEq, true_and]
  refine ⟨Vec.ext_get fun n => ?_, rfl, Vec.ext_get fun n => ?_, rfl, pbu, Vec.ext_get fun n => ?_, ulc⟩
  · rw [Vec.get_map, Vec.get_map, LinkRec.dueQuiet_count]
    generalize s.links.get n = r
    rcases quiet : lessOne r.quiet with _ | _ | k
    · rfl
    · cases at_ : r.receiver <;> rfl
    · rfl
  · rw [Vec.get_map, Vec.get_map, Position.count_eq]
  · rw [Vec.get_map, Vec.get_map, Vec.get_map]
    cases tickAt h with
    | none => rfl
    | some phase => rfl

end Sys2Proof.Machine
end

section
/-! PROOF. An idle step is one hundredth (02 R24 to R26): O2. -/

namespace Sys2Proof.Machine

section
variable {s : State}

theorem alive_advanceClock (s : State) : s.advanceClock.alive = s.alive := by
  rw [advanceClock_eq s _ rfl]
  rfl

theorem tick_dead (dead : s.alive = false) : s.tick = s.advanceClock := whenAlive_dead _ ((alive_advanceClock s).trans dead)

theorem tick_alive (alive : s.alive = true) : s.tick = (Watch.all.foldl Watch.take s.passed).settle := by
  rw [State.tick, whenAlive_alive _ ((alive_advanceClock s).trans alive), dueAll_countAll, counted_advanceClock alive]

theorem times_tick (s : State) : s.passed.TimesTo (Watch.all.foldl Watch.take s.passed) := times_all _ _

theorem alive_passed (s : State) : s.passed.alive = s.alive := rfl
theorem settings_passed (s : State) : s.passed.settings = s.settings := rfl

theorem pos_passed (s : State) (n : Fin 8) : s.passed.pos n = (s.pos n).count := by
  rw [Position.count_eq]
  exact Vec.get_map ..

/-- In a part that takes events and in one that takes none the queue stands and the day is the clock's. -/
theorem tick_clock (s : State) : s.tick.pending = s.pending ∧ s.tick.day = s.advanceClock.day := by
  cases alive : s.alive with
  | false =>
    rw [tick_dead alive, advanceClock_eq s _ rfl]
    exact ⟨rfl, rfl⟩
  | true =>
    have times := times_tick s
    rw [tick_alive alive]
    have pending : (Watch.all.foldl Watch.take s.passed).settle.pending = _ := State.pending_settle _
    have day : (Watch.all.foldl Watch.take s.passed).settle.day = _ := State.day_settle _
    rw [pending, day, times.pending, times.day, ← counted_advanceClock alive]
    refine ⟨?_, rfl⟩
    rw [advanceClock_eq s _ rfl]
    rfl

theorem phase_advanced (h phase : Nat) : (tickAt h).getD phase =
    (match h with
      | 0 => 0 | 12 => 1 | 25 => 2 | 37 => 3 | 50 => 4 | 62 => 5 | 75 => 6 | 87 => 7
      | _ => phase) := by
  split
  iterate 8 rfl
  next =>
    rw [tickAt_none (by simp_all [tickCounts])]
    rfl

/-- Where nothing is due, or one command, a part whose settings stand in their ranges settles behind it. -/
theorem tick_of_due (alive : s.alive = true) (range : s.settings.InRange) :
    (s.passed.dueNow = [] → s.tick = s.passed.settle) ∧
      ∀ c u, s.passed.dueNow = [c] → exec c s.passed = .next u → s.tick = u.settle := by
  rw [dueNow_eq, tick_alive alive]
  refine ⟨fun none_ => ?_, fun c u one run => ?_⟩
  · rw [take_all_idle (List.flatMap_eq_nil_iff.1 none_)]
  · obtain ⟨w, due, taken⟩ := take_all_one (settings_passed s ▸ range) one
    rw [taken]
    exact take_of_due w ((alive_passed s).trans alive) due run

theorem entries_tick (alive : s.alive = true) (ids : (s.dct.entries.map Entry.id).Nodup) :
    s.tick.dct.entries = (s.dct.entries.filter (fun e => decide (1 < e.remaining))).map
      (fun e => { e with remaining := e.remaining - 1 }) := by
  have counted : s.passed.dct.entries = s.dct.entries.map (fun e => { e with remaining := e.remaining - 1 }) := rfl
  have same : s.passed.dct.entries.map Entry.id = s.dct.entries.map Entry.id := by
    rw [counted, List.map_map]
    rfl
  rw [tick_alive alive, State.dct_settle, entries_all _ (same ▸ ids), counted, List.filter_map]
  refine congrArg _ (List.filter_congr fun e _ => ?_)
  rw [Bool.eq_iff_iff, decide_eq_true_iff, Function.comp, bne_iff_ne]
  dsimp only
  omega

theorem pos_tick (alive : s.alive = true) (n : Fin 8) : (s.pos n).count.SameTimes (s.tick.pos n) := by
  have times := times_tick s
  rw [tick_alive alive, ← pos_passed]
  generalize Watch.all.foldl Watch.take s.passed = t at times
  rw [pos_settle ((State.alive_of_supply times.supply).trans ((alive_passed s).trans alive))]
  exact times.times n

end

end Sys2Proof.Machine

open Sys2Proof Sys2Proof.Machine

/-- Settles O2: the watches taken in order make no other due, so none of them, or the one whose command is due, does
anything; the times that run up and the entries' times are no watch's to change. -/
theorem idleStepCountsOneHundredth : Obligations.IdleStepCountsOneHundredth := by
  intro s queue
  obtain ⟨pending, day⟩ := tick_clock s
  have clock := advanceClock_eq s _ rfl
  have dayAt := day.trans (congrArg State.day clock)
  refine ⟨s.tick, step_nil queue, pending.trans queue, ?_, ?_, ?_, ?_, tick_of_due, ?_⟩
  · rw [dayAt]
  · rw [dayAt]
    dsimp only
    split
    · rw [if_neg (by omega)]
    · rfl
  · intro _
    rw [dayAt]
    exact phase_advanced _ _
  · intro dead
    rw [tick_dead dead, clock, dead]
    exact ⟨rfl, rfl⟩
  · intro alive ids
    have counted (n : Fin 8) := pos_tick alive n
    refine ⟨entries_tick alive ids, fun n => (counted n).1, fun n => (counted n).2.1, fun n still => ?_, fun n runs _ => ?_⟩
    · rw [(counted n).2.2]
      exact if_neg (by rw [still]; decide)
    · rw [(counted n).2.2]
      exact if_pos runs

end

section
/-! PROOF. A CONFIG's list and the settings it stores (02 R27 to R29). -/

namespace Sys2Proof.Machine

/-! ### The list read back (11 R199) -/

/-- The bytes of a CONFIG line as sent. -/
def ConfigLine.sent (c : ConfigLine) : Bytes := be 1 c.item ++ be 1 c.position ++ be 2 c.value

theorem ConfigLine.length_sent (c : ConfigLine) : c.sent.length = 4 := by
  simp only [ConfigLine.sent, List.length_append, be_length]

theorem length_flatMap_sent (lines : List ConfigLine) : (lines.flatMap ConfigLine.sent).length = 4 * lines.length := by
  induction lines with
  | nil => rfl
  | cons c lines ih =>
    rw [List.flatMap_cons, List.length_append, ih, c.length_sent, List.length_cons]
    omega

/-- Pieces of one length, cut apart again. -/
theorem linesOf_flatMap {α : Type} {k : Nat} (f : α → Bytes) (length : ∀ a, (f a).length = k) (l : List α) :
    linesOf k l.length (l.flatMap f) = l.map f := by
  induction l with
  | nil => rfl
  | cons a l ih =>
    rw [List.length_cons, List.flatMap_cons, linesOf, List.take_left' (length a), List.drop_left' (length a), ih, List.map_cons]

theorem ConfigLine.read_sent {c : ConfigLine} (fits : c.item < 256 ∧ c.position < 256 ∧ c.value < 65536) :
    ({ item := field c.sent 0 1, position := field c.sent 1 1, value := field c.sent 2 2 } : ConfigLine) = c := by
  obtain ⟨item, position, value⟩ := fits
  have at2 : be 2 c.value = be 2 c.value ++ [] := (List.append_nil _).symm
  have read0 : field c.sent 0 1 = c.item := by
    rw [ConfigLine.sent, List.append_assoc, field_be]
    exact Nat.mod_eq_of_lt item
  have read1 : field c.sent 1 1 = c.position := by
    rw [ConfigLine.sent, List.append_assoc, field_be_skip _ _ _ (Nat.le_refl 1), field_be]
    exact Nat.mod_eq_of_lt position
  have read2 : field c.sent 2 2 = c.value := by
    rw [ConfigLine.sent, List.append_assoc, field_be_skip _ _ _ (by decide), field_be_skip _ _ _ (Nat.le_refl 1), at2, field_be]
    exact Nat.mod_eq_of_lt value
  rw [read0, read1, read2]

/-- A list whose fields fit their bytes is read as it was sent. -/
theorem readConfig_sent {lines : List ConfigLine} (fits : ∀ c ∈ lines, c.item < 256 ∧ c.position < 256 ∧ c.value < 65536) :
    readConfig (lines.flatMap ConfigLine.sent) = lines := by
  rw [readConfig, length_flatMap_sent, Nat.mul_div_cancel_left _ (by decide), linesOf_flatMap _ ConfigLine.length_sent, List.map_map]
  refine (List.map_congr_left fun c hc => ?_).trans (List.map_id _)
  exact ConfigLine.read_sent (fits c hc)

/-! ### The list judged (02 R28) -/

theorem ConfigLine.sound_iff (c : ConfigLine) : c.sound = true ↔
    1 ≤ c.item ∧ c.item ≤ 15 ∧ (c.item = 15 → c.position ≤ 7 ∧ c.value ≤ 1) ∧ (c.item = 7 → c.value ≤ 1) := by
  simp only [ConfigLine.sound, Bool.and_eq_true, Bool.or_eq_true, Bool.not_eq_true', decide_eq_true_eq, bne_iff_ne, ne_eq,
    Bool.or_eq_false_iff, beq_eq_false_iff_ne]
  omega

theorem ConfigLine.not_sameItem_iff (a b : ConfigLine) : (!a.sameItem b) = true ↔
    a.item ≠ b.item ∨ a.item = 15 ∧ a.position ≠ b.position := by
  simp only [ConfigLine.sameItem, Bool.not_eq_true', Bool.and_eq_false_iff, Bool.or_eq_false_iff, beq_eq_false_iff_ne,
    bne_eq_false_iff_eq]

theorem configDistinct_iff (lines : List ConfigLine) : configDistinct lines = true ↔
    lines.Pairwise (fun a b => a.item ≠ b.item ∨ a.item = 15 ∧ a.position ≠ b.position) := by
  induction lines with
  | nil => simp [configDistinct]
  | cons a lines ih => simp only [configDistinct, Bool.and_eq_true, List.all_eq_true, ConfigLine.not_sameItem_iff, ih, List.pairwise_cons]

/-! ### The settings stored (02 R27, R28) -/

theorem clamp_eq {low high : Nat} (h : low ≤ high) (v : Nat) : clamp low high v = max low (min high v) := by
  unfold clamp
  split
  · omega
  · split <;> omega

/-- A line stores its own item's setting and leaves the others. -/
theorem Settings.store_eq (t : Settings) (c : ConfigLine) : t.store c = {
    idleBlank := if c.item = 1 then clamp 10 900 c.value else t.idleBlank
    brightness := if c.item = 2 then clamp 0 15 c.value else t.brightness
    openLimit := if c.item = 3 then clamp 5 300 c.value else t.openLimit
    serviceLimit := if c.item = 4 then clamp 30 3600 c.value else t.serviceLimit
    transferExpiry := if c.item = 5 then clamp 30 600 c.value else t.transferExpiry
    overrideExpiry := if c.item = 6 then clamp 30 600 c.value else t.overrideExpiry
    home := if c.item = 15 then
        (readPosition? c.position).elim t.home (fun n => t.home.set n (if c.value = 1 then 1 else 0)) else t.home
    sharing := if c.item = 7 then c.value == 1 else t.sharing
    linesPerPage := if c.item = 8 then clamp 12 32 c.value else t.linesPerPage
    pagesPerBook := if c.item = 9 then clamp 1 16 c.value else t.pagesPerBook
    linePitch := if c.item = 10 then clamp 8 32 c.value else t.linePitch
    topMargin := if c.item = 11 then clamp 0 255 c.value else t.topMargin
    pingPeriod := if c.item = 12 then clamp 4 1020 c.value / 4 * 4 else t.pingPeriod
    pingRetries := if c.item = 13 then clamp 0 7 c.value else t.pingRetries
    blockRetryLimit := if c.item = 14 then clamp 0 15 c.value else t.blockRetryLimit } := by
  obtain ⟨item, position, value⟩ := c
  unfold Settings.store ConfigLine.stored
  dsimp only
  split
  iterate 14 rfl
  · cases readPosition? position <;> rfl
  · simp_all only [imp_false, if_false]

section
variable {α : Type} {lines : List ConfigLine} {t : Settings}

/-- A setting that lines of one kind alone store, where no two of that kind stand: that line's value, or the old one. -/
theorem foldl_store_field (g : Settings → α) (p : ConfigLine → Bool) (v : ConfigLine → α)
    (stores : ∀ t c, g (t.store c) = if p c = true then v c else g t)
    (apart : lines.Pairwise fun a b => ¬(p a = true ∧ p b = true)) :
    g (lines.foldl Settings.store t) = (lines.find? p).elim (g t) v := by
  induction lines generalizing t with
  | nil => rfl
  | cons c lines ih =>
    obtain ⟨alone, apart⟩ := List.pairwise_cons.1 apart
    rw [List.foldl_cons, ih apart, stores]
    cases named : p c with
    | false => simp [named]
    | true =>
      have others : lines.find? p = none := List.find?_eq_none.2 fun b hb other => alone b hb ⟨named, other⟩
      simp [named, others]

/-- In such a list a line of the kind is the one that is found. -/
theorem find?_of_mem {p : ConfigLine → Bool} (apart : lines.Pairwise fun a b => ¬(p a = true ∧ p b = true)) {c : ConfigLine}
    (mem : c ∈ lines) (named : p c = true) : lines.find? p = some c := by
  induction lines with
  | nil => cases mem
  | cons a lines ih =>
    obtain ⟨alone, apart⟩ := List.pairwise_cons.1 apart
    rcases List.mem_cons.1 mem with rfl | later
    · simp [named]
    · have other : p a = false := by simpa [named] using alone c later
      simp [other, ih apart later]

/-- The setting `g` is item `i`'s, stored as `v` of the line's value. -/
def Settings.Stores (g : Settings → α) (i : Nat) (v : Nat → α) : Prop :=
  ∀ t c, g (Settings.store t c) = if c.item = i then v c.value else g t

theorem stores_idleBlank : Settings.Stores Settings.idleBlank 1 (clamp 10 900) := fun t c => congrArg _ (t.store_eq c)
theorem stores_brightness : Settings.Stores Settings.brightness 2 (clamp 0 15) := fun t c => congrArg _ (t.store_eq c)
theorem stores_openLimit : Settings.Stores Settings.openLimit 3 (clamp 5 300) := fun t c => congrArg _ (t.store_eq c)
theorem stores_serviceLimit : Settings.Stores Settings.serviceLimit 4 (clamp 30 3600) := fun t c => congrArg _ (t.store_eq c)
theorem stores_transferExpiry : Settings.Stores Settings.transferExpiry 5 (clamp 30 600) := fun t c => congrArg _ (t.store_eq c)
theorem stores_overrideExpiry : Settings.Stores Settings.overrideExpiry 6 (clamp 30 600) := fun t c => congrArg _ (t.store_eq c)
theorem stores_sharing : Settings.Stores Settings.sharing 7 (fun v => v == 1) := fun t c => congrArg _ (t.store_eq c)
theorem stores_linesPerPage : Settings.Stores Settings.linesPerPage 8 (clamp 12 32) := fun t c => congrArg _ (t.store_eq c)
theorem stores_pagesPerBook : Settings.Stores Settings.pagesPerBook 9 (clamp 1 16) := fun t c => congrArg _ (t.store_eq c)
theorem stores_linePitch : Settings.Stores Settings.linePitch 10 (clamp 8 32) := fun t c => congrArg _ (t.store_eq c)
theorem stores_topMargin : Settings.Stores Settings.topMargin 11 (clamp 0 255) := fun t c => congrArg _ (t.store_eq c)
theorem stores_pingPeriod : Settings.Stores Settings.pingPeriod 12 (fun v => clamp 4 1020 v / 4 * 4) :=
  fun t c => congrArg _ (t.store_eq c)
theorem stores_pingRetries : Settings.Stores Settings.pingRetries 13 (clamp 0 7) := fun t c => congrArg _ (t.store_eq c)
theorem stores_blockRetryLimit : Settings.Stores Settings.blockRetryLimit 14 (clamp 0 15) :=
  fun t c => congrArg _ (t.store_eq c)

/-- The home printer of a position is stored by the line of item 15 that names it. -/
theorem store_home (n : Fin 8) (t : Settings) (c : ConfigLine) : (t.store c).home.get n =
    if (c.item == 15 && c.position == n.val) = true then (if c.value = 1 then 1 else 0) else t.home.get n := by
  rw [t.store_eq c]
  dsimp only
  by_cases item : c.item = 15
  · rw [if_pos item]
    unfold readPosition?
    split
    · next bound =>
      rw [Option.elim_some, Vec.get_set]
      by_cases same : c.position = n.val
      · simp [item, same]
      · simp [item, same, Fin.ext_iff, Ne.symm same]
    · next out =>
      have other : c.position ≠ n.val := fun same => out (same ▸ n.isLt)
      simp [other]
  · simp [item]

section
variable (distinct : lines.Pairwise fun a b => a.item ≠ b.item ∨ a.item = 15 ∧ a.position ≠ b.position)
include distinct

theorem apart_item {i : Nat} (ne : i ≠ 15) : lines.Pairwise fun a b => ¬((a.item == i) = true ∧ (b.item == i) = true) := by
  refine distinct.imp fun {a b} other both => ?_
  simp only [beq_iff_eq] at both
  omega

theorem apart_home (n : Fin 8) : lines.Pairwise fun a b =>
    ¬((a.item == 15 && a.position == n.val) = true ∧ (b.item == 15 && b.position == n.val) = true) := by
  refine distinct.imp fun {a b} other both => ?_
  simp only [Bool.and_eq_true, beq_iff_eq] at both
  omega

theorem Settings.Stores.foldl {g : Settings → α} {i : Nat} {v : Nat → α} (h : Settings.Stores g i v) (ne : i ≠ 15) :
    g (lines.foldl Settings.store t) = (lines.find? fun c => c.item == i).elim (g t) fun c => v c.value :=
  foldl_store_field g _ _ (fun t c => (h t c).trans (by simp only [beq_iff_eq])) (apart_item distinct ne)

theorem Settings.Stores.foldl_of_mem {g : Settings → α} {i : Nat} {v : Nat → α} (h : Settings.Stores g i v) (ne : i ≠ 15)
    {c : ConfigLine} (mem : c ∈ lines) (item : c.item = i) : g (lines.foldl Settings.store t) = v c.value := by
  rw [h.foldl distinct ne, find?_of_mem (apart_item distinct ne) mem (by simpa using item), Option.elim_some]

theorem Settings.Stores.foldl_clamp {g : Settings → Nat} {i low high : Nat} (h : Settings.Stores g i (clamp low high)) (ne : i ≠ 15)
    (le : low ≤ high) :
    g (lines.foldl Settings.store t) = (lines.find? fun c => c.item == i).elim (g t) fun c => max low (min high c.value) := by
  simp only [h.foldl distinct ne, clamp_eq le]

theorem foldl_store_home (n : Fin 8) : (lines.foldl Settings.store t).home.get n =
    (lines.find? fun c => c.item == 15 && c.position == n.val).elim (t.home.get n) fun c => if c.value = 1 then 1 else 0 :=
  foldl_store_field (fun t => t.home.get n) _ _ (store_home n) (apart_home distinct n)

end

end

end Sys2Proof.Machine
end

section
/-! PROOF. What a CONFIG makes (02 R28, R29, 08 R139, 10 R182): O15. -/

namespace Sys2Proof.Machine

/-! ### Notices set, and nothing else of a link -/

/-- From `s` to `t` every link has changed in its notices alone, and these have only been set. -/
def State.Tells (s t : State) : Prop :=
  ∃ N : List (Notice × Link), s.Notes t { notices := N } ∧ ∀ l, s.SameLink t l

section
variable {s t u : State}

theorem State.Tells.of_links (h : t.links = s.links) : s.Tells t := by
  have link (l : Link) : t.link l = s.link l := by simp only [State.link, h]
  refine ⟨[], fun l k => ?_, fun l => ?_⟩
  · rw [link]
    exact (Bool.or_false _).symm
  · rw [State.SameLink, link]

theorem State.Tells.trans (h : s.Tells t) (k : t.Tells u) : s.Tells u := by
  obtain ⟨N, notes, line⟩ := h
  obtain ⟨M, notes', line'⟩ := k
  refine ⟨N ++ M, fun l k => ?_, fun l => ?_⟩
  · rw [notes' l k, notes l k, Bool.or_assoc]
    congr 1
    rw [Bool.eq_iff_iff]
    simp only [Bool.or_eq_true, List.contains_iff_mem, List.mem_append]
  · rw [State.SameLink, line' l, line l]

theorem tells_notify (s : State) (k : Notice) (l : Link) : s.Tells (s.notify k l) := by
  refine ⟨if k.carriedBy l then [(k, l)] else [], fun m j => ?_, fun m => link_notify_frame s k l m⟩
  rw [notices_notify]
  congr 1
  cases k.carriedBy l
  · simp
  · rw [Bool.eq_iff_iff]
    simp

theorem tells_takeJob (s : State) (p : Fin 2) (j : Job) : s.Tells (s.takeJob p j) := by
  unfold State.takeJob
  dsimp only
  split
  · exact State.Tells.trans (State.Tells.of_links rfl) (tells_notify _ _ _)
  · exact .of_links rfl

theorem tells_assignJobs (s : State) (l : List Job) : s.Tells (assignJobs l s) := by
  induction l generalizing s with
  | nil => exact .of_links rfl
  | cons j l ih =>
    unfold assignJobs
    split
    · exact (tells_takeJob s _ j).trans (ih _)
    · exact State.Tells.trans (.of_links rfl) (ih { s with pbu := { s.pbu with queue := s.pbu.queue ++ [j] } })

theorem tells_assign (s : State) : s.Tells s.assign :=
  State.Tells.trans (.of_links rfl) (tells_assignJobs { s with pbu := { s.pbu with queue := [] } } s.pbu.queue)

end

/-! ### What assignment reads -/

/-- What assignment reads and writes is in `t` as in `s`. -/
structure State.PrintsLike (s t : State) : Prop where
  settings : t.settings = s.settings
  jnl : t.jnl = s.jnl
  pbu : t.pbu = s.pbu
  notices : ∀ l, (t.link l).notices = (s.link l).notices

section
variable {s t : State}

theorem State.PrintsLike.setPbu (h : s.PrintsLike t) (u : Pbu) : State.PrintsLike { s with pbu := u } { t with pbu := u } :=
  ⟨h.settings, h.jnl, rfl, h.notices⟩

theorem State.PrintsLike.notify (h : s.PrintsLike t) (k : Notice) (l : Link) : (s.notify k l).PrintsLike (t.notify k l) where
  settings := by simpa using h.settings
  jnl := by simpa using h.jnl
  pbu := by simpa using h.pbu
  notices m := by
    by_cases carried : k.carriedBy l = true
    · by_cases at_ : m = l
      · subst at_
        rw [link_notify_self _ _ _ carried, link_notify_self _ _ _ carried, LinkRec.flag, LinkRec.flag, h.notices]
      · rw [link_notify_ne _ _ at_, link_notify_ne _ _ at_, h.notices]
    · rw [notify_uncarried _ _ _ (by simpa using carried), notify_uncarried _ _ _ (by simpa using carried), h.notices]

theorem State.PrintsLike.endJob (h : s.PrintsLike t) (j : Job) (o : PrintOutcome) (p : Option (Fin 2)) (c : Option FaultCause) :
    (s.endJob j o p c).PrintsLike (t.endJob j o p c) := by
  unfold State.endJob
  apply State.PrintsLike.notify
  refine ⟨h.settings, ?_, ?_, h.notices⟩
  · dsimp only
    rw [h.jnl]
  · dsimp only
    rw [h.pbu]

theorem State.PrintsLike.takeJob (h : s.PrintsLike t) (p : Fin 2) (j : Job) : (s.takeJob p j).PrintsLike (t.takeJob p j) := by
  unfold State.takeJob
  dsimp only
  rw [h.settings]
  split
  · exact h.endJob _ _ _ _
  · refine ⟨h.settings, h.jnl, ?_, h.notices⟩
    dsimp only [State.onPrinter]
    rw [h.pbu]

theorem State.PrintsLike.assignJobs (h : s.PrintsLike t) (l : List Job) : (assignJobs l s).PrintsLike (assignJobs l t) := by
  induction l generalizing s t with
  | nil => exact h
  | cons j l ih =>
    have same : t.printerFor j = s.printerFor j := by
      unfold State.printerFor State.printer
      rw [h.settings, h.pbu]
    unfold Machine.assignJobs
    rw [same]
    split
    · exact ih (h.takeJob _ j)
    · exact ih (by rw [h.pbu]; exact h.setPbu _)

theorem State.PrintsLike.assign (h : s.PrintsLike t) : s.assign.PrintsLike t.assign := by
  unfold State.assign
  rw [h.pbu]
  exact (h.setPbu _).assignJobs _

/-- With no job waiting assignment changes nothing. -/
theorem assign_of_none (h : s.pbu.queue = []) : s.assign = s := by
  have same : { s.pbu with queue := [] } = s.pbu := by rw [← h]
  rw [State.assign, h, Machine.assignJobs, same]

end

/-! ### A ping round already due (10 R182) -/

/-- A round begins where none runs and the period has passed. -/
def Ulc.judged (u : Ulc) (c : Settings) (d : Day) : Ulc :=
  if u.round = none ∧ c.pingPeriod * 100 ≤ u.sinceRef then
    Ulc.produce { u with round := some ⟨1, 1 + c.pingRetries, none⟩ } (.ping d.state d.date)
  else u

theorem judgeRound_eq (s : State) : s.judgeRound = { s with ulc := s.ulc.judged s.settings s.day } := by
  have due : s.roundDue = true ↔ s.ulc.round = none ∧ s.settings.pingPeriod * 100 ≤ s.ulc.sinceRef := by
    simp [State.roundDue]
  unfold State.judgeRound Ulc.judged
  by_cases h : s.roundDue = true
  · rw [if_pos h, if_pos (due.1 h)]
    rfl
  · rw [if_neg h, if_neg (mt due.2 h)]

/-! ### The change in all -/

/-- The state with a CONFIG's values stored, before anything acts on them. -/
def State.stored (s : State) (lines : List ConfigLine) : State :=
  { s with settings := lines.foldl Settings.store s.settings }

theorem configure_eq (s : State) (lines : List ConfigLine) : s.configure lines =
    { (s.stored lines).assign with ulc := s.ulc.judged (s.stored lines).settings s.day } := by
  have assigned := printTo_assign (s.stored lines)
  have judged : (s.stored lines).assign.ulc.judged (s.stored lines).assign.settings (s.stored lines).assign.day =
      s.ulc.judged (s.stored lines).settings s.day := by
    rw [assigned.ulc, assigned.settings, assigned.day]
    rfl
  change (s.stored lines).assign.judgeRound = _
  rw [judgeRound_eq, judged]

/-- A CONFIG taken changes the settings, and what assignment and a round due change. -/
theorem makes_configure (s : State) (lines : List ConfigLine) :
    ∃ N, s.Makes (s.configure lines) { parts := [.settings, .jnl, .pbu, .ulc], notices := N } := by
  obtain ⟨N, notes, line⟩ := tells_assign (s.stored lines)
  have assigned := printTo_assign (s.stored lines)
  refine ⟨N, ?_⟩
  rw [configure_eq]
  refine .of_parts assigned.pending (State.alive_of_supply assigned.supply) assigned.positions assigned.windows (fun p hp => ?_)
    notes line
  cases p with
  | supply => exact assigned.supply
  | day => exact assigned.day
  | cash => exact assigned.cash
  | dct => exact assigned.dct
  | bal => exact assigned.bal
  | settings | jnl | pbu | ulc => simp at hp

/-- A list with a line that is not sound, or with two lines of one item, is refused. -/
theorem config_refused {body : Bytes} {s : State}
    (h : ¬((readConfig body).all ConfigLine.sound = true ∧ configDistinct (readConfig body) = true)) :
    config body s = .error .badForm := by
  by_cases sound : (readConfig body).all ConfigLine.sound = true
  · rw [config, check_pos sound, check_neg fun distinct => h ⟨sound, distinct⟩]
  · exact check_neg sound

theorem config_taken {body : Bytes} {s : State} (sound : (readConfig body).all ConfigLine.sound = true)
    (distinct : configDistinct (readConfig body) = true) :
    config body s = .ok ⟨s.configure (readConfig body), .ok,
      counted (((readConfig body).filter fun c => c.stored != c.value).map ConfigLine.bytes)⟩ := by
  rw [config, check_pos sound, check_pos distinct]
  rfl

/-- What the settings hold of the item that a line names; a line's own value where its item has no range. -/
def Settings.held (t : Settings) (c : ConfigLine) : Nat :=
  match c.item with
  | 1 => t.idleBlank | 2 => t.brightness | 3 => t.openLimit
  | 4 => t.serviceLimit | 5 => t.transferExpiry | 6 => t.overrideExpiry
  | 8 => t.linesPerPage | 9 => t.pagesPerBook | 10 => t.linePitch
  | 11 => t.topMargin | 12 => t.pingPeriod | 13 => t.pingRetries
  | 14 => t.blockRetryLimit | _ => c.value

theorem held_of_mem {lines : List ConfigLine} {t : Settings}
    (distinct : lines.Pairwise fun a b => a.item ≠ b.item ∨ a.item = 15 ∧ a.position ≠ b.position) {c : ConfigLine}
    (mem : c ∈ lines) : (lines.foldl Settings.store t).held c = c.stored := by
  have of_item {g : Settings → Nat} {i : Nat} {v : Nat → Nat} (h : Settings.Stores g i v) (ne : i ≠ 15) (item : c.item = i) :
      g (lines.foldl Settings.store t) = v c.value := h.foldl_of_mem distinct ne mem item
  obtain ⟨item, position, value⟩ := c
  unfold Settings.held
  dsimp only at of_item ⊢
  split
  · exact of_item stores_idleBlank (by decide) rfl
  · exact of_item stores_brightness (by decide) rfl
  · exact of_item stores_openLimit (by decide) rfl
  · exact of_item stores_serviceLimit (by decide) rfl
  · exact of_item stores_transferExpiry (by decide) rfl
  · exact of_item stores_overrideExpiry (by decide) rfl
  · exact of_item stores_linesPerPage (by decide) rfl
  · exact of_item stores_pagesPerBook (by decide) rfl
  · exact of_item stores_linePitch (by decide) rfl
  · exact of_item stores_topMargin (by decide) rfl
  · exact of_item stores_pingPeriod (by decide) rfl
  · exact of_item stores_pingRetries (by decide) rfl
  · exact of_item stores_blockRetryLimit (by decide) rfl
  · unfold ConfigLine.stored
    dsimp only
    split
    iterate 13 contradiction
    rfl

end Sys2Proof.Machine

open Sys2Proof Sys2Proof.Machine

/-- Settles O15: the list is read back as it was sent; its items being distinct, each setting is what the one line of its
item stores; and what assignment does with them does not hang on SL's link. -/
theorem configStoresValuesBroughtIntoRange : Obligations.ConfigStoresValuesBroughtIntoRange := by
  intro tag lines s accepts atLeast atMost fits body sound value
  have admits : Kind.admits .config .sl body.length = true :=
    (listLength_iff 0 4 1 22 _ (by decide)).2 ⟨lines.length, atLeast, atMost, (length_flatMap_sent lines).trans (Nat.zero_add _).symm⟩
  have read : readConfig body = lines := readConfig_sent fits
  have judged : ((readConfig body).all ConfigLine.sound = true ∧ configDistinct (readConfig body) = true) ↔ sound := by
    rw [read, configDistinct_iff, List.all_eq_true]
    exact and_congr_left' (forall₂_congr fun c _ => c.sound_iff)
  refine ⟨fun unsound => ⟨_, rfl, refuses_request accepts rfl admits (config_refused (mt judged.1 unsound))⟩, fun is_sound => ?_⟩
  obtain ⟨allSound, allDistinct⟩ := judged.2 is_sound
  obtain ⟨-, distinct⟩ := is_sound
  obtain ⟨N, made⟩ := makes_configure (s.accept .sl) lines
  have taken := config_taken (s := s.accept .sl) allSound allDistinct
  rw [read] at taken
  obtain ⟨answered, same⟩ := made.request (k := .config) (tag := tag) accepts rfl admits taken
  obtain ⟨keeps, notes, replied, others, cores, shows⟩ := answered
  refine ⟨_, rfl, keeps, shows, others, fun m => cores m (by simp), ?_⟩
  generalize request .sl .config tag body (config body) s = t at notes replied same ⊢
  have changed := configure_eq (s.accept .sl) lines
  have settings : t.settings = lines.foldl Settings.store s.settings := by
    rw [same .settings, changed]
    exact (printTo_assign _).settings.trans (by rw [State.stored, State.settings_accept])
  have clamped {g : Settings → Nat} {i low high : Nat} (h : Settings.Stores g i (clamp low high)) (ne : i ≠ 15) (le : low ≤ high) :
      g t.settings = value i low high (g s.settings) := by
    rw [settings, h.foldl_clamp distinct ne le]
    dsimp only [value]
    cases lines.find? fun c => c.item == i <;> rfl
  refine ⟨clamped stores_idleBlank (by decide) (by decide), clamped stores_brightness (by decide) (by decide),
    clamped stores_openLimit (by decide) (by decide), clamped stores_serviceLimit (by decide) (by decide),
    clamped stores_transferExpiry (by decide) (by decide), clamped stores_overrideExpiry (by decide) (by decide), ?_,
    clamped stores_linesPerPage (by decide) (by decide), clamped stores_pagesPerBook (by decide) (by decide),
    clamped stores_linePitch (by decide) (by decide), clamped stores_topMargin (by decide) (by decide), ?_,
    clamped stores_pingRetries (by decide) (by decide), clamped stores_blockRetryLimit (by decide) (by decide),
    fun n => ?_, ?_, ?_, ?_⟩
  · rw [settings, stores_sharing.foldl distinct (by decide)]
    cases lines.find? fun c => c.item == 7 <;> rfl
  · rw [settings, stores_pingPeriod.foldl distinct (by decide)]
    simp only [clamp_eq (show 4 ≤ 1020 by decide)]
    cases lines.find? fun c => c.item == 12 <;> rfl
  · rw [settings, foldl_store_home distinct]
    cases lines.find? fun c => c.item == 15 && c.position == n.val <;> rfl
  · intro stored listed
    have held (c : ConfigLine) (mem : c ∈ lines) : stored c = c.stored :=
      (congrArg (fun w : Settings => w.held c) settings).trans (held_of_mem distinct mem)
    have filtered : lines.filter (fun c => c.stored != c.value) = listed :=
      List.filter_congr fun c mem => by rw [held c mem, bne_comm]
    have listed_mem (c : ConfigLine) (mem : c ∈ listed) : c ∈ lines := List.mem_of_mem_filter mem
    rw [filtered, counted, List.length_map, ← List.flatMap_def] at replied
    rw [show listed.flatMap (fun c => be 1 c.item ++ be 1 (if c.item = 15 then c.position else 0) ++ be 2 (stored c)) =
      listed.flatMap ConfigLine.bytes from List.flatMap_congr fun c mem => by rw [held c (listed_mem c mem)]; rfl]
    exact replied
  · intro judged
    have alike : State.PrintsLike { s with settings := t.settings } ((s.accept .sl).stored lines) :=
      ⟨by rw [settings, State.stored, State.settings_accept], State.jnl_accept s .sl, State.pbu_accept s .sl, notices_accept s .sl⟩
    have assigned := alike.assign
    refine ⟨(same .jnl).trans (changed ▸ assigned.jnl), (same .pbu).trans (changed ▸ assigned.pbu), fun l k => ?_, fun none_ => ?_⟩
    · have set := made.notes l k
      rw [notices_accept, ← notes l k, changed] at set
      rw [← set]
      exact congrArg (fun v => v.get k.idx) (assigned.notices l)
    · have idle : judged = { s with settings := t.settings } := assign_of_none none_
      rw [idle]
      exact ⟨rfl, rfl, rfl⟩
  · have begun : t.ulc = s.ulc.judged t.settings s.day := by
      rw [same .ulc, changed, settings, ← State.ulc_accept s .sl, ← State.day_accept s .sl, ← State.settings_accept s .sl]
      rfl
    exact begun
end

section
/-! PROOF. Changes one after another (01 R7): what a chain of operations makes, and what an answered request and an event
carry over of the state that their change gives. -/

namespace Sys2Proof.Machine

/-! ### Changes one after another -/

/-- One change and then another. -/
def Change.andThen (c d : Change) : Change :=
  { parts := c.parts ++ d.parts, positions := c.positions ++ d.positions, windows := c.windows ++ d.windows
    notices := c.notices ++ d.notices }

theorem samePart_trans {s t u : State} {p : Part} (h : s.SamePart t p) (k : t.SamePart u p) : s.SamePart u p := by
  cases p <;> exact Eq.trans k h

theorem sameLayers_trans {s t u : State} {m : Fin 8} (h : s.SameLayers t m) (k : t.SameLayers u m) : s.SameLayers u m := by
  obtain ⟨text, amount, current⟩ := h
  obtain ⟨text', amount', current'⟩ := k
  exact ⟨text'.trans text, amount'.trans amount, current'.trans current⟩

section
variable {s t u : State} {c d : Change}

theorem State.Makes.part (h : s.Makes t c) {p : Part} (hp : p ∉ c.parts) : s.SamePart t p := h.keeps.2.1 p hp

theorem State.Makes.layers (h : s.Makes t c) {m : Fin 8} (hm : m ∉ c.windows) : s.SameLayers t m := h.keeps.2.2 m hm

theorem State.Makes.trans (h : s.Makes t c) (k : t.Makes u d) : s.Makes u (c.andThen d) where
  alive := k.alive.trans h.alive
  keeps := by
    refine ⟨k.keeps.1.trans h.keeps.1, fun p hp => ?_, fun m hm => ?_⟩
    · obtain ⟨hc, hd⟩ := not_or.1 (mt List.mem_append.2 hp)
      exact samePart_trans (h.part hc) (k.part hd)
    · obtain ⟨hc, hd⟩ := not_or.1 (mt List.mem_append.2 hm)
      exact sameLayers_trans (h.layers hc) (k.layers hd)
  notes l j := by
    rw [k.notes l j, h.notes l j, Bool.or_assoc]
    exact congrArg _ List.contains_append.symm
  line l := by rw [State.SameLink, k.line l, h.line l]
  cores m hm := by
    obtain ⟨hc, hd⟩ := not_or.1 (mt List.mem_append.2 hm)
    exact (k.cores m hd).trans (h.cores m hc)
  lamps m := ⟨(k.lamps m).1.trans (h.lamps m).1, (k.lamps m).2.trans (h.lamps m).2⟩

/-- A change may be named more widely, but for its notices. -/
theorem State.Makes.widen (h : s.Makes t c) (parts : c.parts ⊆ d.parts) (positions : c.positions ⊆ d.positions)
    (windows : c.windows ⊆ d.windows) (notices : ∀ x, x ∈ c.notices ↔ x ∈ d.notices) : s.Makes t d where
  alive := h.alive
  keeps := ⟨h.keeps.1, fun _ hp => h.part (mt (@parts _) hp), fun _ hm => h.layers (mt (@windows _) hm)⟩
  notes l k := by
    rw [h.notes l k]
    congr 1
    rw [Bool.eq_iff_iff, List.contains_iff_mem, List.contains_iff_mem, notices]
  line := h.line
  cores m hm := h.cores m (mt (@positions _) hm)
  lamps := h.lamps

/-- The same change with its notices named otherwise. -/
theorem State.Makes.renotice (h : s.Makes t c) {N : List (Notice × Link)} (notices : ∀ x, x ∈ c.notices ↔ x ∈ N) :
    s.Makes t { c with notices := N } :=
  h.widen (List.Subset.refl _) (List.Subset.refl _) (List.Subset.refl _) notices

theorem State.Makes.ite {p : Prop} [Decidable p] (h : p → s.Makes t c) (k : ¬p → s.Makes u c) :
    s.Makes (if p then t else u) c := by
  split
  · next hp => exact h hp
  · next hp => exact k hp

end

/-! ### What each operation makes -/

section
variable (s : State) (n : Fin 8)

/-- A state that differs in one part alone. -/
theorem State.Makes.of_part {s t : State} (part : Part) (pending : t.pending = s.pending) (alive : t.alive = s.alive)
    (positions : t.positions = s.positions) (windows : t.windows = s.windows) (links : t.links = s.links)
    (parts : ∀ p, p ≠ part → s.SamePart t p) : s.Makes t { parts := [part] } := by
  have link (l : Link) : t.link l = s.link l := by simp only [State.link, links]
  refine .of_parts pending alive positions windows (fun p hp => parts p (by simpa using hp)) (fun l k => ?_) fun l => ?_
  · rw [link]
    exact (Bool.or_false _).symm
  · rw [State.SameLink, link]

theorem makes_setBal (b : Bal) : s.Makes { s with bal := b } { parts := [.bal] } :=
  .of_part .bal rfl rfl rfl rfl rfl fun p hp => by cases p <;> simp at hp <;> rfl

theorem makes_setCash (c : Cash) : s.Makes { s with cash := c } { parts := [.cash] } :=
  .of_part .cash rfl rfl rfl rfl rfl fun p hp => by cases p <;> simp at hp <;> rfl

theorem makes_setDct (d : Dct) : s.Makes { s with dct := d } { parts := [.dct] } :=
  .of_part .dct rfl rfl rfl rfl rfl fun p hp => by cases p <;> simp at hp <;> rfl

theorem makes_notify {k : Notice} {l : Link} (carried : k.carriedBy l = true) : s.Makes (s.notify k l) { notices := [(k, l)] } := by
  refine .of_parts (by simp) (State.alive_of_supply (by simp)) (by simp) (by simp) (fun p _ => by cases p <;> simp [State.SamePart])
    (fun m j => ?_) fun m => link_notify_frame s k l m
  rw [notices_notify, carried, Bool.and_true]
  congr 1
  rw [Bool.eq_iff_iff]
  simp

theorem makes_onPos (f : Position → Position) : s.Makes (s.onPos n f) { positions := [n] } where
  alive := rfl
  keeps := ⟨rfl, fun p _ => by cases p <;> rfl, fun _ _ => ⟨rfl, rfl, rfl⟩⟩
  notes _ _ := (Bool.or_false _).symm
  line _ := rfl
  cores m hm := by rw [State.pos_onPos_ne _ _ (by simpa using hm)]
  lamps _ := ⟨rfl, rfl⟩

theorem makes_movePos (st : PosState) :
    s.Makes (s.movePos n st) { positions := [n], notices := [(.positionChanged, .sl)] } :=
  (makes_onPos s n _).trans (makes_notify _ rfl)

theorem makes_setAmount (a : Option Nat) : s.Makes (s.setAmount n a) { windows := [n] } where
  alive := rfl
  keeps := by
    refine ⟨rfl, fun p _ => by cases p <;> rfl, fun m hm => ?_⟩
    rw [State.SameLayers, State.setAmount, State.window_onWindow_ne _ _ (by simpa using hm)]
    exact ⟨rfl, rfl, rfl⟩
  notes _ _ := (Bool.or_false _).symm
  line _ := rfl
  cores _ _ := rfl
  lamps m := by
    by_cases hm : m = n
    · subst hm
      rw [State.setAmount, State.window_onWindow_self]
      exact ⟨rfl, rfl⟩
    · rw [State.setAmount, State.window_onWindow_ne _ _ hm]
      exact ⟨rfl, rfl⟩

/-! ### Records (07 R121 to R124) -/

/-- A record appended, or lost, changes the journal, with JOURNAL-HIGH where that becomes SPENT. -/
theorem makes_append (r : Record) : s.Makes (s.append r) { parts := [.jnl], notices := s.highJournal (s.append r) } :=
  .of_parts (by simp) (State.alive_of_supply (by simp)) (by simp) (by simp)
    (fun p hp => by cases p <;> simp [State.SamePart] at hp ⊢) (notices_of_highJournal (append_links s r))
    (sameLink_of_highJournal (append_links s r))

theorem makes_appendSystem (r : Record) :
    s.Makes (s.appendSystem r) { parts := [.jnl], notices := s.highJournal (s.appendSystem r) } :=
  .of_parts (by simp) (State.alive_of_supply (by simp)) (by simp) (by simp)
    (fun p hp => by cases p <;> simp [State.SamePart] at hp ⊢) (notices_of_highJournal (appendSystem_links s r))
    (sameLink_of_highJournal (appendSystem_links s r))

theorem spent_appendSystem (r : Record) (h : s.jnl.spent = true) : (s.appendSystem r).jnl.spent = true := by
  rw [appendSystem_jnl]
  unfold Journal.withSystem Journal.withRecord
  split
  · simp [h]
  · exact h

theorem mem_highJournal {s t : State} {x : Notice × Link} :
    x ∈ s.highJournal t ↔ (s.jnl.spent = false ∧ t.jnl.spent = true) ∧ x = (.journalHigh, .sl) := by
  unfold State.highJournal
  split
  · next high => simp [high]
  · next same => simp [same]

/-- JOURNAL-HIGH over two steps, neither of which goes back to ARMED. -/
theorem mem_highJournal_trans {s t u : State} (first : s.jnl.spent = true → t.jnl.spent = true)
    (second : t.jnl.spent = true → u.jnl.spent = true) (x : Notice × Link) :
    x ∈ s.highJournal t ++ t.highJournal u ↔ x ∈ s.highJournal u := by
  rw [List.mem_append, mem_highJournal, mem_highJournal, mem_highJournal, ← or_and_right]
  refine and_congr_left' ?_
  cases between : t.jnl.spent
  · have before : s.jnl.spent = false := by simpa [between] using first
    simp [before]
  · simp [second between]

/-- JOURNAL-HIGH hangs on the two journals alone. -/
theorem highJournal_congr {s s' t t' : State} (before : s'.jnl = s.jnl) (after : t'.jnl = t.jnl) :
    s'.highJournal t' = s.highJournal t := by
  unfold State.highJournal
  rw [before, after]

/-- Without a record there is no JOURNAL-HIGH. -/
theorem highJournal_same {s t : State} (h : t.jnl = s.jnl) : s.highJournal t = [] := by
  unfold State.highJournal
  rw [h]
  exact if_neg fun both => by simp [both.1] at both

end

/-! ### What an answer or an event carries over (01 R7) -/

/-- `t` stands as `u` does but for its links, and for the idle flags and displays that follow the rest. -/
structure State.Carries (u t : State) : Prop where
  part : ∀ p, u.SamePart t p
  core : ∀ m, (t.pos m).core = (u.pos m).core
  layers : ∀ m, u.SameLayers t m

theorem carries_settle (u : State) : u.Carries u.settle where
  part p := by cases p <;> simp [State.SamePart]
  core := core_settle u
  layers := layers_settle u

/-- An event taken is what it makes. -/
theorem State.Makes.takes {s u : State} {c : Change} (h : s.Makes u c) (alive : s.alive = true) :
    s.Event u.settle c ∧ u.Carries u.settle := ⟨h.event alive, carries_settle u⟩

/-- A request of the right role and length that its owning block takes: its answer, and what that carries of the state the
block gives. -/
theorem State.Makes.taken {l : Link} {k : Kind} {tag : Byte} {body : Bytes} {handler : State → Judged} {s u : State} {code : Code}
    {rest : Bytes} {c : Change} (h : (s.accept l).Makes u c) (accepts : s.Accepts l) (role : k.allows l = true)
    (length : k.admits l body.length = true) (taken : handler (s.accept l) = .ok ⟨u, code, rest⟩) :
    s.Answered (Machine.request l k tag body handler s) l k.byte tag k.acting code rest c ∧
      u.Carries (Machine.request l k tag body handler s) := by
  have judged : judgeRequest l k body handler (s.accept l) = .ok ⟨u, code, rest⟩ :=
    (judgeRequest_passed role length handler _).trans taken
  refine ⟨h.answered accepts judged, ?_⟩
  rw [Machine.request, requestWith_ok accepts judged, reply_recordTag]
  obtain ⟨part, core, layers⟩ := carries_settle (u.onLink l fun r =>
    LinkRec.place k.byte tag code rest true { r with lastTag := if k.acting then some tag else r.lastTag })
  exact ⟨fun p => samePart_trans (by cases p <;> rfl) (part p), core, layers⟩

/-! ### The position whose link asks (03 R48) -/

theorem pos_accept_self (s : State) (n : Fin 8) : (s.accept (.tl n)).pos n = (s.pos n).hear s.settings.idleBlank := by
  show (State.onPos _ n _).pos n = _
  rw [State.pos_onPos_self]
  rfl

theorem pos_accept_ne (s : State) {n m : Fin 8} (h : m ≠ n) : (s.accept (.tl n)).pos m = s.pos m :=
  State.pos_onPos_ne _ _ h

theorem pos_accept_sl (s : State) (m : Fin 8) : (s.accept .sl).pos m = s.pos m := rfl

/-- The items of a position that hearing its link leaves. -/
theorem heard_items (s : State) (n m : Fin 8) :
    let p := (s.accept (.tl n)).pos m
    p.state = (s.pos m).state ∧ p.teller = (s.pos m).teller ∧ p.sensor = (s.pos m).sensor ∧ p.stopwatch = (s.pos m).stopwatch := by
  by_cases h : m = n
  · subst h
    rw [pos_accept_self]
    exact ⟨rfl, rfl, rfl, rfl⟩
  · rw [pos_accept_ne s h]
    exact ⟨rfl, rfl, rfl, rfl⟩

end Sys2Proof.Machine
end

section
/-! PROOF. Signing on, customer transactions, away and unlock (03 R38 to R43). -/

namespace Sys2Proof.Machine

/-! ### What each makes -/

section
variable (s : State) (n : Fin 8)

theorem makes_signOn (id : Nat) : s.Makes (s.signOn n id)
    { parts := [.jnl], positions := [n], notices := (.positionChanged, .sl) :: s.highJournal (s.signOn n id) } := by
  have signed := (makes_onPos s n fun p => { p with teller := some id, forced := false }).trans (makes_movePos _ n .ready)
  refine ((signed.trans (makes_append _ _)).widen ?_ ?_ (List.Subset.refl _) fun x => ?_)
  · exact List.Subset.refl _
  · simp [Change.andThen]
  · rw [highJournal_congr (s := s) (t := s.signOn n id) (by simp) rfl]
    exact Iff.rfl

theorem makes_openTxn : s.Makes (s.openTxn n) { positions := [n], notices := [(.positionChanged, .sl)] } :=
  ((makes_onPos s n _).trans (makes_movePos _ n .serving)).widen (List.Subset.refl _) (by simp [Change.andThen])
    (List.Subset.refl _) fun _ => Iff.rfl

theorem makes_endTxn : s.Makes (s.endTxn n) { parts := [.bal], positions := [n], windows := [n] } :=
  ((makes_onPos s n _).trans (makes_setBal _ _)).trans (makes_setAmount _ n none)

theorem makes_closeTxn : s.Makes ((s.endTxn n).movePos n .ready)
    { parts := [.bal], positions := [n], windows := [n], notices := [(.positionChanged, .sl)] } :=
  ((makes_endTxn s n).trans (makes_movePos _ n .ready)).widen (List.Subset.refl _) (by simp [Change.andThen])
    (List.Subset.refl _) fun _ => Iff.rfl

theorem makes_away : s.Makes ((s.onPos n Position.secure).movePos n .away)
    { positions := [n], notices := [(.positionChanged, .sl)] } :=
  ((makes_onPos s n _).trans (makes_movePos _ n .away)).widen (List.Subset.refl _) (by simp [Change.andThen])
    (List.Subset.refl _) fun _ => Iff.rfl

/-! ### What each leaves of the position's record -/

theorem pos_signOn (id : Nat) :
    (s.signOn n id).pos n = { s.pos n with state := .ready, teller := some id, forced := false } := by
  have same : (s.signOn n id).pos n =
      ((s.onPos n fun p => { p with teller := some id, forced := false }).movePos n .ready).pos n :=
    congrArg (fun v : Vec 8 Position => v.get n) (State.positions_append _ _)
  rw [same, pos_movePos_self, State.pos_onPos_self]

theorem jnl_signOn (id : Nat) :
    (s.signOn n id).jnl = s.jnl.withRecord s.day.seconds (Record.plain .signOn (.position n) id 0) := by
  rw [State.signOn, append_jnl]
  simp

theorem pos_openTxn : (s.openTxn n).pos n = { s.pos n with
    state := .serving, txnStart := some s.jnl.next, stopwatch := 0, running := true, serviceLimit := s.settings.serviceLimit
    serviceRaised := false } := by
  rw [State.openTxn, pos_movePos_self, State.pos_onPos_self]

theorem bal_endTxn : (s.endTxn n).bal =
    { s.bal with profiles := s.bal.profiles.set n ((s.profile n).addDuration (s.pos n).stopwatch) } := rfl

theorem window_endTxn : (s.endTxn n).window n = { s.window n with amount := none } := by
  rw [State.endTxn, State.setAmount, State.window_onWindow_self]
  rfl

end

/-! ### The checks -/

/-- A teller ID is free where no position holds it. -/
theorem tellerInUse_eq_false_iff (s : State) (id : Nat) : s.tellerInUse id = false ↔ ∀ m, (s.pos m).teller ≠ some id := by
  rw [State.tellerInUse, Bool.eq_false_iff, Ne, Vec.any_iff, not_exists]
  exact forall_congr' fun m => not_congr beq_iff_eq

theorem takesCustomer_iff (j : Journal) :
    j.takesCustomer = true ↔ (j.records.filter (fun r => r.kind.customer)).length < 4032 ∧ j.records.length < 4096 := by
  rw [Journal.takesCustomer, Bool.and_eq_true, decide_eq_true_iff, decide_eq_true_iff]
  rfl

/-- The number in a body that is that number alone. -/
theorem field_be_alone (k n : Nat) (h : n < 256 ^ k) : field (be k n) 0 k = n := by
  have read := field_be k n []
  rwa [List.append_nil, Nat.mod_eq_of_lt h] at read

/-- A row that is a request of the right role and length, refused by its owning block. -/
theorem refuses_of_row {l : Link} {k : Kind} {tag : Byte} {body : Bytes} {handler : State → Judged} {s : State} {c : Instr}
    {code : Code} (row : exec c s = .next (request l k tag body handler s)) (accepts : s.Accepts l) (role : k.allows l = true)
    (length : k.admits l body.length = true) (h : handler (s.accept l) = .error code) : s.Refuses c l k.byte tag code :=
  ⟨_, row, refuses_request accepts role length h⟩

theorem exec_signOn (n : Fin 8) (tag : Byte) (s : State) {id : Nat} (fits : id < 65536) :
    exec (.signOn (.tl n) tag (be 2 id)) s = .next (request (.tl n) .signOn tag (be 2 id) (signOn id n) s) := by
  show Host.Outcome.next (request (.tl n) .signOn tag (be 2 id) (signOn (field (be 2 id) 0 2) n) s) = _
  rw [field_be_alone 2 id fits]

theorem exec_unlock (n : Fin 8) (tag : Byte) (s : State) {id : Nat} (fits : id < 65536) :
    exec (.unlock (.tl n) tag (be 2 id)) s = .next (request (.tl n) .unlock tag (be 2 id) (unlock id n) s) := by
  show Host.Outcome.next (request (.tl n) .unlock tag (be 2 id) (unlock (field (be 2 id) 0 2) n) s) = _
  rw [field_be_alone 2 id fits]

end Sys2Proof.Machine

open Sys2Proof Sys2Proof.Machine

/-- Settles O16: the checks in their order, judged on the state that the request's arrival leaves. -/
theorem signOnIsJudgedAndTaken : Obligations.SignOnIsJudgedAndTaken := by
  intro n tag id s accepts fits c inRange unused room
  have row : exec c s = _ := exec_signOn n tag s fits
  have day := State.day_accept s (.tl n)
  have jnl := State.jnl_accept s (.tl n)
  obtain ⟨state, -⟩ := heard_items s n n
  have free : (s.accept (.tl n)).tellerInUse id = false ↔ unused := by
    rw [tellerInUse_eq_false_iff]
    exact forall_congr' fun m => by rw [(heard_items s n m).2.1]
  have space : (s.accept (.tl n)).jnl.takesCustomer = true ↔ room := by rw [jnl, takesCustomer_iff]
  have refuses {code : Code} (h : signOn id n (s.accept (.tl n)) = .error code) : s.Refuses c (.tl n) 9 tag code :=
    refuses_of_row (k := .signOn) row accepts rfl rfl h
  refine ⟨fun out => refuses (check_neg out), fun (ok : 1 ≤ id ∧ id ≤ Config.maxTeller) closed => refuses ?_,
    fun (ok : 1 ≤ id ∧ id ≤ Config.maxTeller) opened busy => refuses ?_,
    fun (ok : 1 ≤ id ∧ id ≤ Config.maxTeller) opened closed used => refuses ?_,
    fun (ok : 1 ≤ id ∧ id ≤ Config.maxTeller) opened closed new full => refuses ?_,
    fun (ok : 1 ≤ id ∧ id ≤ Config.maxTeller) opened closed new fit => ?_⟩
  · rw [signOn, check_pos ok, check_neg (day ▸ closed)]
  · rw [signOn, check_pos ok, check_pos (day ▸ opened), check_neg (state ▸ busy)]
  · rw [signOn, check_pos ok, check_pos (day ▸ opened), check_pos (state ▸ closed), check_neg (mt free.1 used)]
  · rw [signOn, check_pos ok, check_pos (day ▸ opened), check_pos (state ▸ closed), check_pos (free.2 new),
      check_neg (mt space.1 full)]
  · have judged : signOn id n (s.accept (.tl n)) = .ok ⟨(s.accept (.tl n)).signOn n id, .ok, be 2 s.jnl.next⟩ := by
      rw [signOn, check_pos ok, check_pos (day ▸ opened), check_pos (state ▸ closed), check_pos (free.2 new),
        check_pos (space.2 fit), jnl]
      rfl
    obtain ⟨answered, carries⟩ := (makes_signOn (s.accept (.tl n)) n id).taken (k := .signOn) (tag := tag) (body := be 2 id)
      accepts rfl rfl judged
    rw [← highJournal_congr jnl.symm (carries.part .jnl)] at answered
    refine ⟨_, row, answered, ?_, (carries.part .jnl).trans ?_⟩
    · rw [carries.core, pos_signOn, pos_accept_self]
      rfl
    · rw [jnl_signOn, jnl, day]

/-- Settles O17: OPEN-TXN and CLOSE-TXN by their checks, and what each leaves of its position, its profile and its window. -/
theorem transactionsOpenAndClose : Obligations.TransactionsOpenAndClose := by
  intro n tag s accepts c e d f
  have day := State.day_accept s (.tl n)
  have jnl := State.jnl_accept s (.tl n)
  obtain ⟨state, -, sensor, stopwatch⟩ := heard_items s n n
  have refuses {code : Code} (h : openTxn n (s.accept (.tl n)) = .error code) : s.Refuses c (.tl n) 10 tag code :=
    refuses_of_row (k := .openTxn) rfl accepts rfl rfl h
  refine ⟨fun closed => refuses (check_neg (day ▸ closed)), fun opened busy => refuses ?_, fun opened ready out => refuses ?_,
    fun opened ready shut => ?_, fun busy => ?_, fun serving => ?_⟩
  · rw [openTxn, check_pos (day ▸ opened), check_neg (state ▸ busy)]
  · rw [openTxn, check_pos (day ▸ opened), check_pos (state ▸ ready), check_neg (by rw [sensor, out]; decide)]
  · have judged : openTxn n (s.accept (.tl n)) = .ok ⟨(s.accept (.tl n)).openTxn n, .ok, []⟩ := by
      rw [openTxn, check_pos (day ▸ opened), check_pos (state ▸ ready), check_pos (sensor ▸ shut)]
      rfl
    obtain ⟨answered, carries⟩ := (makes_openTxn (s.accept (.tl n)) n).taken (k := .openTxn) (tag := tag) (body := [])
      accepts rfl rfl judged
    refine ⟨_, rfl, answered, (carries.core n).trans ?_⟩
    rw [pos_openTxn, pos_accept_self, jnl, State.settings_accept]
    rfl
  · exact refuses_of_row (k := .closeTxn) rfl accepts rfl rfl (check_neg (state ▸ busy))
  · have judged : closeTxn n (s.accept (.tl n)) = .ok ⟨((s.accept (.tl n)).endTxn n).movePos n .ready, .ok, be 3 d⟩ := by
      rw [closeTxn, check_pos (state ▸ serving), stopwatch]
      rfl
    obtain ⟨answered, carries⟩ := (makes_closeTxn (s.accept (.tl n)) n).taken (k := .closeTxn) (tag := tag) (body := [])
      accepts rfl rfl judged
    obtain ⟨text, amount, current⟩ := carries.layers n
    have window : (((s.accept (.tl n)).endTxn n).movePos n .ready).window n = { s.window n with amount := none } := by
      have same : (s.accept (.tl n)).window n = s.window n := by simp only [State.window, State.windows_accept]
      rw [← same, ← window_endTxn]
      simp only [State.window, State.windows_movePos]
    rw [window] at text amount current
    refine ⟨_, rfl, answered, (carries.core n).trans ?_, text, amount, current, (carries.part .bal).trans ?_⟩
    · rw [pos_movePos_self, pos_endTxn_self, pos_accept_self]
      rfl
    · rw [State.bal_movePos, bal_endTxn, stopwatch, State.bal_accept, State.profile, State.bal_accept]
      rfl

/-- Settles O19: AWAY and UNLOCK by their checks; the lock locks at AWAY and stays at UNLOCK. -/
theorem awayAndUnlockMoveThePosition : Obligations.AwayAndUnlockMoveThePosition := by
  intro n tag id s accepts fits a u
  obtain ⟨state, teller, sensor, -⟩ := heard_items s n n
  have row : exec u s = _ := exec_unlock n tag s fits
  have refuses {code : Code} (h : unlock id n (s.accept (.tl n)) = .error code) : s.Refuses u (.tl n) 13 tag code :=
    refuses_of_row (k := .unlock) row accepts rfl rfl h
  refine ⟨fun busy => ?_, fun ready out => ?_, fun ready shut => ?_, fun out => refuses (check_neg out),
    fun (ok : 1 ≤ id ∧ id ≤ Config.maxTeller) here => refuses ?_,
    fun (ok : 1 ≤ id ∧ id ≤ Config.maxTeller) gone other => refuses ?_,
    fun (ok : 1 ≤ id ∧ id ≤ Config.maxTeller) gone own => ?_⟩
  · exact refuses_of_row (k := .away) rfl accepts rfl rfl (check_neg (state ▸ busy))
  · refine refuses_of_row (k := .away) (handler := away n) rfl accepts rfl rfl ?_
    rw [away, check_pos (state ▸ ready), check_neg (by rw [sensor, out]; decide)]
  · have judged : away n (s.accept (.tl n)) = .ok ⟨((s.accept (.tl n)).onPos n Position.secure).movePos n .away, .ok, []⟩ := by
      rw [away, check_pos (state ▸ ready), check_pos (sensor ▸ shut)]
      rfl
    obtain ⟨answered, carries⟩ := (makes_away (s.accept (.tl n)) n).taken (k := .away) (tag := tag) (body := []) accepts rfl rfl judged
    refine ⟨_, rfl, answered, (carries.core n).trans ?_⟩
    rw [pos_movePos_self, State.pos_onPos_self, pos_accept_self]
    rfl
  · rw [unlock, check_pos ok, check_neg (state ▸ here)]
  · rw [unlock, check_pos ok, check_pos (state ▸ gone), check_neg (teller ▸ other)]
  · have judged : unlock id n (s.accept (.tl n)) = .ok ⟨(s.accept (.tl n)).movePos n .ready, .ok, []⟩ := by
      rw [unlock, check_pos ok, check_pos (state ▸ gone), check_pos (teller ▸ own)]
      rfl
    obtain ⟨answered, carries⟩ := (makes_movePos (s.accept (.tl n)) n .ready).taken (k := .unlock) (tag := tag) (body := be 2 id)
      accepts rfl rfl judged
    refine ⟨_, row, answered, (carries.core n).trans ?_⟩
    rw [pos_movePos_self, pos_accept_self]
    rfl
end

section
/-! PROOF. A drawer's opening and shutting, its release window's end, and the watches of a position (03 R48 to R56). -/

namespace Sys2Proof.Machine

section
variable (s : State) (n : Fin 8)

/-! ### Openings (03 R51, R54) -/

/-- The record of a forced opening, asked for in a working day (03 R54). -/
theorem jnl_forcedOpening : (s.forcedOpening n).jnl =
    if s.day.state = .opened ∨ s.day.state = .cutoff then
      s.jnl.withSystem s.day.seconds (Record.plain .drawerForced (.position n) (s.pos n).tellerNum 0)
    else s.jnl := by
  have teller : (((s.onPos n fun p => { p with forced := true }).notify .drawerForced .sl).pos n).tellerNum =
      (s.pos n).tellerNum := by
    rw [pos_notify, State.pos_onPos_self]
    rfl
  unfold State.forcedOpening
  dsimp only
  rw [State.day_notify, State.day_onPos]
  split
  · rw [appendSystem_jnl, teller, State.jnl_notify, State.day_notify]
    rfl
  · exact State.jnl_notify _ _ _

theorem makes_forcedOpening : s.Makes (s.forcedOpening n)
    { parts := [.jnl], positions := [n], notices := (.drawerForced, .sl) :: s.highJournal (s.forcedOpening n) } := by
  have marked := (makes_onPos s n fun p => { p with forced := true }).trans (makes_notify _ (k := .drawerForced) (l := .sl) rfl)
  have same : ((s.onPos n fun p => { p with forced := true }).notify .drawerForced .sl).jnl = s.jnl := State.jnl_notify _ _ _
  unfold State.forcedOpening
  dsimp only
  split
  · refine (marked.trans (makes_appendSystem _ _)).widen (List.Subset.refl _) (List.Subset.refl _) (List.Subset.refl _) fun x => ?_
    rw [highJournal_congr same.symm rfl]
    exact Iff.rfl
  · refine marked.widen (List.nil_subset _) (List.Subset.refl _) (List.Subset.refl _) fun x => ?_
    rw [highJournal_same same]
    exact Iff.rfl

/-- An opening of a RELEASED drawer that is SHUT. -/
theorem opening_released (shut : (s.pos n).sensor = .shut) (released : (s.pos n).lock = .released) :
    s.opening n = s.onPos n (Position.open s.settings.openLimit) := by
  rw [State.opening, if_pos shut, if_neg (by rw [released]; decide)]

/-- An opening of a LOCKED drawer that is SHUT is forced. -/
theorem opening_locked (shut : (s.pos n).sensor = .shut) (locked : (s.pos n).lock = .locked) :
    s.opening n = (s.onPos n (Position.open s.settings.openLimit)).forcedOpening n := by
  rw [State.opening, if_pos shut, if_pos locked]

theorem pos_forcedOpening : (s.forcedOpening n).pos n = { s.pos n with forced := true } := by
  rw [State.pos, positions_forcedOpening]
  exact State.pos_onPos_self s n _

/-- A forced opening marks its position and asks for its record. -/
theorem makes_opening_locked (shut : (s.pos n).sensor = .shut) (locked : (s.pos n).lock = .locked) : s.Makes (s.opening n)
    { parts := [.jnl], positions := [n], notices := (.drawerForced, .sl) :: s.highJournal (s.opening n) } := by
  have opened := opening_locked s n shut locked
  have made := (makes_onPos s n (Position.open s.settings.openLimit)).trans (makes_forcedOpening _ n)
  rw [← opened] at made
  exact made.widen (List.Subset.refl _) (by simp [Change.andThen]) (List.Subset.refl _) fun _ => Iff.rfl

end

/-- An event that finds nothing to do changes nothing. -/
theorem event_nothing {s t : State} (alive : s.alive = true) (h : t = s) : s.Event t.settle {} := by
  rw [h]
  exact (State.Makes.refl s).event alive

theorem PosState.mayIdle_iff (st : PosState) : st.mayIdle = true ↔ st = .ready ∨ st = .closed ∨ st = .away := by
  cases st <;> decide

end Sys2Proof.Machine

open Sys2Proof Sys2Proof.Machine

/-- Settles O22: each event by the sensor, the lock and the window it finds. -/
theorem drawerOpensShutsAndLocks : Obligations.DrawerOpensShutsAndLocks := by
  intro n s alive p
  have row {f : State → State} : Host.Outcome.next (event f s) = (.next (f s).settle : Host.Outcome State Fault Refusal) :=
    congrArg Host.Outcome.next (event_alive f alive)
  refine ⟨fun shut released => ?_, fun shut locked => ?_, fun out => ?_, fun waits shut => ?_, fun out => ?_, fun shut => ?_,
    fun off => ?_⟩
  · obtain ⟨event, carries⟩ := (makes_onPos s n (Position.open s.settings.openLimit)).takes alive
    rw [← opening_released s n shut released] at event carries
    refine ⟨_, row, event, (carries.core n).trans ?_⟩
    rw [opening_released s n shut released, State.pos_onPos_self]
    rfl
  · have opened := opening_locked s n shut locked
    obtain ⟨event, carries⟩ := (makes_opening_locked s n shut locked).takes alive
    rw [← highJournal_congr rfl (carries.part .jnl)] at event
    refine ⟨_, row, event, (carries.core n).trans ?_, (carries.part .jnl).trans ?_⟩
    · rw [opened, pos_forcedOpening, State.pos_onPos_self]
      rfl
    · rw [opened, jnl_forcedOpening, State.pos_onPos_self]
      rfl
  · obtain ⟨event, carries⟩ := (makes_onPos s n Position.shut).takes alive
    have shuts : s.shutting n = s.onPos n Position.shut := if_pos out
    rw [← shuts] at event carries
    refine ⟨_, row, event, (carries.core n).trans ?_⟩
    rw [shuts, State.pos_onPos_self]
    rfl
  · obtain ⟨event, carries⟩ := (makes_onPos s n Position.secure).takes alive
    have ends : s.windowEnd n = s.onPos n Position.secure := if_pos ⟨Option.isSome_iff_ne_none.2 waits, shut⟩
    rw [← ends] at event carries
    refine ⟨_, row, event, (carries.core n).trans ?_⟩
    rw [ends, State.pos_onPos_self]
    rfl
  · exact ⟨_, row, event_nothing alive (if_neg (by rw [show (s.pos n).sensor = .opened from out]; decide))⟩
  · exact ⟨_, row, event_nothing alive (if_neg (by rw [show (s.pos n).sensor = .shut from shut]; decide))⟩
  · refine ⟨_, row, event_nothing alive (if_neg fun ⟨waits, shut⟩ => ?_)⟩
    rcases off with none | out
    · exact Option.isSome_iff_ne_none.1 waits none
    · exact absurd (shut.symm.trans out) (by decide)

/-- Settles O23: each watch by what it finds, and the idle flag as the end of the change judges it. -/
theorem drawerAndServiceWatchesRun : Obligations.DrawerAndServiceWatchesRun := by
  intro n level s alive p
  have row {f : State → State} : Host.Outcome.next (event f s) = (.next (f s).settle : Host.Outcome State Fault Refusal) :=
    congrArg Host.Outcome.next (event_alive f alive)
  refine ⟨?_, fun out first => ?_, fun done => ?_, fun runs first => ?_, fun done => ?_, fun may => ?_, fun a b c => ?_⟩
  · obtain ⟨event, carries⟩ := (makes_onPos s n (Position.sense level)).takes alive
    refine ⟨_, congrArg Host.Outcome.next (if_pos alive), event, (carries.core n).trans ?_⟩
    rw [State.pos_onPos_self, Position.sense]
    cases (s.pos n).hold <;> rfl
  · have made := ((makes_onPos s n fun p => { p with longRaised := true, openTime := max p.openTime (p.openLimit * 100) }).trans
      (makes_notify _ (k := .drawerLong) (l := .tl n) rfl)).trans (makes_notify _ (k := .drawerLong) (l := .sl) rfl)
    have long : s.drawerLong n = _ := if_pos ⟨out, first⟩
    rw [← long] at made
    obtain ⟨event, carries⟩ := made.takes alive
    refine ⟨_, row, event, (carries.core n).trans ?_⟩
    rw [long, pos_notify, pos_notify, State.pos_onPos_self]
    rfl
  · exact ⟨_, row, event_nothing alive (if_neg done)⟩
  · have made := (makes_onPos s n fun p => { p with serviceRaised := true, stopwatch := max p.stopwatch (p.serviceLimit * 100) }).trans
      (makes_notify _ (k := .serviceLong) (l := .sl) rfl)
    have long : s.serviceLong n = _ := if_pos ⟨runs, first⟩
    rw [← long] at made
    obtain ⟨event, carries⟩ := made.takes alive
    refine ⟨_, row, event, (carries.core n).trans ?_⟩
    rw [long, pos_notify, State.pos_onPos_self]
    rfl
  · exact ⟨_, row, event_nothing alive (if_neg done)⟩
  · have idles : (s.pos n).state.mayIdle = true := (PosState.mayIdle_iff _).2 may
    have reached : s.idleReached n = s.onPos n fun p => { p with silence := max p.silence (s.settings.idleBlank * 100) } :=
      if_pos idles
    obtain ⟨event, carries⟩ := (makes_onPos s n fun p => { p with silence := max p.silence (s.settings.idleBlank * 100) }).takes alive
    rw [← reached] at event carries
    refine ⟨_, row, event, ?_, (carries.core n).trans ?_⟩
    · rw [reached, pos_settle (show (s.onPos n _).alive = true from alive), State.pos_onPos_self]
      simp [Position.isIdle, idles]
    · rw [reached, State.pos_onPos_self]
      rfl
  · have awake : (s.pos n).state.mayIdle = false :=
      Bool.eq_false_iff.2 (mt (PosState.mayIdle_iff _).1 (not_or.2 ⟨a, not_or.2 ⟨b, c⟩⟩))
    have stays : s.idleReached n = s := if_neg (by rw [awake]; decide)
    refine ⟨_, row, event_nothing alive stays, ?_⟩
    rw [stays, pos_settle alive]
    simp [Position.isIdle, awake]
end

section
/-! PROOF. What displays and lamps are composed of (03 R48, 08 R163, 09 R166 to R176). -/

namespace Sys2Proof.Machine

/-! ### The print overlay (08 R163) -/

theorem Printer.runsFor_iff (n : Fin 8) (r : Printer) : r.runsFor n = true ↔ r.job.map Job.position = some n := by
  unfold Printer.runsFor
  cases r.job <;> simp

theorem Printer.holdsLeft_iff (n : Fin 8) (r : Printer) :
    r.holdsLeft n = true ↔ r.state ∈ [.waitRemoval, .ejecting] ∧ r.job = none ∧ r.leftBy = some n := by
  simp [Printer.holdsLeft, and_assoc]

theorem textInsertBook_eq (q : Fin 2) : textInsertBook q =
    [0x49, 0x4E, 0x53, 0x45, 0x52, 0x54, 0x20, 0x42, 0x4F, 0x4F, 0x4B, 0x20, 0x50, if q = 0 then 0x30 else 0x31] := by
  obtain rfl | rfl := fin2_cases q <;> rfl

/-- The text of a running job, by its printer's state. -/
theorem Printer.jobText_eq (q : Fin 2) (r : Printer) : r.jobText q = match r.state with
    | .waitBook => some (textInsertBook q)
    | .confirming => some (if r.confirmReturn = some .pageTurn then textTurnPage else textInsertBook q)
    | .pageTurn => some textTurnPage
    | .waitRemoval =>
      if r.stage = some .pageEnd then some textTurnPage else if r.stage = some .final then some textTakeBook else none
    | _ => none := by
  unfold Printer.jobText
  cases r.state
  case confirming => rcases r.confirmReturn with _ | _ | _ <;> rfl
  case waitRemoval => rcases r.stage with _ | _ | _ | _ <;> rfl
  all_goals rfl

theorem Pbu.jobText_eq (u : Pbu) (n : Fin 8) (q : Fin 2) : u.jobText n q =
    if (u.printers.get q).job.map Job.position = some n then (u.printers.get q).jobText q else none := by
  unfold Pbu.jobText
  simp only [Printer.runsFor_iff]

theorem Pbu.overlay_eq (u : Pbu) (n : Fin 8) : u.overlay n =
    if u.jobText n 0 ≠ none then u.jobText n 0 else if u.jobText n 1 ≠ none then u.jobText n 1
    else if u.seeTeller.get n ≠ none then some textSeeTeller
    else if (u.printers.get 0).holdsLeft n = true ∨ (u.printers.get 1).holdsLeft n = true then some textTakeBook else none := by
  unfold Pbu.overlay
  cases u.jobText n 0 with
  | some b => rfl
  | none =>
    cases u.jobText n 1 with
    | some b => rfl
    | none => simp only [ne_eq, not_true_eq_false, if_false, Option.isSome_iff_ne_none, Bool.or_eq_true]

theorem positionOverlay_eq (day : DayState) (st : PosState) : positionOverlay day st =
    if day = .closed then some branchClosed else if st = .closed then some textPositionClosed
    else if st = .away then some textNextWindow else none := by
  cases day <;> cases st <;> rfl

/-! ### Sixteen characters (00 R1, 09 R166) -/

theorem length_padRight {w : Nat} {b : Bytes} (h : b.length ≤ w) : (padRight w b).length = w := by
  rw [padRight, List.length_append, List.length_replicate]
  omega

theorem length_padLeft {w : Nat} {b : Bytes} (h : b.length ≤ w) : (padLeft w b).length = w := by
  rw [padLeft, List.length_append, List.length_replicate]
  omega

/-- A number below `10 ^ k` has at most `k` digits. -/
theorem length_digitsFrom (fuel : Nat) {n k : Nat} (acc : Bytes) (h : n < 10 ^ k) (hk : 1 ≤ k) :
    (digitsFrom fuel n acc).length ≤ acc.length + k := by
  induction fuel generalizing n k acc with
  | zero => exact Nat.le_add_right _ _
  | succ fuel ih =>
    unfold digitsFrom
    dsimp only
    split
    · rw [List.length_cons]
      omega
    · next more =>
      obtain ⟨k, rfl⟩ := Nat.exists_eq_add_of_le' hk
      have less : n / 10 < 10 ^ k := by
        rw [Nat.pow_succ] at h
        omega
      have some_ : 1 ≤ k := Nat.one_le_iff_ne_zero.2 fun e => more (by rw [e] at less; omega)
      have rest := ih (BitVec.ofNat 8 (0x30 + n % 10) :: acc) less some_
      rw [List.length_cons] at rest
      omega

theorem length_decimal {n k : Nat} (h : n < 10 ^ k) (hk : 1 ≤ k) : (decimal n).length ≤ k := by
  have digits := length_digitsFrom (n.log2 + 1) [] h hk
  rwa [List.length_nil, Nat.zero_add] at digits

/-- A comma after every third digit. -/
theorem length_groupRev (b : Bytes) : (groupRev b).length ≤ b.length + b.length / 3 := by
  induction b using groupRev.induct with
  | case1 a b c d rest ih =>
    simp only [groupRev, List.length_cons] at ih ⊢
    omega
  | case2 l h =>
    rw [groupRev]
    · exact Nat.le_add_right _ _
    · exact h

theorem length_fixedDigits {n k : Nat} (h : n < 10 ^ k) (hk : 1 ≤ k) : (fixedDigits k n).length = k := by
  have digits := length_decimal h hk
  rw [fixedDigits, List.length_append, List.length_replicate]
  omega

theorem length_whole {n k : Nat} (h : n < 10 ^ k) (hk : 1 ≤ k) : (groupRev (decimal n).reverse).reverse.length ≤ k + k / 3 := by
  have digits := length_decimal h hk
  have grouped := length_groupRev (decimal n).reverse
  rw [List.length_reverse] at grouped ⊢
  omega

/-- Every amount of a posting is shown in sixteen characters, whatever the minor digits (04 R61, 00 R1). -/
theorem length_renderNat {m a : Nat} (minor : m = 0 ∨ m = 2 ∨ m = 3) (h : a ≤ 9999999999) : (renderNat m a).length ≤ 16 := by
  have below : a < 10 ^ 10 := by omega
  unfold renderNat
  dsimp only
  rcases minor with rfl | rfl | rfl
  · rw [if_pos rfl, pow_zero, Nat.div_one]
    exact (length_whole below (by decide)).trans (by decide)
  · have whole := length_whole (n := a / 10 ^ 2) (k := 8) (by omega) (by decide)
    have minor := length_fixedDigits (n := a % 10 ^ 2) (k := 2) (Nat.mod_lt _ (by decide)) (by decide)
    rw [if_neg (by decide), List.length_append, List.length_cons]
    omega
  · have whole := length_whole (n := a / 10 ^ 3) (k := 7) (by omega) (by decide)
    have minor := length_fixedDigits (n := a % 10 ^ 3) (k := 3) (Nat.mod_lt _ (by decide)) (by decide)
    rw [if_neg (by decide), List.length_append, List.length_cons]
    omega

theorem Printer.length_jobText {q : Fin 2} {r : Printer} {b : Bytes} (h : r.jobText q = some b) : b.length ≤ 16 := by
  have insert : (textInsertBook q).length ≤ 16 := by rw [textInsertBook_eq]; simp
  have turn : textTurnPage.length ≤ 16 := by decide
  have take : textTakeBook.length ≤ 16 := by decide
  unfold Printer.jobText at h
  split at h
  · exact Option.some.inj h ▸ insert
  · exact Option.some.inj h ▸ turn
  · exact Option.some.inj h ▸ insert
  · exact Option.some.inj h ▸ turn
  · exact Option.some.inj h ▸ turn
  · exact Option.some.inj h ▸ take
  · cases h

theorem Pbu.length_overlay {u : Pbu} {n : Fin 8} {b : Bytes} (h : u.overlay n = some b) : b.length ≤ 16 := by
  have job {q : Fin 2} {b : Bytes} (h : u.jobText n q = some b) : b.length ≤ 16 := by
    unfold Pbu.jobText at h
    split at h
    · exact Printer.length_jobText h
    · cases h
  have see : textSeeTeller.length ≤ 16 := by decide
  have take : textTakeBook.length ≤ 16 := by decide
  rw [Pbu.overlay_eq] at h
  split at h
  · exact job h
  · split at h
    · exact job h
    · split at h
      · cases h
        exact see
      · split at h
        · cases h
          exact take
        · cases h

theorem length_positionOverlay {day : DayState} {st : PosState} {b : Bytes} (h : positionOverlay day st = some b) : b.length ≤ 16 := by
  have branch : branchClosed.length ≤ 16 := by decide
  have closed : textPositionClosed.length ≤ 16 := by decide
  have next : textNextWindow.length ≤ 16 := by decide
  rw [positionOverlay_eq] at h
  split at h
  · cases h
    exact branch
  · split at h
    · cases h
      exact closed
    · split at h
      · cases h
        exact next
      · cases h

theorem State.length_overlay {s : State} {n : Fin 8} {o : Overlay} (h : s.overlay n = some o) : o.text.length ≤ 16 := by
  unfold State.overlay at h
  split at h
  · next t shown =>
    cases h
    exact Pbu.length_overlay shown
  · obtain ⟨t, shown, rfl⟩ := Option.map_eq_some_iff.1 h
    exact length_positionOverlay shown

/-- A display shows sixteen characters, whichever layer is the first. -/
theorem length_composeCells {m : Nat} {overlay : Option Overlay} {text : Option TextLayer} {amount : Option Nat}
    (minor : m = 0 ∨ m = 2 ∨ m = 3) (ho : ∀ o, overlay = some o → o.text.length ≤ 16) (ht : ∀ x, text = some x → x.text.length ≤ 16)
    (ha : ∀ a, amount = some a → a ≤ 9999999999) : (composeCells m overlay text amount).length = 16 := by
  unfold composeCells
  split
  · exact length_padRight (ho _ rfl)
  · exact length_padRight (ht _ rfl)
  · exact length_padLeft (length_renderNat minor (ha _ rfl))
  · rfl

/-! ### Lamps (09 R176) -/

theorem Pbu.faultStands_iff (u : Pbu) (n : Fin 8) : u.faultStands n = true ↔
    (u.results.get n).outcome = .faulted ∧ ∃ q, (u.results.get n).printer = some q ∧ (u.printers.get q).state = .fault := by
  unfold Pbu.faultStands
  dsimp only
  generalize (u.results.get n).printer = q
  cases q <;> simp

theorem lampPattern_eq (s : State) (n : Fin 8) : s.lampPattern n =
    if (s.pos n).state = .forceWait ∨ (s.pos n).forced = true ∨ (s.pos n).longRaised = true ∨ (s.pos n).serviceRaised = true ∨
      s.pbu.faultStands n = true then .fast
    else if (s.pos n).state = .held ∨ (s.pos n).state = .outOfBalance then .slow
    else if s.cash.high.get n then .wink
    else if (s.pos n).state = .closed then .off else .steady := by
  have fast : ((s.pos n).state = .forceWait ∨ (s.pos n).forced = true ∨ (s.pos n).longRaised = true ∨
      (s.pos n).serviceRaised = true ∨ s.pbu.faultStands n = true) ↔
      ((s.pos n).state = .forceWait ∨ (s.pos n).forced = true ∨ s.pbu.faultStands n = true) ∨
        ((s.pos n).longRaised = true ∨ (s.pos n).serviceRaised = true) := by tauto
  simp only [fast, ite_or (P := (s.pos n).state = .forceWait ∨ (s.pos n).forced = true ∨ s.pbu.faultStands n = true)]
  unfold State.lampPattern
  simp only [ne_eq, ite_not]

/-! ### A composed window (09 R165 to R176) -/

section
variable {s : State} (alive : s.alive = true) (n : Fin 8)
include alive

theorem overlay_settled : (s.settle.window n).overlay = s.overlay n := by
  rw [window_settle alive]
  show s.settleIdle.overlay n = _
  rw [State.overlay, pos_settleIdle]
  rfl

theorem cells_settled : (s.settle.window n).cells =
    composeCells s.day.minorDigits (s.overlay n) (s.settle.window n).text (s.settle.window n).amount := by
  rw [← overlay_settled alive, window_settle alive]
  rfl

theorem blank_settled : (s.settle.window n).blank = ((s.settle.pos n).idle && (s.pbu.overlay n).isNone) := by
  rw [window_settle alive, pos_settle alive, ← pos_settleIdle]
  rfl

theorem target_settled :
    (s.settle.window n).target = if (s.settle.window n).blank then 0 else s.settings.brightness := by
  rw [window_settle alive]
  rfl

theorem pattern_settled : (s.settle.window n).pattern = s.settle.lampPattern n := by
  rw [window_settle alive, settle_alive alive]
  rfl

end

end Sys2Proof.Machine

open Sys2Proof Sys2Proof.Machine

/-- Settles O48: the statement's layers are the model's overlays, and a composed window shows the first of them. -/
theorem displaysShowTheFirstLayer : Obligations.DisplaysShowTheFirstLayer := by
  intro n s alive t p w insert turn take prompt left print position shows
  have prompted (q : Fin 2) : prompt q = s.pbu.jobText n q := by
    rw [Pbu.jobText_eq, Printer.jobText_eq, textInsertBook_eq]
    rfl
  have leaves (q : Fin 2) : left q ↔ (s.printer q).holdsLeft n = true := (Printer.holdsLeft_iff n _).symm
  have printed : print = s.pbu.overlay n := by
    rw [Pbu.overlay_eq]
    simp only [print, prompted, leaves]
    rfl
  have state : p.state = (s.pos n).state := by simp only [p, t, pos_settle alive]
  have positioned : position = positionOverlay s.day.state (s.pos n).state := by
    rw [positionOverlay_eq, ← state]
    rfl
  have overlay : w.overlay = s.overlay n := overlay_settled alive n
  have cells : w.cells = composeCells s.day.minorDigits (s.overlay n) w.text w.amount := cells_settled alive n
  have pattern : w.pattern = t.lampPattern n := pattern_settled alive n
  clear_value print position
  subst printed positioned
  refine ⟨settle_settle s, ?_, fun b shown => ?_, fun none b shown => ?_, fun none bare => ⟨?_, fun x text => ?_, fun text a amount => ?_,
    fun text amount => ?_⟩, fun parameters texts amounts => ?_, ?_, target_settled alive n, ?_⟩
  · rw [← PosState.mayIdle_iff]
    simp only [p, t, pos_settle alive, Position.isIdle, Bool.and_eq_true, decide_eq_true_eq]
  · have first : s.overlay n = some ⟨b, .pbu⟩ := by simp only [State.overlay, shown]
    rw [first] at overlay cells
    exact ⟨overlay, cells⟩
  · have first : s.overlay n = some ⟨b, .pos⟩ := by simp only [State.overlay, none, shown, Option.map_some]
    rw [first] at overlay cells
    exact ⟨overlay, cells⟩
  · rw [overlay, State.overlay, none, bare]
    rfl
  · rw [State.overlay, none, bare, text] at cells
    exact cells
  · rw [State.overlay, none, bare, text, amount] at cells
    exact cells
  · rw [State.overlay, none, bare, text, amount] at cells
    exact cells
  · rw [cells]
    exact length_composeCells parameters.1 (fun o => State.length_overlay) texts amounts
  · show (s.settle.window n).blank = true ↔ _
    rw [blank_settled alive, Bool.and_eq_true, Option.isNone_iff_eq_none]
  · simp only [pattern, lampPattern_eq, Pbu.faultStands_iff, t, State.pbu_settle, State.cash_settle]
    rfl
end

section
/-! PROOF. Reading a position (03 R57, R58, 06 R100, 11 R199). -/

namespace Sys2Proof.Machine

/-! ### Items as bytes (11 R199) -/

theorem be_one (k : Nat) : be 1 k = [BitVec.ofNat 8 k] := by simp [be]

theorem be_boolNum (b : Bool) : be 1 (boolNum b) = flagByte (b = true) := by cases b <;> rfl

theorem be_isSome {α : Type} (o : Option α) [Decidable (o ≠ none)] : be 1 (boolNum o.isSome) = flagByte (o ≠ none) := by
  rw [be_boolNum]
  simp only [flagByte, Option.isSome_iff_ne_none]

theorem be_lock (l : Lock) : be 1 l.num = flagByte (l = .released) := by cases l <;> rfl

theorem be_sensor (x : Sensor) : be 1 (sensorNum x) = flagByte (x = .opened) := by cases x <;> rfl

theorem Position.bytes_eq (p : Position) : p.bytes = List.flatten
    [[BitVec.ofNat 8 p.state.num], be 2 (p.teller.getD 0), be 2 (p.txnStart.getD 0), flagByte (p.lock = .released),
     be 2 (p.window.getD 0), flagByte (p.sensor = .opened), be 3 p.openTime, flagByte (p.longRaised = true),
     flagByte (p.forced = true), be 3 p.stopwatch, flagByte (p.running = true), flagByte (p.serviceRaised = true),
     flagByte (p.idle = true)] := by
  simp only [Position.bytes, be_boolNum, be_lock, be_sensor, be_one p.state.num, List.flatten_cons, List.flatten_nil,
    List.append_nil, List.append_assoc]

/-- The silence of a position is not in its record. -/
theorem bytes_hear (b : Nat) (p : Position) : (p.hear b).bytes = Position.bytes { p with idle := (p.hear b).idle } := rfl

theorem PrintResult.bytes_eq (r : PrintResult) : r.bytes = List.flatten
    [[BitVec.ofNat 8 r.outcome.num], [BitVec.ofNat 8 (printerNum r.printer)], [BitVec.ofNat 8 (faultNum r.cause)], be 5 r.account,
     be 1 r.gathered, flagByte (r.more = true), be 1 r.printed, be 1 r.page, be 1 r.line, beInt 5 r.balance,
     flagByte (r.balanceValid = true)] := by
  simp only [PrintResult.bytes, be_boolNum, be_one r.outcome.num, be_one (printerNum _), be_one (faultNum _), List.flatten_cons,
    List.flatten_nil, List.append_nil, List.append_assoc]

theorem Entry.bytes_eq (e : Entry) : e.bytes = List.flatten
    [be 1 e.id, [BitVec.ofNat 8 e.proposal.num], [BitVec.ofNat 8 (linkNum e.proposer)], be 5 e.amount, be 2 e.remaining] := by
  simp only [Entry.bytes, be_one (Proposal.num _), be_one (linkNum _), List.flatten_cons, List.flatten_nil, List.append_nil,
    List.append_assoc]

theorem Context.bytes_eq (c : Context) : c.bytes = List.flatten
    [be 1 c.attempts, flagByte (c.declaration ≠ none), ((c.declaration.getD (Vec.fill 0)).toList.map (be 2)).flatten,
     flagByte (c.difference ≠ none), beInt 6 (c.difference.getD 0)] := by
  simp only [Context.bytes, be_isSome, List.flatten_cons, List.flatten_nil, List.append_nil, List.append_assoc]

/-! ### The position byte (03 R47, R58) -/

theorem readPosition?_val (n : Fin 8) : readPosition? n.val = some n := dif_pos n.isLt

theorem readPosition?_out {v : Nat} (h : 8 ≤ v) : readPosition? v = none := dif_neg (Nat.not_lt.2 h)

theorem exec_readPosition (tag : Byte) (s : State) {v : Nat} (fits : v < 256) :
    exec (.readPosition .sl tag (be 1 v)) s = .next (request .sl .readPosition tag (be 1 v) (readPosition v) s) := by
  show Host.Outcome.next (request .sl .readPosition tag (be 1 v) (readPosition (field (be 1 v) 0 1)) s) = _
  rw [field_be_alone 1 v fits]

end Sys2Proof.Machine

open Sys2Proof Sys2Proof.Machine

/-- Settles O24: both requests leave all but their link, and each part of the reply is the item's bytes. -/
theorem positionReadingsReturnTheRecord : Obligations.PositionReadingsReturnTheRecord := by
  intro n tag s p j c record result outcome awaiting entry last context
  have recorded (i : Bool) : record i = Position.bytes { p with idle := i } := by
    rw [Position.bytes_eq]
    refine congrArg (fun b : Byte => List.flatten ([b] :: _)) ?_
    show _ = BitVec.ofNat 8 p.state.num
    cases p.state <;> rfl
  have printed : result = j.bytes := by
    have outcomes : (match j.outcome with
        | .none => 0 | .done => 1 | .noBook => 2 | .pageTimeout => 3 | .bookFull => 4 | .incomplete => 5
        | .faulted => 6 | .cancelled => 7 : Byte) = BitVec.ofNat 8 j.outcome.num := by cases j.outcome <;> rfl
    have printers : (match j.printer with | none => 255 | some q => BitVec.ofNat 8 q.val : Byte) = BitVec.ofNat 8 (printerNum j.printer) := by
      cases j.printer <;> rfl
    have causes : (match j.cause with | none => 0 | some .head => 1 | some .slip => 2 | some .jam => 3 : Byte) =
        BitVec.ofNat 8 (faultNum j.cause) := by
      rcases j.cause with _ | _ | _ | _ <;> rfl
    rw [PrintResult.bytes_eq, ← outcomes, ← printers, ← causes] <;> rfl
  have ended : outcome = (s.dct.outcomes.get n).bytes := by
    simp only [outcome]
    cases s.dct.outcomes.get n <;> rfl
  have listed (e : Entry) : entry e = e.bytes := by
    have kind : (match e.proposal with | .transfer _ _ _ => 1 | .override _ _ => 2 : Byte) = BitVec.ofNat 8 e.proposal.num := by
      cases e.proposal <;> rfl
    have proposer : (match e.proposer with | .tl m => BitVec.ofNat 8 m.val | .sl => 8 : Byte) = BitVec.ofNat 8 (linkNum e.proposer) := by
      cases e.proposer <;> rfl
    rw [Entry.bytes_eq, ← kind, ← proposer] <;> rfl
  have entries : be 1 awaiting.length ++ awaiting.flatMap entry = counted ((s.dct.awaiting (.tl n)).map Entry.bytes) := by
    rw [counted, List.length_map, ← List.flatMap_def, funext listed]
    rfl
  have tagged : last = tagBytes (s.link (.tl n)).lastTag := (tagBytes_eq _).symm
  have balanced : context = c.bytes := (Context.bytes_eq c).symm
  clear_value record result outcome entry last context
  subst printed ended tagged balanced
  refine ⟨fun accepts inRange => ⟨_, rfl, ?_⟩, fun accepts => ⟨_, exec_readPosition tag s (n.isLt.trans (by decide)), ?_⟩,
    fun accepts v out fits => ?_⟩
  · have taken : statusTeller n (s.accept (.tl n)) = .ok ⟨s.accept (.tl n), .ok, List.flatten
        [record false, j.bytes, (s.dct.outcomes.get n).bytes, be 1 awaiting.length, awaiting.flatMap entry,
          tagBytes (s.link (.tl n)).lastTag]⟩ := by
      have idle : ((s.pos n).hear s.settings.idleBlank).idle = false := idle_hear _ (by have := inRange.1; omega)
      have tag : ((s.accept (.tl n)).link (.tl n)).lastTag = (s.link (.tl n)).lastTag := by rw [link_accept_self]
      simp only [statusTeller, okReply, pos_accept_self, bytes_hear, idle, State.pbu_accept, State.dct_accept, tag, ← entries, recorded,
        List.flatten_cons, List.flatten_nil, List.append_nil, List.append_assoc]
      rfl
    exact ((State.Makes.refl _).taken (k := .status) (tag := tag) (body := []) accepts rfl rfl taken).1
  · have taken : readPosition n.val (s.accept .sl) = .ok ⟨s.accept .sl, .ok, List.flatten
        [record p.idle, j.bytes, tagBytes (s.link (.tl n)).lastTag, c.bytes]⟩ := by
      have tag : (s.accept .sl).link (.tl n) = s.link (.tl n) := link_accept_ne s (by simp)
      simp only [readPosition, readPosition?_val, okReply, pos_accept_sl, State.pbu_accept, tag, State.context, State.bal_accept, recorded,
        List.flatten_cons, List.flatten_nil, List.append_nil, List.append_assoc]
      rfl
    exact ((State.Makes.refl _).taken (k := .readPosition) (tag := tag) (body := be 1 n.val) accepts rfl rfl taken).1
  · have refused : readPosition v (s.accept .sl) = .error .badForm := by rw [readPosition, readPosition?_out out]
    exact refuses_of_row (k := .readPosition) (exec_readPosition tag s fits) accepts rfl rfl refused
end

section
/-! PROOF. Signing off (03 R44 to R46, 05 R96): what a put-away, the removal of a position's entries, the records of a sign-off
and the closing make, each by itself. -/

namespace Sys2Proof.Machine

/-! ### Put-away (03 R45, 04 R79) -/

section
variable (s : State) (n : Fin 8)

/-- The whole drawer is in the vault, and the empty drawer is ARMED. -/
theorem cash_putAway : (s.putAway n).cash = { s.cash with
    vault := s.vaultAfterPutAway n, drawers := s.cash.drawers.set n (CashRecord.make s.cash.faces (Vec.fill 0) 0)
    high := s.cash.high.set n false } := by
  obtain ⟨-, armed⟩ := putAway_empty s n
  obtain ⟨b, e, -⟩ := rearm_eq (s.afterPutAway n) n
  rw [putAway_eq, e] at armed ⊢
  obtain rfl : b = false := (Vec.get_set_self ..).symm.trans armed
  rfl

theorem putAway_setCash : s.putAway n = { s with cash := (s.putAway n).cash } := by
  obtain ⟨b, e, -⟩ := rearm_eq (s.afterPutAway n) n
  rw [putAway_eq, e]
  rfl

theorem makes_putAway : s.Makes (s.putAway n) { parts := [.cash] } := by
  rw [putAway_setCash]
  exact makes_setCash s _

end

/-! ### The removal of entries (05 R96) -/

/-- The notices of an entry's removal by a sign-off of position `n`: a transfer tells its two parties, but an unforced sign-off
not its own position. -/
def Entry.removalNotices (n : Fin 8) (forced : Bool) (e : Entry) : List (Notice × Link) :=
  match e.proposal with
  | .transfer _ _ _ => [(Notice.transferEnded, e.proposer), (Notice.transferEnded, e.confirmer)].filter fun x => forced || x.2 != .tl n
  | .override _ _ => []

theorem Entry.isOverrideOf_iff {n : Fin 8} {e : Entry} : e.isOverrideOf n = true ↔ ∃ p, e.proposal = .override n p := by
  unfold Entry.isOverrideOf
  cases e.proposal <;> simp

section
variable (s : State) (n : Fin 8) (forced : Bool)

theorem makes_notify_ite {k : Notice} {l : Link} (c : Bool) (carried : k.carriedBy l = true) :
    s.Makes (if c then s.notify k l else s) { notices := if c then [(k, l)] else [] } := by
  cases c with
  | true => exact makes_notify s carried
  | false => exact .refl s

theorem makes_removeFor (e : Entry) :
    s.Makes (State.removeFor n forced s e) { parts := [.dct], notices := e.removalNotices n forced } := by
  unfold State.removeFor Entry.removalNotices
  cases e.proposal with
  | transfer src dst lines =>
    dsimp only
    refine (((makes_setDct s (s.dct.drop e.id)).trans (makes_notify_ite _ _ rfl)).trans (makes_notify_ite _ _ rfl)).widen
      (by simp [Change.andThen]) (by simp [Change.andThen]) (by simp [Change.andThen]) fun x => ?_
    simp only [Change.andThen, List.filter_cons, List.filter_nil, List.nil_append]
    cases forced || e.proposer != .tl n <;> exact Iff.rfl
  | override m p => exact makes_setDct s _

theorem makes_foldl_removeFor (l : List Entry) : s.Makes (l.foldl (State.removeFor n forced) s)
    { parts := [.dct], notices := l.flatMap (Entry.removalNotices n forced) } := by
  induction l generalizing s with
  | nil => exact (State.Makes.refl s).widen (List.nil_subset _) (List.Subset.refl _) (List.Subset.refl _) fun _ => Iff.rfl
  | cons e l ih =>
    refine ((makes_removeFor s n forced e).trans (ih _)).widen ?_ (List.Subset.refl _) (List.Subset.refl _) fun _ => ?_
    · simp [Change.andThen]
    · rw [List.flatMap_cons]
      exact Iff.rfl

theorem makes_removeEntries : s.Makes (s.removeEntries n forced)
    { parts := [.dct], notices := (s.dct.entries.filter (Entry.names n)).flatMap (Entry.removalNotices n forced) } :=
  makes_foldl_removeFor s n forced _

/-- With no id twice in the table, the entries that name the position leave it and no other. -/
theorem entries_removed (distinct : (s.dct.entries.map Entry.id).Nodup) :
    (s.removeEntries n forced).dct.entries = s.dct.entries.filter fun e => !e.names n := by
  rw [entries_removeEntries]
  refine List.filter_congr fun k hk => ?_
  rw [Bool.eq_iff_iff, List.all_eq_true, Bool.not_eq_true']
  constructor
  · intro all
    exact Bool.eq_false_iff.2 fun named => by simpa using all k (List.mem_filter.2 ⟨hk, named⟩)
  · intro other e he
    obtain ⟨he, named⟩ := List.mem_filter.1 he
    refine bne_iff_ne.2 fun same => ?_
    rw [List.inj_on_of_nodup_map distinct hk he same, named] at other
    cases other

/-- An override removed is DROPPED for its position (05 R97). -/
theorem outcomes_removeFor (e : Entry) (m : Fin 8) : (State.removeFor n forced s e).dct.outcomes.get m =
    if e.isOverrideOf m = true then .dropped else s.dct.outcomes.get m := by
  unfold State.removeFor Entry.isOverrideOf
  cases e.proposal with
  | transfer src dst lines =>
    dsimp only
    rw [dct_notify_ite, dct_notify_ite]
    rfl
  | override q p =>
    show (s.dct.outcomes.set q .dropped).get m = _
    rw [Vec.get_set]
    simp only [beq_iff_eq, eq_comm (a := m)]

theorem outcomes_foldl_removeFor (l : List Entry) (m : Fin 8) : (l.foldl (State.removeFor n forced) s).dct.outcomes.get m =
    if l.any (Entry.isOverrideOf m) = true then .dropped else s.dct.outcomes.get m := by
  induction l generalizing s with
  | nil => rfl
  | cons e l ih =>
    rw [List.foldl_cons, ih, outcomes_removeFor, List.any_cons]
    cases e.isOverrideOf m <;> cases l.any (Entry.isOverrideOf m) <;> rfl

/-- An override that names a position is that position's own. -/
theorem any_overrides_named (m : Fin 8) :
    (s.dct.entries.filter (Entry.names n)).any (Entry.isOverrideOf m) = true ↔ m = n ∧ s.dct.overrides n ≠ 0 := by
  rw [List.any_eq_true, Dct.overrides, ← Nat.pos_iff_ne_zero, List.length_pos_iff_exists_mem]
  constructor
  · rintro ⟨e, he, own⟩
    obtain ⟨member, named⟩ := List.mem_filter.1 he
    obtain rfl : m = n := Entry.overrideTouches_of_names named m own
    exact ⟨rfl, e, List.mem_filter.2 ⟨member, own⟩⟩
  · rintro ⟨rfl, e, he⟩
    obtain ⟨he, own⟩ := List.mem_filter.1 he
    exact ⟨e, List.mem_filter.2 ⟨he, Entry.names_of_override own⟩, own⟩

theorem outcomes_removeEntries (m : Fin 8) : (s.removeEntries n forced).dct.outcomes.get m =
    if m = n ∧ s.dct.overrides n ≠ 0 then .dropped else s.dct.outcomes.get m := by
  rw [State.removeEntries, outcomes_foldl_removeFor]
  simp only [any_overrides_named]

/-- Where the position has no override, its entries are transfers, and the table loses them alone. -/
theorem dct_removed (distinct : (s.dct.entries.map Entry.id).Nodup) (free : s.dct.overrides n = 0) :
    (s.removeEntries n forced).dct = { s.dct with entries := s.dct.entries.filter fun e => !e.names n } := by
  have outcomes : (s.removeEntries n forced).dct.outcomes = s.dct.outcomes := Vec.ext_get fun m => by
    rw [outcomes_removeEntries, if_neg fun h => h.2 free]
  have entries := entries_removed s n forced distinct
  have cursor := (frame_removeEntries s n forced).2
  generalize (s.removeEntries n forced).dct = d at *
  cases d
  cases entries
  cases cursor
  cases outcomes
  rfl

end

/-! ### The records of a sign-off, and the closing (03 R46) -/

section
variable (s : State) (n : Fin 8) (before : CashRecord)

theorem jnl_signOffRecords : (s.signOffRecords n before).jnl =
    (if before.isEmpty = true then s.jnl else
      s.jnl.withSystem s.day.seconds (putAwayRecord n (s.pos n).tellerNum before.total)).withSystem s.day.seconds
        (Record.plain .signOff (.position n) (s.pos n).tellerNum 0) := by
  unfold State.signOffRecords
  dsimp only
  rw [appendSystem_jnl]
  split
  · rfl
  · rw [appendSystem_jnl, State.day_appendSystem]

theorem makes_signOffRecords : s.Makes (s.signOffRecords n before)
    { parts := [.jnl], notices := s.highJournal (s.signOffRecords n before) } := by
  unfold State.signOffRecords
  dsimp only
  split
  · exact makes_appendSystem s _
  · exact ((makes_appendSystem s _).trans (makes_appendSystem _ _)).widen (by simp [Change.andThen]) (List.Subset.refl _)
      (List.Subset.refl _) (mem_highJournal_trans (spent_appendSystem s _) (spent_appendSystem _ _))

theorem makes_close : s.Makes (s.close n) { positions := [n], notices := [(.positionChanged, .sl)] } :=
  ((makes_onPos s n _).trans (makes_movePos _ n .closed)).widen (List.Subset.refl _) (by simp [Change.andThen])
    (List.Subset.refl _) fun _ => Iff.rfl

theorem jnl_close : (s.close n).jnl = s.jnl := by
  rw [State.close, State.jnl_movePos]
  rfl

theorem makes_leave : s.Makes ((s.signOffRecords n before).close n)
    { parts := [.jnl], positions := [n]
      notices := (.positionChanged, .sl) :: s.highJournal ((s.signOffRecords n before).close n) } := by
  refine ((makes_signOffRecords s n before).trans (makes_close _ n)).widen (List.Subset.refl _) (List.Subset.refl _)
    (List.Subset.refl _) fun x => ?_
  rw [← highJournal_congr rfl (jnl_close (s.signOffRecords n before) n)]
  simp [Change.andThen, or_comm]

theorem pos_leave : ((s.signOffRecords n before).close n).pos n = (s.pos n).closedOut := by
  rw [pos_close, pos_signOffRecords]

theorem jnl_leave : ((s.signOffRecords n before).close n).jnl =
    (if before.isEmpty = true then s.jnl else
      s.jnl.withSystem s.day.seconds (putAwayRecord n (s.pos n).tellerNum before.total)).withSystem s.day.seconds
        (Record.plain .signOff (.position n) (s.pos n).tellerNum 0) := by
  rw [jnl_close, jnl_signOffRecords]

/-- The records and the closing concern the journal and the position alone. -/
theorem leave_part {p : Part} (h : p ≠ .jnl) : s.SamePart ((s.signOffRecords n before).close n) p :=
  (makes_leave s n before).part (by simpa using h)

end

/-! ### SIGN-OFF (03 R44 to R46) -/

theorem makes_signOff (s : State) (n : Fin 8) : s.Makes (s.signOff n)
    { parts := [.cash, .dct, .jnl], positions := [n]
      notices := (.positionChanged, .sl) :: s.highJournal (s.signOff n) ++
        (s.dct.entries.filter (Entry.names n)).flatMap (Entry.removalNotices n false) } := by
  have removed := (makes_putAway s n).trans (makes_removeEntries (s.putAway n) n false)
  have jnl : ((s.putAway n).removeEntries n false).jnl = s.jnl := removed.part (p := .jnl) (by simp [Change.andThen])
  refine (removed.trans (makes_leave _ n (s.drawer n))).widen (List.Subset.refl _) (List.Subset.refl _) (List.Subset.refl _) fun x => ?_
  have high : ((s.putAway n).removeEntries n false).highJournal
      ((((s.putAway n).removeEntries n false).signOffRecords n (s.drawer n)).close n) = s.highJournal (s.signOff n) :=
    highJournal_congr jnl rfl
  rw [dct_putAway, high]
  simp only [Change.andThen, List.nil_append, List.mem_append]
  exact or_comm

section
variable (s : State) (n : Fin 8)

/-- The state of which a sign-off's records are asked for. -/
theorem frame_emptied : (s.putAway n).removeEntries n false =
    { s with cash := (s.putAway n).cash, dct := ((s.putAway n).removeEntries n false).dct
             links := ((s.putAway n).removeEntries n false).links } := by
  rw [(frame_removeEntries (s.putAway n) n false).1, putAway_setCash]

theorem pos_signOff : (s.signOff n).pos n = (s.pos n).closedOut := by
  rw [State.signOff, pos_leave, frame_emptied]
  rfl

theorem cash_signOff : (s.signOff n).cash = { s.cash with
    vault := s.vaultAfterPutAway n, drawers := s.cash.drawers.set n (CashRecord.make s.cash.faces (Vec.fill 0) 0)
    high := s.cash.high.set n false } := by
  refine (leave_part _ n _ (p := .cash) (by decide)).trans ?_
  rw [frame_emptied]
  exact cash_putAway s n

theorem dct_signOff (distinct : (s.dct.entries.map Entry.id).Nodup) (free : s.dct.overrides n = 0) :
    (s.signOff n).dct = { s.dct with entries := s.dct.entries.filter fun e => !e.names n } := by
  refine (leave_part _ n _ (p := .dct) (by decide)).trans ?_
  have same := dct_putAway (s := s) n
  rw [dct_removed _ n false (by rwa [same]) (by rwa [same]), same]

theorem jnl_signOff : (s.signOff n).jnl =
    (if (s.drawer n).isEmpty = true then s.jnl else
      s.jnl.withSystem s.day.seconds (putAwayRecord n (s.pos n).tellerNum (s.drawer n).total)).withSystem s.day.seconds
        (Record.plain .signOff (.position n) (s.pos n).tellerNum 0) := by
  rw [State.signOff, jnl_leave, frame_emptied]
  rfl

end

/-- The entries that name a position with no override are transfers. -/
theorem removalNotices_transfers {d : Dct} {n : Fin 8} (free : d.overrides n = 0) :
    (d.entries.filter (Entry.names n)).flatMap (Entry.removalNotices n false) =
      (d.entries.filter (Entry.names n)).flatMap fun e =>
        [(Notice.transferEnded, e.proposer), (Notice.transferEnded, e.confirmer)].filter fun x => x.2 != .tl n := by
  refine List.flatMap_congr fun e he => ?_
  obtain ⟨member, named⟩ := List.mem_filter.1 he
  have not_own : e ∉ d.entries.filter (Entry.isOverrideOf n) := by
    rw [List.eq_nil_of_length_eq_zero free]
    exact List.not_mem_nil
  unfold Entry.removalNotices
  unfold Entry.names at named
  cases proposed : e.proposal with
  | transfer src dst lines => rfl
  | override m p =>
    rw [proposed] at named
    obtain rfl : m = n := by simpa using named
    exact absurd (List.mem_filter.2 ⟨member, Entry.isOverrideOf_iff.2 ⟨p, proposed⟩⟩) not_own

/-- A value that two cases give. -/
theorem eq_ite_of_cases {α : Type} {c p : Prop} [Decidable c] {j a b : α} (h : c ↔ p) (yes : p → j = a) (no : ¬p → j = b) :
    j = if c then a else b := by
  split
  · next hc => exact yes (h.1 hc)
  · next hc => exact no (mt h.2 hc)

theorem canPutAway_iff (s : State) (n : Fin 8) : s.canPutAway n = true ↔
    (∀ i, (s.vaultAfterPutAway n).counts.get i ≤ 16777215) ∧ -9999999999 ≤ (s.vaultAfterPutAway n).unitemized ∧
      (s.vaultAfterPutAway n).unitemized ≤ 9999999999 ∧ 0 ≤ (s.vaultAfterPutAway n).total ∧
      (s.vaultAfterPutAway n).total ≤ 99999999999 := by
  rw [State.canPutAway, CashRecord.fitsVault_iff]
  simp only [Config.maxVaultCount, Config.maxUnitemized, Config.maxTotal, and_assoc]

end Sys2Proof.Machine

open Sys2Proof Sys2Proof.Machine

/-- Settles O20: the four checks in their order, and what the put-away, the removal, the records and the closing leave. -/
theorem signOffPutsTheDrawerAway : Obligations.SignOffPutsTheDrawerAway := by
  intro n tag s accepts distinct free c d empty may vault fits teller away
  have cash := State.cash_accept s (.tl n)
  have pbu := State.pbu_accept s (.tl n)
  obtain ⟨state, signed, sensor, -⟩ := heard_items s n n
  have drawer : (s.accept (.tl n)).drawer n = d := by simp only [State.drawer, cash, d]
  have vaulted : (s.accept (.tl n)).vaultAfterPutAway n = vault := by
    simp only [State.vaultAfterPutAway, drawer, cash, vault]
  have admitted : ((s.accept (.tl n)).pos n).state = .balanced ∨
      ((s.accept (.tl n)).pos n).state = .ready ∧ ((s.accept (.tl n)).drawer n).isEmpty = true ↔ may := by
    rw [state, drawer, CashRecord.isEmpty_iff]
  have held : (s.accept (.tl n)).canPutAway n = true ↔ fits := by rw [canPutAway_iff, vaulted]
  have refuses {code : Code} (h : signOff n (s.accept (.tl n)) = .error code) : s.Refuses c (.tl n) 14 tag code :=
    refuses_of_row (k := .signOff) rfl accepts rfl rfl h
  refine ⟨fun no => refuses ?_, fun ok job => refuses ?_, fun ok idle out => refuses ?_, fun ok idle shut more => refuses ?_,
    fun ok idle shut fit => ?_⟩
  · rw [signOff, check_neg (mt admitted.1 no)]
  · rw [signOff, check_pos (admitted.2 ok), check_neg (by rw [pbu, job]; decide)]
  · rw [signOff, check_pos (admitted.2 ok), check_pos (pbu ▸ idle), check_neg (by rw [sensor, out]; decide)]
  · rw [signOff, check_pos (admitted.2 ok), check_pos (pbu ▸ idle), check_pos (sensor ▸ shut), check_neg (mt held.1 more)]
  · have judged : signOff n (s.accept (.tl n)) = .ok ⟨(s.accept (.tl n)).signOff n, .ok, []⟩ := by
      rw [signOff, check_pos (admitted.2 ok), check_pos (pbu ▸ idle), check_pos (sensor ▸ shut), check_pos (held.2 fit)]
      rfl
    obtain ⟨answered, carries⟩ := (makes_signOff (s.accept (.tl n)) n).taken (k := .signOff) (tag := tag) (body := [])
      accepts rfl rfl judged
    have notices := removalNotices_transfers (n := n) free
    rw [State.dct_accept, ← highJournal_congr (State.jnl_accept s (.tl n)).symm (carries.part .jnl), notices] at answered
    refine ⟨_, rfl, answered, ?_, ?_, ?_, fun j none some => ?_⟩
    · refine (carries.core n).trans ?_
      rw [pos_signOff, pos_accept_self]
      rfl
    · exact (carries.part .cash).trans (by rw [cash_signOff, vaulted, cash])
    · refine (carries.part .dct).trans ?_
      rw [dct_signOff _ n (by rwa [State.dct_accept]) (by rwa [State.dct_accept]), State.dct_accept]
    · refine (carries.part .jnl).trans ?_
      rw [jnl_signOff, drawer, State.jnl_accept, State.day_accept, eq_ite_of_cases (CashRecord.isEmpty_iff d) none some,
        Position.tellerNum, signed]
      rfl
end

section
/-! PROOF. A print job cancelled (08 R137, R158, R160): what the cancelling makes, and what it leaves of the position's jobs and
of its last print result. -/

namespace Sys2Proof.Machine

/-! ### The positions with a job (08 R137) -/

theorem Pbu.hasJob_eq_false_iff (u : Pbu) (n : Fin 8) :
    u.hasJob n = false ↔ (∀ j ∈ u.queue, j.position ≠ n) ∧ ∀ q, (u.printers.get q).jobPosition ≠ some n := by
  have runs (r : Printer) : r.runsFor n = false ↔ r.jobPosition ≠ some n := by
    rw [← Bool.not_eq_true, Printer.runsFor_iff]
    rfl
  simp only [Pbu.hasJob, Bool.or_eq_false_iff, List.any_eq_false, decide_eq_true_eq, runs, and_assoc, Fin.forall_fin_two, ne_eq]

/-- Where position `n`'s job runs on printer `p`, no other printer and no queued job is its own. -/
theorem Pbu.no_job_beside {u : Pbu} {n : Fin 8} {p : Fin 2} (once : u.jobPositions.Nodup)
    (runs : (u.printers.get p).jobPosition = some n) :
    (∀ j ∈ u.queue, j.position ≠ n) ∧ ∀ q, q ≠ p → (u.printers.get q).jobPosition ≠ some n := by
  have nodup := (u.jobPositions_perm p).nodup_iff.1 once
  rw [runs] at nodup
  have beside : n ∉ u.positionsBeside p := (List.nodup_cons.1 nodup).1
  unfold Pbu.positionsBeside at beside
  obtain ⟨queue, other⟩ := not_or.1 (mt List.mem_append.2 beside)
  refine ⟨fun j hj own => queue (List.mem_map.2 ⟨j, hj, own⟩), fun q hq own => other ?_⟩
  obtain rfl : q = otherPrinter p := by
    unfold otherPrinter
    split <;> omega
  rw [own]
  exact List.mem_singleton.2 rfl

/-! ### Position `n` left alone -/

/-- `t` gives position `n` no job, and leaves its last print result. -/
structure State.Spares (n : Fin 8) (s t : State) : Prop where
  job : s.pbu.hasJob n = false → t.pbu.hasJob n = false
  result : t.pbu.results.get n = s.pbu.results.get n

section
variable {s t u : State} {n : Fin 8}

theorem State.Spares.refl (s : State) : s.Spares n s := ⟨id, rfl⟩

theorem State.Spares.trans (h : s.Spares n t) (k : t.Spares n u) : s.Spares n u :=
  ⟨k.job ∘ h.job, k.result.trans h.result⟩

theorem spares_onPrinter (s : State) (p : Fin 2) (f : Printer → Printer) (h : (f (s.printer p)).jobPosition ≠ some n) :
    s.Spares n (s.onPrinter p f) where
  job free := by
    obtain ⟨queue, printers⟩ := (Pbu.hasJob_eq_false_iff _ _).1 free
    refine (Pbu.hasJob_eq_false_iff _ _).2 ⟨queue, fun q => ?_⟩
    show ((s.onPrinter p f).printer q).jobPosition ≠ some n
    by_cases e : q = p
    · subst e
      rwa [State.printer_onPrinter_self]
    · rw [State.printer_onPrinter_ne _ _ e]
      exact printers q
  result := rfl

/-- The end of another position's job. -/
theorem spares_endJob (s : State) {j : Job} (other : j.position ≠ n) (outcome : PrintOutcome) (printer : Option (Fin 2))
    (cause : Option FaultCause) : s.Spares n (s.endJob j outcome printer cause) where
  job free := by
    rw [Pbu.hasJob_eq_false_iff] at free ⊢
    rwa [(printers_endJob ..).1, (printers_endJob ..).2]
  result := by
    unfold State.endJob
    rw [State.pbu_notify]
    exact Vec.get_set_ne _ _ other.symm

theorem spares_takeJob (s : State) (p : Fin 2) {j : Job} (other : j.position ≠ n) : s.Spares n (s.takeJob p j) := by
  unfold State.takeJob
  dsimp only
  split
  · exact spares_endJob s (j := j.latch s.settings p) other _ _ _
  · exact spares_onPrinter s p _ fun own => other (Option.some.inj own)

theorem spares_enqueue (s : State) {j : Job} (other : j.position ≠ n) :
    s.Spares n { s with pbu := { s.pbu with queue := s.pbu.queue ++ [j] } } where
  job free := by
    obtain ⟨queue, printers⟩ := (Pbu.hasJob_eq_false_iff _ _).1 free
    refine (Pbu.hasJob_eq_false_iff _ _).2 ⟨fun k hk => ?_, printers⟩
    rcases List.mem_append.1 hk with hk | hk
    · exact queue k hk
    · rwa [List.mem_singleton.1 hk]
  result := rfl

theorem spares_assignJobs (s : State) (l : List Job) (others : ∀ j ∈ l, j.position ≠ n) : s.Spares n (assignJobs l s) := by
  induction l generalizing s with
  | nil => exact .refl s
  | cons j l ih =>
    obtain ⟨other, others⟩ := List.forall_mem_cons.1 others
    unfold assignJobs
    split
    · exact (spares_takeJob s _ other).trans (ih _ others)
    · exact (spares_enqueue s other).trans (ih _ others)

/-- Assignment gives a printer to jobs that wait, and so none to a position without one. -/
theorem spares_assign (free : s.pbu.hasJob n = false) : s.Spares n s.assign := by
  obtain ⟨queue, printers⟩ := (Pbu.hasJob_eq_false_iff _ _).1 free
  have emptied : s.Spares n { s with pbu := { s.pbu with queue := [] } } :=
    ⟨fun _ => (Pbu.hasJob_eq_false_iff _ _).2 ⟨fun _ hj => absurd hj List.not_mem_nil, printers⟩, rfl⟩
  exact emptied.trans (spares_assignJobs _ _ queue)

end

/-! ### The printer of a cancelled job (08 R160) -/

theorem Printer.job_ejectIdle {r : Printer} (h : r.job = none) : r.ejectIdle.job = none := by
  unfold Printer.ejectIdle
  split
  · rfl
  · exact h

/-- A cancelled job's printer becomes free for the next, or goes on without a job. -/
theorem cancelOn_cases (s : State) (p : Fin 2) (n : Fin 8) :
    s.cancelOn p n = s.restPrinter p ∨ ∃ f, s.cancelOn p n = s.onPrinter p f ∧ (f (s.printer p)).job = none := by
  have eject : ∃ f, (s.onPrinter p fun r => { r.halt with job := none, leftBy := some n }).startFeed p .ejecting 0 = s.onPrinter p f ∧
      (f (s.printer p)).job = none := by
    rw [startFeed_ejecting_idle (by rw [State.printer_onPrinter_self]), onPrinter_onPrinter]
    exact ⟨_, rfl, Printer.job_ejectIdle rfl⟩
  unfold State.cancelOn
  cases (s.printer p).state with
  | waitBook | pageTurn => exact .inl rfl
  | aligning | striking | feeding => exact .inr eject
  | confirming | ejecting | waitRemoval | idle | fault | offline => exact .inr ⟨_, rfl, rfl⟩

/-- With no other job of position `n`, its printer gives its job up and takes none of that position. -/
theorem cancelOn_free {s : State} {p : Fin 2} {n : Fin 8} (queue : ∀ j ∈ s.pbu.queue, j.position ≠ n)
    (others : ∀ q, q ≠ p → (s.printer q).jobPosition ≠ some n) :
    (s.cancelOn p n).pbu.hasJob n = false ∧ (s.cancelOn p n).pbu.results.get n = s.pbu.results.get n := by
  have jobless (f : Printer → Printer) (none_ : (f (s.printer p)).job = none) : (s.onPrinter p f).pbu.hasJob n = false := by
    refine (Pbu.hasJob_eq_false_iff _ _).2 ⟨queue, fun q => ?_⟩
    show ((s.onPrinter p f).printer q).jobPosition ≠ some n
    by_cases e : q = p
    · subst e
      rw [State.printer_onPrinter_self, Printer.jobPosition, none_]
      exact fun h => by cases h
    · rw [State.printer_onPrinter_ne _ _ e]
      exact others q e
  rcases cancelOn_cases s p n with rest | ⟨f, on, none_⟩
  · have rested := jobless Printer.rest rfl
    rw [rest, State.restPrinter]
    split
    · have spared := spares_assign rested
      exact ⟨spared.job rested, spared.result⟩
    · exact ⟨rested, rfl⟩
  · rw [on]
    exact ⟨jobless f none_, rfl⟩

/-! ### The cancelling (08 R160) -/

theorem result_endJob (s : State) (j : Job) (outcome : PrintOutcome) (printer : Option (Fin 2)) (cause : Option FaultCause) :
    ((s.endJob j outcome printer cause).pbu.results.get j.position).outcome = outcome := by
  unfold State.endJob
  rw [State.pbu_notify]
  exact congrArg PrintResult.outcome (Vec.get_set_self ..)

section
variable {s : State} {n : Fin 8}

theorem cancelJob_none (free : s.pbu.hasJob n = false) : s.cancelJob n = s := by
  simp only [Pbu.hasJob, Bool.or_eq_false_iff] at free
  obtain ⟨⟨queue, first⟩, second⟩ := free
  have found : s.pbu.queue.find? (fun j => decide (j.position = n)) = none :=
    List.find?_eq_none.2 fun j hj => by simpa using List.any_eq_false.1 queue j hj
  rw [State.cancelJob, State.printer, State.printer, first, second, State.cancelQueued, found]
  rfl

theorem cancelRunning_ends {p : Fin 2} (once : s.pbu.jobPositions.Nodup) (runs : (s.printer p).runsFor n = true) :
    ((s.cancelRunning p n).pbu.results.get n).outcome = .cancelled ∧ (s.cancelRunning p n).pbu.hasJob n = false := by
  have own : (s.printer p).jobPosition = some n := (Printer.runsFor_iff n _).1 runs
  obtain ⟨queue, others⟩ := Pbu.no_job_beside once own
  obtain ⟨j, job, at_⟩ := Option.map_eq_some_iff.1 own
  have cancelled : s.cancelRunning p n = (s.endJob j .cancelled (some p) none).cancelOn p n := by
    rw [State.cancelRunning, job]
    exact if_pos at_
  obtain ⟨free, result⟩ := cancelOn_free (s := s.endJob j .cancelled (some p) none) (p := p) (n := n)
    (by rwa [(printers_endJob ..).2]) (fun q hq => by rw [printer_endJob]; exact others q hq)
  rw [cancelled, result]
  refine ⟨?_, free⟩
  rw [← at_]
  exact result_endJob ..

theorem cancelQueued_ends (first : ∀ q, (s.printer q).jobPosition ≠ some n) (waits : ∃ j ∈ s.pbu.queue, j.position = n) :
    ((s.cancelQueued n).pbu.results.get n).outcome = .cancelled ∧ (s.cancelQueued n).pbu.hasJob n = false := by
  obtain ⟨k, hk, own⟩ := waits
  obtain ⟨j, found⟩ := Option.isSome_iff_exists.1
    (List.find?_isSome (p := fun j : Job => decide (j.position = n)).2 ⟨k, hk, decide_eq_true own⟩)
  have at_ : j.position = n := by simpa using List.find?_some found
  rw [State.cancelQueued, found]
  dsimp only
  refine ⟨?_, ?_⟩
  · rw [← at_]
    exact result_endJob ..
  · rw [Pbu.hasJob_eq_false_iff, (printers_endJob ..).1, (printers_endJob ..).2]
    exact ⟨fun i hi => by simpa using (List.mem_filter.1 hi).2, first⟩

/-- A position's job cancelled: its last print result is CANCELLED, and it has none any more. -/
theorem cancelJob_ends (once : s.pbu.jobPositions.Nodup) (job : s.pbu.hasJob n = true) :
    ((s.cancelJob n).pbu.results.get n).outcome = .cancelled ∧ (s.cancelJob n).pbu.hasJob n = false := by
  unfold State.cancelJob
  split
  · next runs => exact cancelRunning_ends once runs
  · next first =>
    split
    · next runs => exact cancelRunning_ends once runs
    · next second =>
      have stands : ∀ q, (s.printer q).jobPosition ≠ some n :=
        Fin.forall_fin_two.2 ⟨mt (Printer.runsFor_iff n _).2 first, mt (Printer.runsFor_iff n _).2 second⟩
      refine cancelQueued_ends stands ?_
      by_contra absent
      have free := (Pbu.hasJob_eq_false_iff s.pbu n).2 ⟨fun j hj own => absent ⟨j, hj, own⟩, stands⟩
      rw [job] at free
      cases free

end

/-! ### What the cancelling makes -/

section
variable (s : State) (n : Fin 8)

theorem tells_endJob (j : Job) (outcome : PrintOutcome) (printer : Option (Fin 2)) (cause : Option FaultCause) :
    s.Tells (s.endJob j outcome printer cause) :=
  State.Tells.trans (.of_links rfl) (tells_notify _ _ _)

theorem tells_cancelOn (p : Fin 2) : s.Tells (s.cancelOn p n) := by
  rcases cancelOn_cases s p n with rest | ⟨f, on, -⟩
  · rw [rest, State.restPrinter]
    split
    · exact State.Tells.trans (.of_links rfl) (tells_assign _)
    · exact .of_links rfl
  · rw [on]
    exact .of_links rfl

theorem tells_cancelRunning (p : Fin 2) : s.Tells (s.cancelRunning p n) := by
  unfold State.cancelRunning
  split
  · split
    · exact (tells_endJob s _ _ _ _).trans (tells_cancelOn _ n p)
    · exact .of_links rfl
  · exact .of_links rfl

theorem tells_cancelJob : s.Tells (s.cancelJob n) := by
  unfold State.cancelJob
  split
  · exact tells_cancelRunning s n 0
  · split
    · exact tells_cancelRunning s n 1
    · unfold State.cancelQueued
      split
      · exact State.Tells.trans (.of_links rfl) (tells_endJob _ _ _ _ _)
      · exact .of_links rfl

/-- The cancelling of a job concerns the journal's marks, the print unit and notices alone. -/
theorem makes_cancelJob : ∃ N, s.Makes (s.cancelJob n) { parts := [.jnl, .pbu], notices := N } := by
  have print := printTo_cancelJob s n
  obtain ⟨N, notes, line⟩ := tells_cancelJob s n
  refine ⟨N, .of_parts print.pending (State.alive_of_supply print.supply) print.positions print.windows (fun p hp => ?_) notes line⟩
  cases p with
  | jnl | pbu => simp at hp
  | supply => exact print.supply
  | day => exact print.day
  | settings => exact print.settings
  | cash => exact print.cash
  | dct => exact print.dct
  | bal => exact print.bal
  | ulc => exact print.ulc

end

end Sys2Proof.Machine
end

section
/-! PROOF. A forced sign-off (03 R47, 05 R96, 06 R100, R109). -/

namespace Sys2Proof.Machine

/-! ### Up to the cancelling of the print job (03 R47, steps 1 to 3) -/

section
variable (s : State) (n : Fin 8)

theorem makes_endOpenTxn : s.Makes (s.endOpenTxn n) { parts := [.bal], positions := [n], windows := [n] } :=
  .ite (fun _ => makes_endTxn s n) fun _ => (State.Makes.refl s).widen (List.nil_subset _) (List.nil_subset _) (List.nil_subset _)
    fun _ => Iff.rfl

theorem makes_forcedOut : s.Makes (s.forcedOut n)
    { parts := [.bal, .dct], positions := [n], windows := [n]
      notices := (s.dct.entries.filter (Entry.names n)).flatMap (Entry.removalNotices n true) } := by
  refine (((makes_endOpenTxn s n).trans (makes_removeEntries _ n true)).trans (makes_setBal _ _)).widen (by simp [Change.andThen])
    (List.Subset.refl _) (List.Subset.refl _) fun x => ?_
  rw [dct_endOpenTxn]
  simp [Change.andThen]

theorem bal_forcedOut : (s.forcedOut n).bal = { (s.endOpenTxn n).bal with
    contexts := (s.endOpenTxn n).bal.contexts.modify n fun c => { c with declaration := none } } := by
  unfold State.forcedOut
  rw [(frame_removeEntries (s.endOpenTxn n) n true).1]
  rfl

theorem windows_forcedOut : (s.forcedOut n).windows = (s.endOpenTxn n).windows := by
  unfold State.forcedOut
  rw [(frame_removeEntries (s.endOpenTxn n) n true).1]
  rfl

theorem dct_forcedOut : (s.forcedOut n).dct = ((s.endOpenTxn n).removeEntries n true).dct := rfl

end

/-! ### The whole of it -/

section
variable (s : State) (n : Fin 8)

/-- A forced sign-off, given what the cancelling makes. -/
theorem makes_forceSignOff {N : List (Notice × Link)}
    (h : (s.forcedOut n).Makes ((s.forcedOut n).cancelJob n) { parts := [.jnl, .pbu], notices := N }) :
    s.Makes (s.forceSignOff n)
      { parts := [.cash, .dct, .bal, .jnl, .pbu], positions := [n], windows := [n]
        notices := (s.dct.entries.filter (Entry.names n)).flatMap (Entry.removalNotices n true) ++ N ++
          (.positionChanged, .sl) :: ((s.forcedOut n).cancelJob n).highJournal (s.forceSignOff n) } := by
  have put := ((makes_forcedOut s n).trans h).trans (makes_putAway ((s.forcedOut n).cancelJob n) n)
  have same : (((s.forcedOut n).cancelJob n).putAway n).jnl = ((s.forcedOut n).cancelJob n).jnl := by rw [putAway_setCash]
  have high : (((s.forcedOut n).cancelJob n).putAway n).highJournal
      (((((s.forcedOut n).cancelJob n).putAway n).signOffRecords n (((s.forcedOut n).cancelJob n).drawer n)).close n) =
      ((s.forcedOut n).cancelJob n).highJournal (s.forceSignOff n) := highJournal_congr same rfl
  refine (put.trans (makes_leave _ n (((s.forcedOut n).cancelJob n).drawer n))).widen (by simp [Change.andThen])
    (by simp [Change.andThen]) (by simp [Change.andThen]) fun x => ?_
  rw [high]
  simp [Change.andThen]

theorem pos_forceSignOff : (s.forceSignOff n).pos n = ((s.endOpenTxn n).pos n).closedOut := by
  rw [forceSignOff_eq, pos_leave]
  simp only [State.pos, positions_putAway, (printTo_cancelJob (s.forcedOut n) n).positions]
  exact congrArg Position.closedOut (pos_forcedOut s n n)

/-- The records, the closing and the put-away leave of every other part what the cancelling leaves. -/
theorem forceSignOff_part {p : Part} (jnl : p ≠ .jnl) (cash : p ≠ .cash) :
    ((s.forcedOut n).cancelJob n).SamePart (s.forceSignOff n) p :=
  samePart_trans ((makes_putAway _ n).part (by simpa using cash)) (leave_part _ n _ jnl)

theorem windows_leave (before : CashRecord) : ((s.signOffRecords n before).close n).windows = s.windows := by
  have records : (s.signOffRecords n before).windows = s.windows := by
    unfold State.signOffRecords
    dsimp only
    rw [State.windows_appendSystem]
    split
    · rfl
    · rw [State.windows_appendSystem]
  rw [State.close, State.windows_movePos]
  exact records

theorem windows_forceSignOff : (s.forceSignOff n).windows = (s.endOpenTxn n).windows := by
  have cancelled := (printTo_cancelJob (s.forcedOut n) n).windows
  rw [forceSignOff_eq, windows_leave, putAway_setCash, ← windows_forcedOut, ← cancelled]

theorem bal_forceSignOff : (s.forceSignOff n).bal = { (s.endOpenTxn n).bal with
    contexts := (s.endOpenTxn n).bal.contexts.modify n fun c => { c with declaration := none } } := by
  have left : (s.forceSignOff n).bal = ((s.forcedOut n).cancelJob n).bal := forceSignOff_part s n (p := .bal) (by decide) (by decide)
  rw [left, (printTo_cancelJob (s.forcedOut n) n).bal, bal_forcedOut]

theorem dct_forceSignOff : (s.forceSignOff n).dct = ((s.endOpenTxn n).removeEntries n true).dct := by
  have left : (s.forceSignOff n).dct = ((s.forcedOut n).cancelJob n).dct := forceSignOff_part s n (p := .dct) (by decide) (by decide)
  rw [left, (printTo_cancelJob (s.forcedOut n) n).dct, dct_forcedOut]

theorem pbu_forceSignOff : (s.forceSignOff n).pbu = ((s.forcedOut n).cancelJob n).pbu :=
  forceSignOff_part s n (p := .pbu) (by decide) (by decide)

theorem pbu_forcedOut : (s.forcedOut n).pbu = s.pbu := (makes_forcedOut s n).part (p := .pbu) (by simp)

theorem cash_forceSignOff : (s.forceSignOff n).cash = { s.cash with
    vault := s.vaultAfterPutAway n, drawers := s.cash.drawers.set n (CashRecord.make s.cash.faces (Vec.fill 0) 0)
    high := s.cash.high.set n false } := by
  have same : ((s.forcedOut n).cancelJob n).cash = s.cash := (printTo_cancelJob _ n).cash.trans (cash_forcedOut s n)
  refine (leave_part (((s.forcedOut n).cancelJob n).putAway n) n _ (p := .cash) (by decide)).trans ?_
  rw [cash_putAway]
  simp only [State.vaultAfterPutAway, State.drawer, same]

/-- The records, where no print job is cancelled. -/
theorem jnl_forceSignOff (free : s.pbu.hasJob n = false) : (s.forceSignOff n).jnl =
    (if (s.drawer n).isEmpty = true then s.jnl else
      s.jnl.withSystem s.day.seconds (putAwayRecord n (s.pos n).tellerNum (s.drawer n).total)).withSystem s.day.seconds
        (Record.plain .signOff (.position n) (s.pos n).tellerNum 0) := by
  have none_ : (s.forcedOut n).cancelJob n = s.forcedOut n := cancelJob_none (by rwa [pbu_forcedOut])
  have jnl : (s.forcedOut n).jnl = s.jnl := (makes_forcedOut s n).part (p := .jnl) (by simp)
  have day : (s.forcedOut n).day = s.day := (makes_forcedOut s n).part (p := .day) (by simp)
  have drawer : (s.forcedOut n).drawer n = s.drawer n := by simp only [State.drawer, cash_forcedOut]
  have teller : ((s.forcedOut n).pos n).tellerNum = (s.pos n).tellerNum := by
    rw [pos_forcedOut, State.endOpenTxn]
    split
    · rw [pos_endTxn_self]
      rfl
    · rfl
  rw [forceSignOff_eq, none_, drawer, jnl_leave, putAway_setCash]
  show Journal.withSystem (if _ then (s.forcedOut n).jnl else (s.forcedOut n).jnl.withSystem (s.forcedOut n).day.seconds
    (putAwayRecord n ((s.forcedOut n).pos n).tellerNum _)) (s.forcedOut n).day.seconds
    (Record.plain .signOff (.position n) ((s.forcedOut n).pos n).tellerNum 0) = _
  rw [jnl, day, teller]

end

/-- The notices of a forced removal: both parties of every transfer, and none for an override. -/
theorem mem_removalNotices_forced {d : Dct} {n : Fin 8} (x : Notice × Link) :
    x ∈ (d.entries.filter (Entry.names n)).flatMap (Entry.removalNotices n true) ↔
      x ∈ (d.entries.filter fun e => e.names n && !e.isOverrideOf n).flatMap fun e =>
        [(Notice.transferEnded, e.proposer), (Notice.transferEnded, e.confirmer)] := by
  simp only [List.mem_flatMap, List.mem_filter, Bool.and_eq_true, Bool.not_eq_true', and_assoc]
  refine exists_congr fun e => and_congr_right fun _ => and_congr_right fun named => ?_
  unfold Entry.removalNotices Entry.isOverrideOf
  unfold Entry.names at named
  cases proposed : e.proposal with
  | transfer src dst lines => simp
  | override m p =>
    rw [proposed] at named
    simp [show (m == n) = true from named]

/-- A forced sign-off that cancels no print job. -/
theorem makes_forceSignOff_free {s : State} {n : Fin 8} (free : s.pbu.hasJob n = false) : s.Makes (s.forceSignOff n)
    { parts := [.cash, .dct, .bal, .jnl, .pbu], positions := [n], windows := [n]
      notices := (.positionChanged, .sl) :: s.highJournal (s.forceSignOff n) ++
        (s.dct.entries.filter fun e => e.names n && !e.isOverrideOf n).flatMap fun e =>
          [(Notice.transferEnded, e.proposer), (Notice.transferEnded, e.confirmer)] } := by
  have none_ : (s.forcedOut n).cancelJob n = s.forcedOut n := cancelJob_none (by rwa [pbu_forcedOut])
  have cancelled : (s.forcedOut n).Makes ((s.forcedOut n).cancelJob n) { parts := [.jnl, .pbu], notices := [] } := by
    rw [none_]
    exact (State.Makes.refl _).widen (List.nil_subset _) (List.Subset.refl _) (List.Subset.refl _) fun _ => Iff.rfl
  have jnl : ((s.forcedOut n).cancelJob n).jnl = s.jnl := by
    rw [none_]
    exact (makes_forcedOut s n).part (p := .jnl) (by simp)
  refine (makes_forceSignOff s n cancelled).renotice fun x => ?_
  rw [highJournal_congr (s := s) jnl rfl, List.append_nil, List.mem_append, mem_removalNotices_forced, ← List.mem_append]
  exact List.perm_append_comm.mem_iff

/-! ### Profiles and contexts (06 R100, R114) -/

section
variable (s : State) {n m : Fin 8}

theorem profile_forceSignOff : (s.forceSignOff n).profile m = (s.endOpenTxn n).profile m := by
  rw [State.profile, bal_forceSignOff]
  rfl

theorem profile_endOpenTxn_ne (h : m ≠ n) : (s.endOpenTxn n).profile m = s.profile m := by
  unfold State.endOpenTxn
  split
  · exact Vec.get_set_ne _ _ h
  · rfl

theorem contexts_endOpenTxn : (s.endOpenTxn n).bal.contexts = s.bal.contexts := by
  unfold State.endOpenTxn
  split <;> rfl

theorem context_forceSignOff_self : (s.forceSignOff n).context n = { s.context n with declaration := none } := by
  rw [State.context, bal_forceSignOff]
  show (Vec.modify _ n _).get n = _
  rw [contexts_endOpenTxn, Vec.modify, Vec.get_set_self]
  rfl

theorem context_forceSignOff_ne (h : m ≠ n) : (s.forceSignOff n).context m = s.context m := by
  rw [State.context, bal_forceSignOff]
  show (Vec.modify _ n _).get m = _
  rw [contexts_endOpenTxn, Vec.modify, Vec.get_set_ne _ _ h]
  rfl

end

/-! ### The transaction open or not -/

theorem inTxn_iff (st : PosState) : st.inTxn = true ↔ st = .serving ∨ st = .held := by
  cases st <;> decide

section
variable {s : State} {n : Fin 8}

theorem endOpenTxn_open (h : (s.pos n).state = .serving ∨ (s.pos n).state = .held) : s.endOpenTxn n = s.endTxn n :=
  if_pos ((inTxn_iff _).2 h)

theorem endOpenTxn_none (h : ¬((s.pos n).state = .serving ∨ (s.pos n).state = .held)) : s.endOpenTxn n = s :=
  if_neg (mt (inTxn_iff _).1 h)

end

section
variable (s : State) {n : Fin 8}

/-- A transaction open ends: its duration is handed over and its amount leaves the window (03 R40, R47). -/
theorem forceSignOff_open (h : (s.pos n).state = .serving ∨ (s.pos n).state = .held) :
    (s.forceSignOff n).pos n = (s.pos n).endTxn.closedOut ∧ (s.forceSignOff n).window n = { s.window n with amount := none } ∧
      (s.forceSignOff n).profile n = (s.profile n).addDuration (s.pos n).stopwatch := by
  have ends := endOpenTxn_open h
  refine ⟨?_, ?_, ?_⟩
  · rw [pos_forceSignOff, ends, pos_endTxn_self]
  · rw [State.window, windows_forceSignOff, ends]
    exact window_endTxn s n
  · rw [profile_forceSignOff, ends, State.profile, bal_endTxn]
    exact Vec.get_set_self ..

theorem forceSignOff_none (h : ¬((s.pos n).state = .serving ∨ (s.pos n).state = .held)) :
    (s.forceSignOff n).pos n = (s.pos n).closedOut ∧ (s.forceSignOff n).window n = s.window n ∧
      (s.forceSignOff n).profile n = s.profile n := by
  have stays := endOpenTxn_none h
  refine ⟨?_, ?_, ?_⟩
  · rw [pos_forceSignOff, stays]
  · rw [State.window, windows_forceSignOff, stays, State.window]
  · rw [profile_forceSignOff, stays]

theorem profile_forceSignOff_ne {m : Fin 8} (h : m ≠ n) : (s.forceSignOff n).profile m = s.profile m := by
  rw [profile_forceSignOff, profile_endOpenTxn_ne s h]

/-- The table loses the entries that name the position; an override of it is DROPPED. -/
theorem table_forceSignOff (distinct : (s.dct.entries.map Entry.id).Nodup) :
    (s.forceSignOff n).dct.entries = s.dct.entries.filter (fun e => !e.names n) ∧ (s.forceSignOff n).dct.cursor = s.dct.cursor ∧
      ∀ m, (s.forceSignOff n).dct.outcomes.get m =
        if m = n ∧ s.dct.overrides n ≠ 0 then .dropped else s.dct.outcomes.get m := by
  rw [dct_forceSignOff]
  refine ⟨?_, ?_, fun m => ?_⟩
  · rw [entries_removed _ n true (by rwa [dct_endOpenTxn]), dct_endOpenTxn]
  · rw [(frame_removeEntries _ n true).2, dct_endOpenTxn]
  · rw [outcomes_removeEntries, dct_endOpenTxn]

theorem pbu_forceSignOff_job (once : s.pbu.jobPositions.Nodup) (job : s.pbu.hasJob n = true) :
    ((s.forceSignOff n).pbu.results.get n).outcome = .cancelled ∧ (s.forceSignOff n).pbu.hasJob n = false := by
  rw [pbu_forceSignOff]
  exact cancelJob_ends (by rwa [pbu_forcedOut]) (by rwa [pbu_forcedOut])

theorem pbu_forceSignOff_free (free : s.pbu.hasJob n = false) : (s.forceSignOff n).pbu = s.pbu := by
  rw [pbu_forceSignOff, cancelJob_none (by rwa [pbu_forcedOut]), pbu_forcedOut]

end

theorem exec_forceSignOff (tag : Byte) (s : State) {v : Nat} (fits : v < 256) :
    exec (.forceSignOff .sl tag (be 1 v)) s = .next (request .sl .forceSignOff tag (be 1 v) (forceSignOff v) s) := by
  show Host.Outcome.next (request .sl .forceSignOff tag (be 1 v) (forceSignOff (field (be 1 v) 0 1)) s) = _
  rw [field_be_alone 1 v fits]

end Sys2Proof.Machine

open Sys2Proof Sys2Proof.Machine

/-- Settles O21: the checks in their order, and what each step of a forced sign-off leaves. -/
theorem forceSignOffClosesThePosition : Obligations.ForceSignOffClosesThePosition := by
  intro v tag s accepts fits c
  have row : exec c s = _ := exec_forceSignOff tag s fits
  refine ⟨fun out => ?_, ?_⟩
  · have refused : forceSignOff v (s.accept .sl) = .error .badForm := by rw [forceSignOff, readPosition?_out out]
    exact refuses_of_row (k := .forceSignOff) row accepts rfl rfl refused
  intro n at_ distinct once p d vault holds inTxn away
  subst at_
  have cash := State.cash_accept s .sl
  have jnl := State.jnl_accept s .sl
  have dct := State.dct_accept s .sl
  have pbu := State.pbu_accept s .sl
  have profile (m : Fin 8) : (s.accept .sl).profile m = s.profile m := by simp only [State.profile, State.bal_accept]
  have context (m : Fin 8) : (s.accept .sl).context m = s.context m := by simp only [State.context, State.bal_accept]
  have window : (s.accept .sl).window n = s.window n := by simp only [State.window, State.windows_accept]
  have drawer : (s.accept .sl).drawer n = d := by simp only [State.drawer, cash, d]
  have vaulted : (s.accept .sl).vaultAfterPutAway n = vault := by simp only [State.vaultAfterPutAway, drawer, cash, vault]
  have held : (s.accept .sl).canPutAway n = true ↔ holds := by rw [canPutAway_iff, vaulted]
  have judged : forceSignOff n.val (s.accept .sl) =
      check ((s.pos n).state ≠ .closed) .wrongState (check ((s.accept .sl).canPutAway n = true) .range
        (okReply ((s.accept .sl).forceSignOff n) [])) := by
    rw [forceSignOff, readPosition?_val]
    rfl
  have refuses {code : Code} (h : forceSignOff n.val (s.accept .sl) = .error code) : s.Refuses c .sl 15 tag code :=
    refuses_of_row (k := .forceSignOff) row accepts rfl rfl h
  refine ⟨fun closed => refuses ?_, fun opened more => refuses ?_, fun opened fit => ?_⟩
  · rw [judged, check_neg (not_not_intro closed)]
  · rw [judged, check_pos opened, check_neg (mt held.1 more)]
  rw [check_pos opened, check_pos (held.2 fit)] at judged
  obtain ⟨N, cancelled⟩ := makes_cancelJob ((s.accept .sl).forcedOut n) n
  obtain ⟨⟨keeps, -, replied, others, cores, shows⟩, carries⟩ := (makes_forceSignOff _ n cancelled).taken (k := .forceSignOff)
    (tag := tag) (body := be 1 n.val) accepts rfl rfl judged
  have bal := carries.part .bal
  have profiles (m : Fin 8) := congrArg (fun b : Bal => b.profiles.get m) bal
  have contexts (m : Fin 8) := congrArg (fun b : Bal => b.contexts.get m) bal
  have table := table_forceSignOff (s.accept .sl) (n := n) (by rwa [dct])
  rw [← show _ = _ from carries.part .dct, dct] at table
  obtain ⟨entries, cursor, outcomes⟩ := table
  have print := carries.part .pbu
  have layers := carries.layers n
  refine ⟨_, row, keeps, shows, others, replied, fun m hm => (cores m (by simpa using hm)).trans (if_neg Link.noConfusion),
    fun txn => ?_, fun quiet => ?_, fun m hm => ⟨?_, ?_⟩, ?_, ?_, entries, cursor, outcomes, fun job => ?_,
    fun free => ⟨?_, fun j none some => ?_, ?_⟩⟩
  · obtain ⟨pos, ended, duration⟩ := forceSignOff_open (s.accept .sl) txn
    rw [State.SameLayers, ended, window] at layers
    obtain ⟨text, amount, current⟩ := layers
    exact ⟨(carries.core n).trans (by rw [pos]; rfl), amount, text, current, (profiles n).trans (duration.trans (by rw [profile]; rfl))⟩
  · obtain ⟨pos, same, duration⟩ := forceSignOff_none (s.accept .sl) quiet
    rw [State.SameLayers, same, window] at layers
    exact ⟨(carries.core n).trans (by rw [pos]; rfl), layers, (profiles n).trans (duration.trans (profile n))⟩
  · exact (profiles m).trans ((profile_forceSignOff_ne _ hm).trans (profile m))
  · exact (contexts m).trans ((context_forceSignOff_ne _ hm).trans (context m))
  · exact (contexts n).trans ((context_forceSignOff_self _).trans (by rw [context]))
  · exact (carries.part .cash).trans (by rw [cash_forceSignOff, vaulted, cash])
  · have ends := pbu_forceSignOff_job (s.accept .sl) (by rwa [pbu]) (by rwa [pbu] : (s.accept .sl).pbu.hasJob n = true)
    rwa [← show _ = _ from print] at ends
  · exact print.trans ((pbu_forceSignOff_free _ (by rwa [pbu])).trans pbu)
  · refine (carries.part .jnl).trans ?_
    rw [jnl_forceSignOff _ n (by rwa [pbu]), drawer, jnl, State.day_accept, eq_ite_of_cases (CashRecord.isEmpty_iff d) none some]
    rfl
  · obtain ⟨⟨-, notes, -⟩, -⟩ := (makes_forceSignOff_free (by rwa [pbu])).taken (k := .forceSignOff)
      (tag := tag) (body := be 1 n.val) accepts rfl rfl judged
    rwa [dct, ← highJournal_congr jnl.symm (carries.part .jnl)] at notes
end

section
/-! PROOF. The checks of a cash movement (04 R66 to R69): each as the claims say it, and what a POST's or a VOID's movement is
answered where one fails. -/

namespace Sys2Proof.Machine

/-! ### Breakdown lines (04 R66) -/

theorem linesDistinct_iff (lines : List Line) :
    linesDistinct lines = true ↔ lines.Pairwise fun a b => a.slot ≠ b.slot ∨ a.isIn ≠ b.isIn := by
  have apart (a b : Line) : (!(b.slot == a.slot && b.isIn == a.isIn)) = true ↔ a.slot ≠ b.slot ∨ a.isIn ≠ b.isIn := by
    rw [Bool.not_eq_true', Bool.and_eq_false_iff, beq_eq_false_iff_ne, beq_eq_false_iff_ne, ne_comm, ne_comm (a := b.isIn)]
  induction lines with
  | nil => simp [linesDistinct]
  | cons a lines ih => simp only [linesDistinct, Bool.and_eq_true, List.all_eq_true, apart, ih, List.pairwise_cons]

theorem Cash.face?_isSome_iff (c : Cash) (slot : Nat) :
    (c.face? slot).isSome = true ↔ ∃ h : slot < 12, c.faces.get ⟨slot, h⟩ ≠ none := by
  unfold Cash.face?
  split
  · next h => simp [h, Option.isSome_iff_ne_none]
  · next h => simp [h]

theorem Cash.linesSound_iff (c : Cash) (lines : List Line) : c.linesSound lines = true ↔
    (∀ l ∈ lines, (∃ h : l.slot < 12, c.faces.get ⟨l.slot, h⟩ ≠ none) ∧ 1 ≤ l.count ∧ l.count ≤ 999) ∧
      lines.Pairwise fun a b => a.slot ≠ b.slot ∨ a.isIn ≠ b.isIn := by
  simp only [Cash.linesSound, Bool.and_eq_true, List.all_eq_true, decide_eq_true_eq, Cash.face?_isSome_iff, linesDistinct_iff]

section
variable {c : Cash} {dir : CashDir} {amount threshold : Nat} {lines : List Line} {r : CashRecord}

/-- A breakdown is judged by its lines where there are any; a movement of no cash has none. -/
theorem Cash.breakdownOk_iff (form : dir = .none → lines = []) :
    c.breakdownOk dir amount lines = true ↔ (lines ≠ [] → c.LinesMove (dir == .inward) amount lines) := by
  by_cases empty : lines = []
  · simp [Cash.breakdownOk, empty]
  · simp only [Cash.breakdownOk, Bool.or_eq_true, List.isEmpty_iff, empty, false_or, Bool.and_eq_true, decide_eq_true_eq,
      Cash.linesSound_iff, Cash.LinesMove, ne_eq, not_false_eq_true, true_imp_iff, and_assoc]
    cases dir with
    | none => exact absurd (form rfl) empty
    | inward => exact Iff.rfl
    | outward => exact Iff.rfl

theorem itemizationOk_iff :
    itemizationOk threshold dir amount lines = true ↔ (dir ≠ .none → lines = [] → amount ≤ threshold) := by
  rw [itemizationOk, Bool.or_eq_true, Bool.or_eq_true, beq_iff_eq, Bool.not_eq_true', decide_eq_true_eq,
    List.isEmpty_eq_false_iff, or_assoc, or_iff_not_imp_left, or_iff_not_imp_left, not_not]

/-! ### The effect on drawer and counter (04 R68) -/

theorem moved_eq (faces : Vec 12 (Option Nat)) (dir : CashDir) (amount : Nat) (lines : List Line) (r : CashRecord) :
    r.moved faces dir amount lines = if lines = [] then CashRecord.make faces r.counts (r.unitemized + dir.signed amount)
      else CashRecord.make faces
        (Vec.tab fun i => r.counts.get i + (pieces true lines).get i - (pieces false lines).get i) r.unitemized := by
  simp only [CashRecord.moved, List.isEmpty_iff]

theorem counts_moved (faces : Vec 12 (Option Nat)) (dir : CashDir) (amount : Nat) (lines : List Line) (r : CashRecord) (i : Fin 12) :
    (r.moved faces dir amount lines).counts.get i =
      r.counts.get i + (pieces true lines).get i - (pieces false lines).get i := by
  rw [moved_eq]
  split
  · next empty => simp [CashRecord.make, empty, pieces_get]
  · exact Vec.get_tab _ _

theorem unitemized_moved (faces : Vec 12 (Option Nat)) (dir : CashDir) (amount : Nat) (lines : List Line) (r : CashRecord) :
    (r.moved faces dir amount lines).unitemized = if lines = [] then r.unitemized + dir.signed amount else r.unitemized := by
  rw [moved_eq]
  split <;> rfl

/-- A check and the checks behind it, as the first that fails. -/
theorem check_elim {α : Type} {p q : Prop} [Decidable p] [Decidable q] {code : Code} {o : Option Code} {k rest : Except Code α}
    (h : p ↔ ¬q) (behind : rest = o.elim k .error) : check p code rest = (if q then some code else o).elim k .error := by
  by_cases fails : q
  · rw [check_neg (by rwa [h, not_not]), if_pos fails]
    rfl
  · rw [check_pos (h.2 fails), if_neg fails, behind]

/-- Check 5 is the first of its checks that the movement fails. -/
theorem judgeEffect_eq {α : Type} (moves : dir ≠ .none) (k : Except Code α) :
    c.judgeEffect dir amount lines r k = (c.effectFails r (dir == .inward) amount lines).elim k .error := by
  have signed : dir.signed amount = if (dir == .inward) = true then (amount : Int) else -(amount : Int) := by
    cases dir with
    | none => exact absurd rfl moves
    | inward => rfl
    | outward => rfl
  have outward : dir = .outward ↔ (dir == .inward) = false := by
    cases dir with
    | none => exact absurd rfl moves
    | inward => decide
    | outward => decide
  unfold Cash.judgeEffect Cash.effectFails
  simp only [if_neg moves, unitemized_moved, counts_moved, signed, outward]
  simp only [Config.maxDrawerCount, Config.maxUnitemized, Config.maxTotal, Config.maxCounter, List.isEmpty_iff]
  refine check_elim ?_ (check_elim ?_ (check_elim ?_ (check_elim ?_ (check_elim ?_ (check_elim ?_ rfl)))))
  · simp only [not_exists, not_lt]
  · simp only [not_exists, not_lt]
  · simp only [not_and, not_lt]
  · rw [not_or, not_lt, not_lt]
  · rw [not_or, not_lt, not_lt]
  · rw [not_lt]
    cases dir <;> simp

theorem judgeEffect_of_fails {α : Type} (moves : dir ≠ .none) {code : Code}
    (fails : c.effectFails r (dir == .inward) amount lines = some code) (k : Except Code α) : c.judgeEffect dir amount lines r k = .error code := by
  rw [judgeEffect_eq moves, fails]
  rfl

theorem judgeEffect_of_passes {α : Type} (passes : dir ≠ .none → c.effectFails r (dir == .inward) amount lines = none)
    (k : Except Code α) : c.judgeEffect dir amount lines r k = k := by
  by_cases moves : dir = .none
  · exact if_pos moves
  · rw [judgeEffect_eq moves, passes moves]
    rfl

theorem passes_of_judgeEffect {α : Type} {k : Except Code α} {a : α} (ok : c.judgeEffect dir amount lines r k = .ok a)
    (moves : dir ≠ .none) : c.effectFails r (dir == .inward) amount lines = none := by
  rw [judgeEffect_eq moves] at ok
  cases fails : c.effectFails r (dir == .inward) amount lines with
  | none => rfl
  | some code => simp [fails] at ok

/-- A movement that the record and the counters take, and that an unitemized balance covers, passes (04 R68). -/
theorem passes_of_takes (moves : dir ≠ .none) (takes : c.Takes dir amount lines r)
    (covered : dir = .outward → lines = [] → (amount : Int) ≤ r.total) : c.effectFails r (dir == .inward) amount lines = none := by
  refine passes_of_judgeEffect (k := .ok ()) (a := ()) ?_ moves
  rw [Cash.judgeEffect, if_neg moves, check_pos takes.covered, check_pos takes.counts,
    check_pos (by simpa only [List.isEmpty_iff] using covered), check_pos takes.unitemized, check_pos takes.total,
    check_pos takes.counter]

/-- The net of a breakdown is the signed amount of its movement. -/
theorem net_iff_signed (faces : Vec 12 (Option Nat)) (moves : dir ≠ .none) :
    worth faces (pieces (dir == .inward) lines) - worth faces (pieces (!(dir == .inward)) lines) = amount ↔
      worth faces (pieces true lines) - worth faces (pieces false lines) = dir.signed amount := by
  cases dir with
  | none => exact absurd rfl moves
  | inward => exact Iff.rfl
  | outward =>
    show worth faces (pieces false lines) - worth faces (pieces true lines) = amount ↔ _ = -(amount : Int)
    omega

end

/-! ### A movement's checks together (04 R66 to R69) -/

section
variable {α : Type} (s : State) (n : Fin 8) (dir : CashDir) (amount : Nat) (lines : List Line) (k : Except Code α)

/-- The checks that a POST and a VOID share, from the breakdown's to the journal's. -/
def State.judgeMovement : Except Code α :=
  check (s.cash.breakdownOk dir amount lines = true) .breakdown <|
  check (itemizationOk s.day.itemization dir amount lines = true) .breakdown <|
  s.cash.judgeEffect dir amount lines (s.drawer n) <|
  check (s.jnl.takesCustomer = true) .journalFull k

/-- What a posting that passes them comes to: made within the limit, held above it (04 R69). -/
def Posting.decided (p : Posting) (n : Fin 8) (s : State) : Judged :=
  if p.amount ≤ s.day.postingLimit then okReply (s.makePosting n p) (be 2 s.jnl.next)
  else check (s.dct.entries.length < Config.tableRoom) .tableFull (.ok ⟨s.holdPosting n p, .held, be 1 s.dct.freshId⟩)

theorem Posting.judge_eq (p : Posting) :
    p.judge n s = s.judgeMovement n p.kind.dir p.amount p.lines (p.decided n s) := rfl

/-- The first of a movement's checks that fails gives its code; where all hold, what is behind them is the answer. -/
theorem judgeMovement_spec (form : dir = .none → lines = []) :
    let nets : Prop := lines ≠ [] → s.cash.LinesMove (dir == .inward) amount lines
    let itemized : Prop := dir ≠ .none → lines = [] → amount ≤ s.day.itemization
    let effect : Option Code := s.cash.effectFails (s.drawer n) (dir == .inward) amount lines
    let room : Prop := (s.jnl.records.filter (fun r => r.kind.customer)).length < 4032 ∧ s.jnl.records.length < 4096
    let answer := s.judgeMovement n dir amount lines k
    (¬nets → answer = .error .breakdown) ∧ (nets → ¬itemized → answer = .error .breakdown) ∧
    (nets → itemized → dir ≠ .none → ∀ code, effect = some code → answer = .error code) ∧
    (nets → itemized → (dir ≠ .none → effect = none) → ¬room → answer = .error .journalFull) ∧
    (nets → itemized → (dir ≠ .none → effect = none) → room → answer = k) := by
  intro nets itemized effect room answer
  have net : _ ↔ nets := s.cash.breakdownOk_iff form
  have item : _ ↔ itemized := itemizationOk_iff
  have space : _ ↔ room := takesCustomer_iff s.jnl
  refine ⟨fun no => check_neg (mt net.1 no), fun yes no => ?_, fun yes small moves code fails => ?_, fun yes small passes full => ?_,
    fun yes small passes fit => ?_⟩ <;> simp only [answer, State.judgeMovement]
  · rw [check_pos (net.2 yes), check_neg (mt item.1 no)]
  · rw [check_pos (net.2 yes), check_pos (item.2 small), judgeEffect_of_fails moves fails]
  · rw [check_pos (net.2 yes), check_pos (item.2 small), judgeEffect_of_passes passes, check_neg (mt space.1 full)]
  · rw [check_pos (net.2 yes), check_pos (item.2 small), judgeEffect_of_passes passes, check_pos (space.2 fit)]

end

theorem judgeMovement_accept {α : Type} (s : State) (l : Link) (n : Fin 8) (dir : CashDir) (amount : Nat) (lines : List Line)
    (k : Except Code α) : (s.accept l).judgeMovement n dir amount lines k = s.judgeMovement n dir amount lines k := by
  simp only [State.judgeMovement, State.drawer, State.cash_accept, State.day_accept, State.jnl_accept]

/-! ### POST's checks (04 R65 to R69) -/

theorem PostKind.dir_ne_none_iff (k : PostKind) : k.dir ≠ .none ↔ k = .deposit ∨ k = .withdrawal := by cases k <;> decide

theorem PostKind.dir_eq_inward_iff (k : PostKind) : k.dir = .inward ↔ k = .deposit := by cases k <;> decide

theorem PostKind.dir_eq_outward_iff (k : PostKind) : k.dir = .outward ↔ k = .withdrawal := by cases k <;> decide

theorem PostKind.dir_beq_inward (k : PostKind) : (k.dir == .inward) = (k == .deposit) := by cases k <;> decide

section
variable {s : State} {n : Fin 8} {body : Bytes} {x : Posting}

theorem post_read (serving : (s.pos n).state = .serving) (read : readPosting body = some x) :
    post body n s = x.checkFields (x.judge n s) := by
  rw [post, check_pos serving, read]

theorem post_unread (serving : (s.pos n).state = .serving) (unread : readPosting body = none) :
    post body n s = .error .badForm := by
  rw [post, check_pos serving, unread]

variable {α : Type} (k : Except Code α)

theorem checkFields_range (out : ¬(1 ≤ x.amount ∧ x.amount ≤ 9999999999 ∧ x.account ≤ 999999999999)) :
    x.checkFields k = .error .range := by
  rw [← and_assoc] at out
  by_cases amount : 1 ≤ x.amount ∧ x.amount ≤ Config.maxAmount
  · rw [Posting.checkFields, check_pos amount, check_neg fun account : x.account ≤ Config.maxAccount => out ⟨amount, account⟩]
  · exact check_neg amount

variable (within : 1 ≤ x.amount ∧ x.amount ≤ 9999999999 ∧ x.account ≤ 999999999999)
include within

/-- A posting in its ranges is checked for the combinations that no posting has. -/
theorem checkFields_inRange : x.checkFields k =
    check (¬(x.book = true ∧ x.account = 0)) .badForm (check (¬(x.kind.dir = .none ∧ x.lines ≠ [])) .badForm k) := by
  obtain ⟨least, most, account⟩ := within
  rw [Posting.checkFields, check_pos ⟨least, most⟩, check_pos (show x.account ≤ Config.maxAccount from account)]

theorem checkFields_form (bad : ¬((x.book = true → x.account ≠ 0) ∧ (x.kind.dir = .none → x.lines = []))) :
    x.checkFields k = .error .badForm := by
  rw [checkFields_inRange k within]
  by_cases book : x.book = true → x.account ≠ 0
  · rw [check_pos (not_and.2 book), check_neg fun ok => bad ⟨book, fun none => not_not.1 (not_and.1 ok none)⟩]
  · exact check_neg (mt not_and.1 book)

theorem checkFields_passes (book : x.book = true → x.account ≠ 0) (form : x.kind.dir = .none → x.lines = []) :
    x.checkFields k = k := by
  rw [checkFields_inRange k within, check_pos (not_and.2 book), check_pos (not_and.2 fun none => not_not_intro (form none))]

end

end Sys2Proof.Machine

open Sys2Proof Sys2Proof.Machine

/-- Settles O26: the fields' checks, and behind them those of the movement, in their order. -/
theorem postIsRefusedByItsFirstCheck : Obligations.PostIsRefusedByItsFirstCheck := by
  intro n tag body s accepts fits c refuses
  have length : Kind.post.admits (.tl n) body.length = true := (Kind.admits_iff _ _ _).2 fits
  have refused {code : Code} (h : post body n (s.accept (.tl n)) = .error code) : refuses code :=
    refuses_of_row (k := .post) rfl accepts rfl length h
  obtain ⟨state, -⟩ := heard_items s n n
  refine ⟨fun busy => refused (check_neg (state ▸ busy)), fun serving unread => refused (post_unread (state ▸ serving) unread), ?_⟩
  intro x read serving inRange moves into admitted nets itemized effect sound room
  have fields : post body n (s.accept (.tl n)) = x.checkFields (x.judge n (s.accept (.tl n))) := post_read (state ▸ serving) read
  have form : (x.kind.dir = .none → x.lines = []) ↔ (x.lines ≠ [] → moves) := by
    rw [← not_imp_not]
    exact imp_congr_right fun _ => x.kind.dir_ne_none_iff
  have still (ok : admitted) : x.kind.dir = .none → x.lines = [] := by
    obtain ⟨-, -, lines⟩ := ok
    exact form.2 lines
  have judged (ok : admitted) : post body n (s.accept (.tl n)) = x.judge n (s.accept (.tl n)) := by
    have lines := still ok
    obtain ⟨within, book, -⟩ := ok
    exact fields.trans (checkFields_passes _ within book lines)
  have spec (ok : admitted) := judgeMovement_spec s n x.kind.dir x.amount x.lines (x.decided n (s.accept (.tl n))) (still ok)
  simp only [← judgeMovement_accept s (.tl n), ← Posting.judge_eq, x.kind.dir_ne_none_iff, x.kind.dir_beq_inward] at spec
  refine ⟨fun out => refused (fields.trans (checkFields_range _ out)), fun within bad => ?_, fun ok no => ?_, fun ok yes no => ?_,
    fun ok yes small cash code fails => ?_, fun ok full => ?_, fun ok fit above most => ?_⟩
  · exact refused (fields.trans (checkFields_form _ within fun ok => bad ⟨within, ok.1, form.1 ok.2⟩))
  · obtain ⟨unbalanced, -⟩ := spec ok
    exact refused ((judged ok).trans (unbalanced no))
  · obtain ⟨-, uncounted, -⟩ := spec ok
    exact refused ((judged ok).trans (uncounted yes no))
  · obtain ⟨-, -, ineffective, -⟩ := spec ok
    exact refused ((judged ok).trans (ineffective yes small cash code fails))
  · obtain ⟨ok, yes, small, passes⟩ := ok
    obtain ⟨-, -, -, unrecorded, -⟩ := spec ok
    exact refused ((judged ok).trans (unrecorded yes small passes full))
  · obtain ⟨ok, yes, small, passes⟩ := ok
    obtain ⟨-, -, -, -, taken⟩ := spec ok
    refine refused ((judged ok).trans ((taken yes small passes fit).trans ?_))
    rw [Posting.decided, if_neg (by rw [State.day_accept]; omega), check_neg (by rw [State.dct_accept]; exact Nat.not_lt.2 most)]
end

section
/-! PROOF. A cash movement at a window, its record and what follows it (04 R70, R71, R75, R78): what a POST and a VOID make. -/

namespace Sys2Proof.Machine

/-! ### DRAWER-HIGH (04 R78, R79) -/

/-- DRAWER-HIGH hangs on the two DRAWER-HIGH states alone. -/
theorem highDrawer_congr {s s' t t' : State} (before : s'.cash.high = s.cash.high) (after : t'.cash.high = t.cash.high) :
    s'.highDrawer t' = s.highDrawer t := by
  unfold State.highDrawer
  rw [before, after]

theorem highDrawer_same {s t : State} (h : t.cash.high = s.cash.high) : s.highDrawer t = [] := by
  unfold State.highDrawer
  rw [h]
  exact if_neg fun ⟨n, low, high⟩ => by simp [low] at high

section
variable (s : State) (n : Fin 8)

/-- The state with drawer `n` HIGH or ARMED. -/
def State.setHigh (b : Bool) : State := { s with cash := { s.cash with high := s.cash.high.set n b } }

theorem makes_setHigh (b : Bool) : s.Makes (s.setHigh n b) { parts := [.cash] } := makes_setCash s _

/-- A HIGH drawer stays so above the re-arm level alone. -/
theorem rearm_eq_setHigh : s.rearm n =
    s.setHigh n (s.cash.high.get n && decide (rearmLevel s.day.drawerMax < (s.drawer n).total)) := by
  unfold State.rearm
  split
  · next low =>
    obtain ⟨-, low⟩ := Bool.and_eq_true _ _ ▸ low
    rw [decide_eq_false (not_lt.2 (of_decide_eq_true low)), Bool.and_false]
    rfl
  · next stays =>
    have same : (s.cash.high.get n && decide (rearmLevel s.day.drawerMax < (s.drawer n).total)) = s.cash.high.get n := by
      cases high : s.cash.high.get n with
      | false => rfl
      | true => simpa [high] using stays
    rw [same, State.setHigh, Vec.set_get_self]

theorem judgeHigh_rises (armed : s.cash.high.get n = false) (above : (s.day.drawerMax : Int) < (s.drawer n).total) :
    s.judgeHigh n = (s.setHigh n true).notify .drawerHigh .sl := if_pos (by rw [armed, decide_eq_true above]; rfl)

theorem judgeHigh_stays (h : ¬(s.cash.high.get n = false ∧ (s.day.drawerMax : Int) < (s.drawer n).total)) :
    s.judgeHigh n = s.rearm n := if_neg (by simpa using h)

/-- The judgement of DRAWER-HIGH changes that state of the drawer alone. -/
theorem cash_judgeHigh : (s.judgeHigh n).cash = { s.cash with
    high := s.cash.high.set n (highAfter (s.cash.high.get n) true s.day.drawerMax (s.drawer n).total) } := by
  by_cases rises : s.cash.high.get n = false ∧ (s.day.drawerMax : Int) < (s.drawer n).total
  · obtain ⟨armed, above⟩ := rises
    rw [judgeHigh_rises s n armed above, State.cash_notify, armed, highAfter, decide_eq_true above]
    rfl
  · have after : (s.cash.high.get n && decide (rearmLevel s.day.drawerMax < (s.drawer n).total)) =
        highAfter (s.cash.high.get n) true s.day.drawerMax (s.drawer n).total := by
      cases high : s.cash.high.get n with
      | false => exact (decide_eq_false fun above => rises ⟨high, above⟩).symm
      | true => rfl
    rw [judgeHigh_stays s n rises, rearm_eq_setHigh, after]
    rfl

theorem makes_judgeHigh : s.Makes (s.judgeHigh n) { parts := [.cash], notices := s.highDrawer (s.judgeHigh n) } := by
  have cash := cash_judgeHigh s n
  by_cases rises : s.cash.high.get n = false ∧ (s.day.drawerMax : Int) < (s.drawer n).total
  · obtain ⟨armed, above⟩ := rises
    have high : ∃ m, s.cash.high.get m = false ∧ (s.judgeHigh n).cash.high.get m = true :=
      ⟨n, armed, by rw [cash, armed, highAfter, decide_eq_true above]; exact Vec.get_set_self ..⟩
    rw [State.highDrawer, if_pos high, judgeHigh_rises s n armed above]
    exact (makes_setHigh s n true).trans (makes_notify _ rfl)
  · have low : ¬∃ m, s.cash.high.get m = false ∧ (s.judgeHigh n).cash.high.get m = true := by
      rintro ⟨m, armed, high⟩
      rw [judgeHigh_stays s n rises, rearm_eq_setHigh, State.setHigh, Vec.get_set] at high
      split at high
      · next same => simp [← same, armed] at high
      · simp [armed] at high
    rw [State.highDrawer, if_neg low, judgeHigh_stays s n rises, rearm_eq_setHigh]
    exact makes_setHigh s n _

theorem windows_judgeHigh : (s.judgeHigh n).windows = s.windows := by
  by_cases rises : s.cash.high.get n = false ∧ (s.day.drawerMax : Int) < (s.drawer n).total
  · obtain ⟨armed, above⟩ := rises
    rw [judgeHigh_rises s n armed above, State.windows_notify]
    rfl
  · rw [judgeHigh_stays s n rises, rearm_eq_setHigh]
    rfl

/-! ### A movement, its record and what follows it (04 R70, R75) -/

variable (dir : CashDir) (amount : Nat) (lines : List Line)

/-- The cash that a movement leaves, DRAWER-HIGH aside. -/
def State.cashMoved : Cash := { s.cash with
  drawers := s.cash.drawers.set n ((s.drawer n).moved s.cash.faces dir amount lines)
  cashIn := if dir = .inward then s.cash.cashIn + amount else s.cash.cashIn
  cashOut := if dir = .outward then s.cash.cashOut + amount else s.cash.cashOut }

theorem moveCash_eq (moves : dir ≠ .none) :
    s.moveCash n dir amount lines = { s with cash := s.cashMoved n dir amount lines } := if_neg moves

theorem moveCash_setCash : s.moveCash n dir amount lines = { s with cash := (s.moveCash n dir amount lines).cash } := by
  unfold State.moveCash
  split <;> rfl

theorem makes_moveCash : s.Makes (s.moveCash n dir amount lines) { parts := [.cash] } := by
  rw [moveCash_setCash]
  exact makes_setCash s _

theorem high_moveCash : (s.moveCash n dir amount lines).cash.high = s.cash.high := by
  unfold State.moveCash
  split <;> rfl

theorem makes_setJnl (j : Journal) : s.Makes { s with jnl := j } { parts := [.jnl] } :=
  .of_part .jnl rfl rfl rfl rfl rfl fun p hp => by cases p <;> simp at hp <;> rfl

/-- Profile and amount layer, the first steps after the record. -/
def State.tallied (s : State) (n : Fin 8) (dir : CashDir) (amount : Nat) : State :=
  (s.onProfile n (Profile.addPosting dir amount)).setAmount n (some amount)

theorem afterMovement_none (none : dir = .none) : s.afterMovement n dir amount = s.tallied n dir amount := if_pos none

theorem afterMovement_cash (moves : dir ≠ .none) :
    s.afterMovement n dir amount = ((s.tallied n dir amount).release n).judgeHigh n := if_neg moves

theorem makes_tallied : s.Makes (s.tallied n dir amount) { parts := [.bal], windows := [n] } :=
  (makes_setBal s _).trans (makes_setAmount _ n _)

theorem makes_afterMovement : s.Makes (s.afterMovement n dir amount)
    { parts := [.bal, .cash], positions := [n], windows := [n], notices := s.highDrawer (s.afterMovement n dir amount) } := by
  by_cases moves : dir = .none
  · have same : s.highDrawer (s.tallied n dir amount) = [] := highDrawer_same rfl
    rw [afterMovement_none s n dir amount moves, same]
    exact (makes_tallied s n dir amount).widen (by simp) (by simp) (by simp) fun _ => Iff.rfl
  · have release := (makes_tallied s n dir amount).trans (makes_onPos _ n Position.release)
    rw [afterMovement_cash s n dir amount moves,
      highDrawer_congr (s := (s.tallied n dir amount).release n) (s' := s) (t' := State.judgeHigh _ n) rfl rfl]
    exact release.trans (makes_judgeHigh _ n)

theorem window_afterMovement : (s.afterMovement n dir amount).window n = { s.window n with amount := some amount } := by
  have tallied : (s.tallied n dir amount).window n = { s.window n with amount := some amount } := by
    rw [State.tallied, State.setAmount, State.window_onWindow_self]
    rfl
  by_cases moves : dir = .none
  · rw [afterMovement_none s n dir amount moves, tallied]
  · rw [afterMovement_cash s n dir amount moves, ← tallied]
    simp only [State.window, windows_judgeHigh, State.windows_release]

theorem bal_afterMovement : (s.afterMovement n dir amount).bal =
    { s.bal with profiles := s.bal.profiles.set n ((s.profile n).addPosting dir amount) } := by
  by_cases moves : dir = .none
  · rw [afterMovement_none s n dir amount moves]
    rfl
  · rw [afterMovement_cash s n dir amount moves]
    exact (makes_judgeHigh _ n).part (p := .bal) (by simp)

theorem jnl_afterMovement : (s.afterMovement n dir amount).jnl = s.jnl :=
  (makes_afterMovement s n dir amount).part (p := .jnl) (by simp)

theorem pos_afterMovement_cash (moves : dir ≠ .none) : (s.afterMovement n dir amount).pos n = (s.pos n).release := by
  rw [afterMovement_cash s n dir amount moves, State.pos, positions_judgeHigh]
  exact State.pos_onPos_self ..

theorem cash_afterMovement_cash (moves : dir ≠ .none) : (s.afterMovement n dir amount).cash = { s.cash with
    high := s.cash.high.set n (highAfter (s.cash.high.get n) true s.day.drawerMax (s.drawer n).total) } := by
  rw [afterMovement_cash s n dir amount moves, cash_judgeHigh]
  rfl

/-- A movement of cash, the journal `j` in the journal's place, a record appended to it, and what follows. -/
def State.movement (j : Journal) (r : Record) : State :=
  (State.append { s.moveCash n dir amount lines with jnl := j } r).afterMovement n dir amount

theorem makePosting_eq (p : Posting) : s.makePosting n p =
    s.movement n p.kind.dir p.amount p.lines s.jnl (p.record n (s.pos n).tellerNum) := by
  rw [State.makePosting, State.movement, ← jnl_moveCash s n p.kind.dir p.amount p.lines]

theorem makeVoid_eq (r : Record) (k : PostKind) : s.makeVoid n r k lines =
    s.movement n k.reversalDir r.amount lines (s.jnl.void r.seq s.jnl.next) (reversalOf r k n (s.pos n).tellerNum) := by
  unfold State.makeVoid State.movement
  dsimp only
  rw [jnl_moveCash]

section
variable (j : Journal) (r : Record)

theorem makes_movement (spent : j.spent = s.jnl.spent) : s.Makes (s.movement n dir amount lines j r)
    { parts := [.cash, .jnl, .bal], positions := [n], windows := [n]
      notices := s.highJournal (s.movement n dir amount lines j r) ++ s.highDrawer (s.movement n dir amount lines j r) } := by
  have moved := (makes_moveCash s n dir amount lines).trans (makes_setJnl _ j)
  have written := (moved.trans (makes_append _ r)).trans (makes_afterMovement _ n dir amount)
  have journal : State.highJournal { s.moveCash n dir amount lines with jnl := j }
      (State.append { s.moveCash n dir amount lines with jnl := j } r) = s.highJournal (s.movement n dir amount lines j r) := by
    unfold State.highJournal
    rw [State.movement, jnl_afterMovement]
    exact if_congr (by rw [← spent]) rfl rfl
  have drawer : State.highDrawer (State.append { s.moveCash n dir amount lines with jnl := j } r)
      (s.movement n dir amount lines j r) = s.highDrawer (s.movement n dir amount lines j r) := by
    refine highDrawer_congr ?_ rfl
    rw [State.cash_append]
    exact high_moveCash s n dir amount lines
  refine written.widen (by simp [Change.andThen]) (by simp [Change.andThen]) (by simp [Change.andThen]) fun x => ?_
  rw [← journal, ← drawer]
  exact Iff.rfl

theorem jnl_movement : (s.movement n dir amount lines j r).jnl = j.withRecord s.day.seconds r := by
  rw [State.movement, jnl_afterMovement, append_jnl, moveCash_setCash]

theorem bal_movement : (s.movement n dir amount lines j r).bal =
    { s.bal with profiles := s.bal.profiles.set n ((s.profile n).addPosting dir amount) } := by
  rw [State.movement, bal_afterMovement, State.profile, State.bal_append, moveCash_setCash]
  rfl

theorem window_movement : (s.movement n dir amount lines j r).window n = { s.window n with amount := some amount } := by
  rw [State.movement, window_afterMovement, State.window, State.windows_append, moveCash_setCash]
  rfl

theorem cash_movement (moves : dir ≠ .none) : (s.movement n dir amount lines j r).cash = { s.cashMoved n dir amount lines with
    high := s.cash.high.set n (highAfter (s.cash.high.get n) true s.day.drawerMax
      ((s.drawer n).moved s.cash.faces dir amount lines).total) } := by
  have drawn : (s.cashMoved n dir amount lines).drawers.get n = (s.drawer n).moved s.cash.faces dir amount lines :=
    Vec.get_set_self ..
  rw [State.movement, cash_afterMovement_cash _ n dir amount moves, State.drawer, State.cash_append, State.day_append,
    moveCash_eq s n dir amount lines moves, ← drawn]
  rfl

theorem pos_movement (moves : dir ≠ .none) : (s.movement n dir amount lines j r).pos n = (s.pos n).release := by
  rw [State.movement, pos_afterMovement_cash _ n dir amount moves, State.pos, State.positions_append, moveCash_setCash]
  rfl

/-- Where no cash moves, the cash and the position stand. -/
theorem movement_none (none : dir = .none) : (s.movement n dir amount lines j r).cash = s.cash ∧
    (s.movement n dir amount lines j r).pos n = s.pos n := by
  have still : s.moveCash n dir amount lines = s := if_pos none
  rw [State.movement, afterMovement_none _ n dir amount none, still]
  refine ⟨State.cash_append { s with jnl := j } r, ?_⟩
  exact congrArg (fun v : Vec 8 Position => v.get n) (State.positions_append { s with jnl := j } r)
end

end

/-! ### The request that moves cash (01 R7, 03 R50) -/

/-- What a request on position `n`'s link leaves, where it makes a movement. -/
structure State.Moved (s t : State) (n : Fin 8) (dir : CashDir) (amount : Nat) (lines : List Line) (j : Journal) (r : Record) :
    Prop where
  still : dir = .none → t.cash = s.cash ∧ (t.pos n).core = { (s.pos n).core with silence := 0 }
  cash : dir ≠ .none → t.cash = { s.cashMoved n dir amount lines with
    high := s.cash.high.set n (highAfter (s.cash.high.get n) true s.day.drawerMax
      ((s.drawer n).moved s.cash.faces dir amount lines).total) }
  lock : dir ≠ .none → (s.pos n).Released (t.pos n) ∧
    (t.pos n).core = { (s.pos n).core with lock := (t.pos n).lock, window := (t.pos n).window, silence := 0 }
  jnl : t.jnl = j.withRecord s.day.seconds r
  bal : t.bal = { s.bal with profiles := s.bal.profiles.set n ((s.profile n).addPosting dir amount) }
  window : (t.window n).text = (s.window n).text ∧ (t.window n).amount = some amount ∧
    (t.window n).current = (s.window n).current

theorem Position.released_release (p : Position) : p.Released p.release := by
  unfold Position.Released Position.release
  cases sensor : p.sensor with
  | shut => exact ⟨rfl, rfl⟩
  | opened => cases lock : p.lock with
    | locked => exact ⟨rfl, rfl⟩
    | released => exact ⟨lock, rfl⟩

theorem Position.core_release (p : Position) :
    p.release.core = { p.core with lock := p.release.lock, window := p.release.window } := by
  unfold Position.release
  split <;> rfl

/-- A position heard and released, by its core alone. -/
theorem released_of_core {p q : Position} {b : Nat} (h : q.core = (p.hear b).release.core) :
    p.Released q ∧ q.core = { p.core with lock := q.lock, window := q.window, silence := 0 } := by
  obtain ⟨lock, window⟩ := (p.hear b).released_release
  have sameLock : q.lock = (p.hear b).release.lock := show q.core.lock = _ by rw [h]; rfl
  have sameWindow : q.window = (p.hear b).release.window := show q.core.window = _ by rw [h]; rfl
  refine ⟨⟨sameLock.trans lock, sameWindow.trans window⟩, ?_⟩
  rw [h, Position.core_release, sameLock, sameWindow]
  rfl

theorem movement_taken {s : State} {n : Fin 8} {k : Kind} {tag : Byte} {body rest : Bytes} {handler : State → Judged}
    {dir : CashDir} {amount : Nat} {lines : List Line} {j : Journal} {r : Record} (accepts : s.Accepts (.tl n))
    (role : k.allows (.tl n) = true) (length : k.admits (.tl n) body.length = true) (spent : j.spent = s.jnl.spent)
    (judged : handler (s.accept (.tl n)) = okReply ((s.accept (.tl n)).movement n dir amount lines j r) rest) :
    let t := request (.tl n) k tag body handler s
    s.Answered t (.tl n) k.byte tag k.acting .ok rest
      { parts := [.cash, .jnl, .bal], positions := [n], windows := [n], notices := s.highJournal t ++ s.highDrawer t } ∧
      s.Moved t n dir amount lines j r := by
  intro t
  have cash := State.cash_accept s (.tl n)
  have day := State.day_accept s (.tl n)
  have bal := State.bal_accept s (.tl n)
  have drawer : (s.accept (.tl n)).drawer n = s.drawer n := by simp only [State.drawer, cash]
  have window : (s.accept (.tl n)).window n = s.window n := by simp only [State.window, State.windows_accept]
  have makes := makes_movement (s.accept (.tl n)) n dir amount lines j r (spent.trans (by rw [State.jnl_accept]))
  obtain ⟨answered, carries⟩ := makes.taken (tag := tag) accepts role length judged
  have high := congrArg Cash.high (show t.cash = _ from carries.part .cash)
  rw [← highJournal_congr (State.jnl_accept s (.tl n)).symm (carries.part .jnl),
    ← highDrawer_congr (congrArg Cash.high cash).symm high] at answered
  refine ⟨answered, fun none => ?_, fun moves => ?_, fun moves => released_of_core (b := s.settings.idleBlank) ?_, ?_, ?_, ?_⟩
  · obtain ⟨same, stays⟩ := movement_none (s.accept (.tl n)) n dir amount lines j r none
    exact ⟨(carries.part .cash).trans (same.trans cash), (carries.core n).trans (by rw [stays, pos_accept_self]; rfl)⟩
  · refine (carries.part .cash).trans ?_
    rw [cash_movement _ n dir amount lines j r moves, State.cashMoved, drawer, cash, day]
    rfl
  · rw [carries.core, pos_movement _ n dir amount lines j r moves, pos_accept_self]
  · exact (carries.part .jnl).trans (by rw [jnl_movement, day])
  · exact (carries.part .bal).trans (by rw [bal_movement, State.profile, bal]; rfl)
  · have layers := carries.layers n
    rwa [State.SameLayers, window_movement, window] at layers

theorem holdAt_eq_min (bound n : Nat) : holdAt bound n = min bound n := by
  unfold holdAt
  split <;> omega

/-- A posting in the profile (06 R115). -/
theorem addPosting_eq (dir : CashDir) (amount : Nat) (f : Profile) : f.addPosting dir amount = { f with
    postings := min 65535 (f.postings + 1)
    cashIn := if dir = .inward then f.cashIn + amount else f.cashIn
    cashOut := if dir = .outward then f.cashOut + amount else f.cashOut
    largest := max f.largest amount } := by
  rw [Profile.addPosting, holdAt_eq_min]
  rfl

/-! ### POST within the limit (04 R70, R71) -/

theorem PostKind.signed_dir (k : PostKind) (amount : Nat) : k.dir.signed amount =
    match k with | .deposit => (amount : Int) | .withdrawal => -(amount : Int) | _ => 0 := by
  cases k <;> rfl

theorem PostKind.effect_eq (k : PostKind) : k.effect = if k = .deposit ∨ k = .credit then .credit else .debit := by
  cases k <;> rfl

/-- A posting that passes its movement's checks and lies within the limit is made (04 R69). -/
theorem decided_within {p : Posting} {n : Fin 8} {s : State} (within : p.amount ≤ s.day.postingLimit) :
    p.decided n s = okReply (s.makePosting n p) (be 2 s.jnl.next) := if_pos within

end Sys2Proof.Machine

open Sys2Proof Sys2Proof.Machine

/-- Settles O25: the checks hold, and the posting made is a movement with its record. -/
theorem postWithinTheLimitIsMade : Obligations.PostWithinTheLimitIsMade := by
  intro n tag body x s accepts serving width few read least most account book c cash d faces ins outs signed counts after
    soundLines effect sound form small fits customers room within
  have day := State.day_accept s (.tl n)
  have jnl := State.jnl_accept s (.tl n)
  obtain ⟨state, teller, -⟩ := heard_items s n n
  have length : Kind.post.admits (.tl n) body.length = true :=
    (listLength_iff 12 4 0 12 _ (by decide)).2 ⟨_, Nat.zero_le _, few, width⟩
  have moves : x.kind.dir ≠ .none ↔ cash := x.kind.dir_ne_none_iff
  have inward := x.kind.dir_eq_inward_iff
  have outward := x.kind.dir_eq_outward_iff
  have signed_eq : x.kind.dir.signed x.amount = signed := x.kind.signed_dir x.amount
  have after_eq : d.moved faces x.kind.dir x.amount x.lines = after := by
    rw [moved_eq, signed_eq]
  have still : x.kind.dir = .none → x.lines = [] := fun none => form fun c => moves.2 c none
  have nets : x.lines ≠ [] → s.cash.LinesMove (x.kind.dir == .inward) x.amount x.lines := fun some => by
    have c : cash := not_not.1 (mt form some)
    obtain ⟨lines, distinct, net⟩ := sound c some
    exact ⟨lines, distinct, (net_iff_signed faces (moves.2 c)).2 (net.trans signed_eq.symm)⟩
  have passes : x.kind.dir ≠ .none → s.cash.effectFails (s.drawer n) (x.kind.dir == .inward) x.amount x.lines = none := fun m => by
    obtain ⟨covered, counted, loose, least, most, lowest, highest, cashIn, cashOut⟩ := fits (moves.1 m)
    rw [← after_eq] at counted least most
    rw [← signed_eq] at lowest highest
    refine passes_of_takes m ⟨covered, counted, ⟨least, most⟩, ⟨lowest, highest⟩, ?_⟩ fun out => loose (outward.1 out)
    split
    · next into => exact cashIn (inward.1 into)
    · next out => exact cashOut ((moves.1 m).resolve_left (mt inward.2 out))
  obtain ⟨-, -, -, -, taken⟩ := judgeMovement_spec s n x.kind.dir x.amount x.lines (x.decided n (s.accept (.tl n))) still
  have judged : post body n (s.accept (.tl n)) = okReply ((s.accept (.tl n)).movement n x.kind.dir x.amount x.lines s.jnl
      (x.record n (s.pos n).tellerNum)) (be 2 s.jnl.next) := by
    rw [post_read (state ▸ serving) read, checkFields_passes _ ⟨least, most, account⟩ book still, Posting.judge_eq,
      judgeMovement_accept, taken nets (fun m => small (moves.1 m)) passes ⟨customers, room⟩, decided_within (day ▸ within),
      makePosting_eq, jnl, Position.tellerNum, teller]
    rfl
  obtain ⟨answered, left⟩ := movement_taken (k := .post) (tag := tag) accepts rfl length rfl judged
  obtain ⟨text, amount, current⟩ := left.window
  refine ⟨_, rfl, answered, fun c => ?_, fun c => ?_, left.jnl.trans ?_, left.bal.trans ?_, text, amount, current, fun c => ?_,
    fun c => left.lock (moves.2 c)⟩
  · refine (left.cash (moves.2 c)).trans ?_
    rw [State.cashMoved, after_eq]
    simp only [inward, outward]
  · obtain ⟨same, -⟩ := left.still (not_not.1 (mt moves.1 c))
    exact same
  · rw [Posting.record, PostKind.effect_eq]
    cases x.kind <;> rfl
  · simp only [addPosting_eq, inward, outward]
  · obtain ⟨-, core⟩ := left.still (not_not.1 (mt moves.1 c))
    exact core
end

section
/-! PROOF. A POST above the limit (04 R69, 05 R84, R85, R97): the entry's id and what the holding makes. -/

namespace Sys2Proof.Machine

/-! ### A new entry's id (05 R85) -/

/-- The id tried first is the one after the cursor; each id in use is passed over for the next. -/
theorem nextId_succ (inUse : List Nat) (fuel c : Nat) (hc : c ≤ 255) :
    nextId inUse (fuel + 1) c = if idAfter c 0 ∈ inUse then nextId inUse fuel (idAfter c 0) else idAfter c 0 := by
  have first : (if c < 255 then c + 1 else 1) = idAfter c 0 := by
    unfold idAfter
    split <;> omega
  simp only [nextId, first, List.contains_iff_mem]

theorem idAfter_idAfter (c k : Nat) : idAfter (idAfter c 0) k = idAfter c (k + 1) := by
  simp only [idAfter]
  omega

/-- The first of the ids after the cursor that is not in use is taken. -/
theorem nextId_of_first {inUse : List Nat} {fuel c j : Nat} (hc : c ≤ 255) (hj : j < fuel) (used : ∀ i < j, idAfter c i ∈ inUse)
    (free : idAfter c j ∉ inUse) : nextId inUse fuel c = idAfter c j := by
  induction j generalizing fuel c with
  | zero =>
    obtain ⟨fuel, rfl⟩ := Nat.exists_eq_succ_of_ne_zero (Nat.ne_of_gt hj)
    rw [nextId_succ _ _ _ hc, if_neg free]
  | succ j ih =>
    obtain ⟨fuel, rfl⟩ := Nat.exists_eq_succ_of_ne_zero (Nat.ne_of_gt (Nat.zero_lt_of_lt hj))
    rw [nextId_succ _ _ _ hc, if_pos (used 0 (Nat.succ_pos j)), ← idAfter_idAfter]
    refine ih (by unfold idAfter; omega) (by omega) (fun i hi => ?_) (by rwa [idAfter_idAfter])
    rw [idAfter_idAfter]
    exact used (i + 1) (Nat.succ_lt_succ hi)

/-- Fewer ids in use than there are leave one of the first that are tried free. -/
theorem exists_free {inUse : List Nat} (few : inUse.length < 255) (c : Nat) : ∃ j ≤ inUse.length, idAfter c j ∉ inUse := by
  by_contra all
  push Not at all
  have distinct : ((List.range (inUse.length + 1)).map (idAfter c)).Nodup := by
    refine List.Nodup.map_on (fun k hk l hl e => ?_) List.nodup_range
    simp only [List.mem_range] at hk hl
    exact idAfter_inj (by omega) (by omega) e
  have used : (List.range (inUse.length + 1)).map (idAfter c) ⊆ inUse := by
    intro x hx
    obtain ⟨k, hk, rfl⟩ := List.mem_map.1 hx
    exact all k (Nat.lt_succ_iff.1 (List.mem_range.1 hk))
  have most := (distinct.subperm used).length_le
  simp at most

theorem exists_first_free {inUse : List Nat} (few : inUse.length < 255) (c : Nat) :
    ∃ j ≤ inUse.length, idAfter c j ∉ inUse ∧ ∀ i < j, idAfter c i ∈ inUse := by
  obtain ⟨j, hj, free⟩ := exists_free few c
  have some : ∃ j, idAfter c j ∉ inUse := ⟨j, free⟩
  exact ⟨Nat.find some, (Nat.find_min' some free).trans hj, Nat.find_spec some, fun i hi => not_not.1 (Nat.find_min some hi)⟩

/-- How many ids the part tries before an id (05 R85). -/
theorem tried_idAfter {c j : Nat} (hc : c ≤ 255) (hj : j < 255) : (idAfter c j + 254 - c) % 255 = j := by
  unfold idAfter
  omega

theorem idAfter_tried {c k : Nat} (hc : c ≤ 255) (least : 1 ≤ k) (most : k ≤ 255) : idAfter c ((k + 254 - c) % 255) = k := by
  unfold idAfter
  omega

/-- The id of a new entry of a table with room: of those not in use, the next after the cursor. -/
theorem freshId_next {d : Dct} (few : d.entries.length < 255) (hc : d.cursor ≤ 255) :
    1 ≤ d.freshId ∧ d.freshId ≤ 255 ∧ (∀ e ∈ d.entries, e.id ≠ d.freshId) ∧
      ∀ k, 1 ≤ k → k ≤ 255 → (∀ e ∈ d.entries, e.id ≠ k) →
        (d.freshId + 254 - d.cursor) % 255 ≤ (k + 254 - d.cursor) % 255 := by
  have unused (k : Nat) : k ∉ d.entries.map Entry.id ↔ ∀ e ∈ d.entries, e.id ≠ k := by simp
  obtain ⟨j, hj, free, used⟩ := exists_first_free (inUse := d.entries.map Entry.id) (by rwa [List.length_map]) d.cursor
  rw [List.length_map] at hj
  have first : d.freshId = idAfter d.cursor j := nextId_of_first hc (Nat.lt_succ_iff.2 hj) used free
  rw [first]
  refine ⟨Nat.succ_le_succ (Nat.zero_le _), Nat.succ_le_of_lt (Nat.mod_lt _ (by decide)), (unused _).1 free,
    fun k least most other => ?_⟩
  rw [tried_idAfter hc (by omega)]
  by_contra less
  have taken := used _ (not_le.1 less)
  rw [idAfter_tried hc least most] at taken
  exact (unused k).2 other taken

/-! ### The holding (04 R69, 05 R97) -/

section
variable (s : State) (n : Fin 8) (p : Posting)

theorem makes_holdPosting : s.Makes (s.holdPosting n p)
    { parts := [.dct], positions := [n], notices := [(.overrideAsked, .sl), (.positionChanged, .sl)] } := by
  have entered : s.Makes
      (State.setOutcome
        { s with dct := s.dct.create (.tl n) .sl p.amount (s.settings.overrideExpiry * 100) (.override n p) } n
        (.pending s.dct.freshId))
      { parts := [.dct] } := makes_setDct s _
  exact ((entered.trans (makes_notify _ rfl)).trans (makes_movePos _ n .held)).widen (by simp [Change.andThen])
    (by simp [Change.andThen]) (by simp [Change.andThen]) fun _ => Iff.rfl

theorem dct_holdPosting : (s.holdPosting n p).dct =
    { entries := s.dct.entries ++
        [⟨s.dct.freshId, .tl n, .sl, p.amount, s.settings.overrideExpiry * 100, .override n p⟩]
      cursor := s.dct.freshId, outcomes := s.dct.outcomes.set n (.pending s.dct.freshId) } := by
  rw [State.holdPosting, State.dct_movePos, State.dct_notify]
  rfl

theorem pos_holdPosting : (s.holdPosting n p).pos n = { s.pos n with state := .held } := by
  rw [State.holdPosting, pos_movePos_self, pos_notify]
  rfl

end

/-- Checks 5 and 6 that pass let through whatever is behind them. -/
theorem recheck_of_ok {α β : Type} {p : Posting} {n : Fin 8} {s : State} {a : α} (ok : p.recheck n s (.ok a) = .ok a)
    (k : Except Code β) : p.recheck n s k = k := by
  obtain ⟨-, room⟩ := judgeEffect_ok ok
  rw [Posting.recheck, judgeEffect_of_passes (passes_of_judgeEffect ok), check_pos (check_eq_ok.1 room).1]

theorem recheck_accept {α : Type} (p : Posting) (n : Fin 8) (s : State) (l : Link) (k : Except Code α) :
    p.recheck n (s.accept l) k = p.recheck n s k := by
  simp only [Posting.recheck, State.drawer, State.cash_accept, State.jnl_accept]

end Sys2Proof.Machine

open Sys2Proof Sys2Proof.Machine

/-- Settles O27: past its checks the posting is held under the next id, and its entry carries the whole of it. -/
theorem postAboveTheLimitIsHeld : Obligations.PostAboveTheLimitIsHeld := by
  intro n tag body x s accepts serving fits read least most account book form breakdown itemized rechecked above room cursor ids
  have dct := State.dct_accept s (.tl n)
  obtain ⟨state, -⟩ := heard_items s n n
  have length : Kind.post.admits (.tl n) body.length = true := (Kind.admits_iff _ _ _).2 fits
  have still : x.kind.dir = .none → x.lines = [] := by
    intro none
    exact form (by revert none; cases x.kind <;> decide)
  have judged : post body n (s.accept (.tl n)) =
      .ok ⟨(s.accept (.tl n)).holdPosting n x, .held, be 1 s.dct.freshId⟩ := by
    rw [post_read (state ▸ serving) read, checkFields_passes _ ⟨least, most, account⟩ book still, Posting.judge,
      check_pos (by rwa [State.cash_accept]), check_pos (by rwa [State.day_accept]), recheck_accept, recheck_of_ok rechecked,
      if_neg (by rw [State.day_accept]; omega), check_pos (by rwa [dct]), dct]
  obtain ⟨answered, carries⟩ := (makes_holdPosting (s.accept (.tl n)) n x).taken (k := .post) (tag := tag) accepts rfl
    length judged
  obtain ⟨first, last, fresh, next⟩ := freshId_next (d := s.dct) (by omega) cursor
  have table := (show _ = _ from carries.part .dct).trans (dct_holdPosting (s.accept (.tl n)) n x)
  rw [dct, State.settings_accept] at table
  refine ⟨_, s.dct.freshId, rfl, answered, first, last, fresh, next, congrArg Dct.entries table, congrArg Dct.cursor table,
    congrArg Dct.outcomes table, (carries.core n).trans ?_⟩
  rw [pos_holdPosting, pos_accept_self]
  rfl
end

section
/-! PROOF. VOID (04 R74 to R76): the lines of its body, the record that it may cancel, its checks, and the reversal. -/

namespace Sys2Proof.Machine

/-! ### Breakdown lines read (11 R198) -/

/-- Line `i` of a body cut into lines. -/
theorem mem_linesOf {k m i : Nat} (h : i < m) (b : Bytes) : (b.drop (k * i)).take k ∈ linesOf k m b := by
  induction m generalizing i b with
  | zero => exact absurd h (Nat.not_lt_zero _)
  | succ m ih =>
    rw [linesOf, List.mem_cons]
    cases i with
    | zero => exact Or.inl rfl
    | succ i =>
      have later := ih (Nat.lt_of_succ_lt_succ h) (b.drop k)
      rw [List.drop_drop, Nat.add_comm k, ← Nat.mul_succ] at later
      exact Or.inr later

theorem allSome_of_none_mem {α : Type} {l : List (Option α)} (h : none ∈ l) : allSome l = none := by
  induction l with
  | nil => cases h
  | cons o l ih =>
    cases o with
    | none => rfl
    | some a =>
      have rest := ih (by simpa using h)
      simp only [allSome, rest]

theorem readLine_eq_none {b : Bytes} (notIn : field b 3 1 ≠ 1) (notOut : field b 3 1 ≠ 2) : readLine b = none := by
  unfold readLine
  split
  · next into => exact absurd into notIn
  · next out => exact absurd out notOut
  · rfl

/-- The byte in fourth place of a line. -/
theorem field_line {b : Bytes} {i : Nat} (h : 4 * i + 3 < b.length) :
    field ((b.drop (4 * i)).take 4) 3 1 = (b.getD (4 * i + 3) 0).toNat := by
  have byte : (((b.drop (4 * i)).take 4).drop 3).take 1 = [b[4 * i + 3]] := by
    rw [List.drop_take, List.drop_drop, List.drop_eq_getElem_cons h]
    rfl
  rw [field, byte, List.getD_eq_getElem _ _ h]
  simp [ofBytes]

/-- A line whose direction byte names no direction spoils the list. -/
theorem readLines_eq_none {b : Bytes} {i : Nat} (h : i < b.length / 4) (notIn : b.getD (4 * i + 3) 0 ≠ 1)
    (notOut : b.getD (4 * i + 3) 0 ≠ 2) : readLines b = none := by
  have field := field_line (b := b) (i := i) (by omega)
  have spoiled : readLine ((b.drop (4 * i)).take 4) = none := by
    refine readLine_eq_none ?_ ?_ <;> rw [field]
    · exact fun e => notIn (BitVec.eq_of_toNat_eq e)
    · exact fun e => notOut (BitVec.eq_of_toNat_eq e)
  exact allSome_of_none_mem (spoiled ▸ List.mem_map_of_mem (mem_linesOf h b))

/-! ### The record that a VOID may cancel (04 R74) -/

theorem RecordKind.posting?_eq_some_iff {kind : RecordKind} {k : PostKind} : kind.posting? = some k ↔ kind = k.record := by
  cases kind <;> cases k <;> decide

theorem RecordKind.mem_postings_iff (kind : RecordKind) :
    kind ∈ [.deposit, .withdrawal, .credit, .debit] ↔ ∃ k : PostKind, kind = k.record := by
  constructor
  · intro h
    simp only [List.mem_cons, List.not_mem_nil, or_false] at h
    rcases h with rfl | rfl | rfl | rfl
    exacts [⟨.deposit, rfl⟩, ⟨.withdrawal, rfl⟩, ⟨.credit, rfl⟩, ⟨.debit, rfl⟩]
  · rintro ⟨k, rfl⟩
    cases k <;> decide

theorem Record.isVoided_eq_false_iff (r : Record) : r.isVoided = false ↔ ∀ q, r.link ≠ .voidedBy q := by
  unfold Record.isVoided
  cases r.link <;> simp

theorem Journal.find_of_mem {j : Journal} {r : Record} (mem : r ∈ j.records) (distinct : (j.records.map Record.seq).Nodup) :
    j.find r.seq = some r := by
  unfold Journal.find
  cases found : j.records.find? fun q => q.seq == r.seq with
  | none => exact absurd (beq_self_eq_true _) (List.find?_eq_none.1 found r mem)
  | some q =>
    have same : q.seq = r.seq := by simpa using List.find?_some found
    rw [List.inj_on_of_nodup_map distinct (List.mem_of_find?_eq_some found) mem same]

section
variable {s : State} {n : Fin 8} {seq start : Nat} {r : Record}

theorem voidable_absent (absent : ∀ r ∈ s.jnl.records, r.seq ≠ seq) : s.voidable n seq = none := by
  have none : s.jnl.find seq = none := List.find?_eq_none.2 fun r hr => by simpa using absent r hr
  rw [State.voidable, none]

theorem voidable_accept (s : State) (n : Fin 8) (seq : Nat) : (s.accept (.tl n)).voidable n seq = s.voidable n seq := by
  unfold State.voidable
  rw [State.jnl_accept, pos_accept_self]
  rfl

/-- A VOID cancels the record found, where its place, its number, its link and its kind say so, and no other. -/
theorem voidable_found (found : s.jnl.find seq = some r) (txn : (s.pos n).txnStart = some start) (q : Record) (k : PostKind) :
    s.voidable n seq = some (q, k) ↔
      r = q ∧ r.place = .position n ∧ start ≤ r.seq ∧ (∀ q, r.link ≠ .voidedBy q) ∧ r.kind = k.record := by
  rw [← Record.isVoided_eq_false_iff, ← RecordKind.posting?_eq_some_iff]
  unfold State.voidable
  rw [found, txn]
  dsimp only
  split
  · next may =>
    simp only [may, true_and]
    cases r.kind.posting? <;> simp
  · next not =>
    simp only [reduceCtorEq, false_iff]
    exact fun ⟨_, place, reached, link, _⟩ => not ⟨place, reached, link⟩

theorem voidable_eq_none (found : s.jnl.find seq = some r) (txn : (s.pos n).txnStart = some start)
    (may : ¬(r.place = .position n ∧ start ≤ r.seq ∧ (∀ q, r.link ≠ .voidedBy q) ∧
      r.kind ∈ [.deposit, .withdrawal, .credit, .debit])) : s.voidable n seq = none := by
  refine Option.eq_none_iff_forall_ne_some.2 fun (q, k) some => may ?_
  obtain ⟨-, place, reached, link, kind⟩ := (voidable_found found txn q k).1 some
  exact ⟨place, reached, link, r.kind.mem_postings_iff.2 ⟨k, kind⟩⟩

/-! ### VOID's checks (04 R74) -/

variable {body : Bytes} {k : PostKind} {lines : List Line}

theorem void_none (serving : (s.pos n).state = .serving) (none : s.voidable n (field body 0 2) = none) :
    voidRecord body n s = .error .noSuch := by
  rw [voidRecord, check_pos serving, none]

theorem void_claimed (serving : (s.pos n).state = .serving) (named : s.voidable n (field body 0 2) = some (r, k))
    (claimed : r.claimed ≠ none) : voidRecord body n s = .error .inPrint := by
  rw [voidRecord, check_pos serving, named]
  exact check_neg claimed

theorem void_unread (serving : (s.pos n).state = .serving) (named : s.voidable n (field body 0 2) = some (r, k))
    (free : r.claimed = none) (unread : readLines (body.drop 2) = none) : voidRecord body n s = .error .badForm := by
  rw [voidRecord, check_pos serving, named]
  dsimp only
  rw [check_pos free, unread]

theorem void_read (serving : (s.pos n).state = .serving) (named : s.voidable n (field body 0 2) = some (r, k))
    (free : r.claimed = none) (read : readLines (body.drop 2) = some lines) : voidRecord body n s =
      check (¬(k.reversalDir = .none ∧ lines ≠ [])) .badForm
        (s.judgeMovement n k.reversalDir r.amount lines (okReply (s.makeVoid n r k lines) (be 2 s.jnl.next))) := by
  rw [voidRecord, check_pos serving, named]
  dsimp only
  rw [check_pos free, read]
  rfl

end

theorem PostKind.reversalDir_eq (k : PostKind) :
    k.reversalDir = match k.record with | .deposit => .outward | .withdrawal => .inward | _ => .none := by cases k <;> rfl

theorem PostKind.reversalDir_ne_none_iff (k : PostKind) :
    k.reversalDir ≠ .none ↔ k.record = .deposit ∨ k.record = .withdrawal := by cases k <;> decide

theorem PostKind.reversalDir_beq_inward (k : PostKind) : (k.reversalDir == .inward) = (k.record == .withdrawal) := by
  cases k <;> decide

theorem PostKind.reversalEffect_eq (k : PostKind) :
    k.reversalEffect = if k.record = .deposit ∨ k.record = .credit then .debit else .credit := by cases k <;> rfl

end Sys2Proof.Machine

open Sys2Proof Sys2Proof.Machine

/-- Settles O28: VOID's own checks, behind them those of the movement, and the reversal as a movement with its record. -/
theorem voidReversesThePosting : Obligations.VoidReversesThePosting := by
  intro n tag seq body s accepts bound fits c refuses
  have length : Kind.void.admits (.tl n) (be 2 seq ++ body).length = true :=
    (Kind.admits_iff _ _ _).2 (by rwa [List.length_append, be_length])
  have refused {code : Code} (h : voidRecord (be 2 seq ++ body) n (s.accept (.tl n)) = .error code) : refuses code :=
    refuses_of_row (k := .void) rfl accepts rfl length h
  obtain ⟨state, teller, -⟩ := heard_items s n n
  have number : field (be 2 seq ++ body) 0 2 = seq := by exact (field_be 2 seq body).trans (Nat.mod_eq_of_lt bound)
  have behind : (be 2 seq ++ body).drop 2 = body := List.drop_left' (be_length 2 seq)
  have voidable : (s.accept (.tl n)).voidable n (field (be 2 seq ++ body) 0 2) = s.voidable n seq := by
    rw [number, voidable_accept]
  refine ⟨fun busy => refused (check_neg (state ▸ busy)),
    fun serving absent => refused (void_none (state ▸ serving) (voidable.trans (voidable_absent absent))), ?_⟩
  intro r start serving txn mem at_ distinct may
  subst at_
  have found := Journal.find_of_mem mem distinct
  have cancels (ok : may) : ∃ k : PostKind, r.kind = k.record ∧
      (s.accept (.tl n)).voidable n (field (be 2 r.seq ++ body) 0 2) = some (r, k) := by
    obtain ⟨place, reached, link, kind⟩ := ok
    obtain ⟨k, kind⟩ := r.kind.mem_postings_iff.1 kind
    exact ⟨k, kind, voidable.trans ((voidable_found found txn r k).2 ⟨rfl, place, reached, link, kind⟩)⟩
  refine ⟨fun not => refused (void_none (state ▸ serving) (voidable.trans (voidable_eq_none found txn not))),
    fun ok claimed => ?_, fun ok free => ?_, ?_⟩
  · obtain ⟨k, -, named⟩ := cancels ok
    exact refused (void_claimed (state ▸ serving) named claimed)
  · rintro ⟨i, hi, notIn, notOut⟩
    obtain ⟨k, -, named⟩ := cancels ok
    exact refused (void_unread (state ▸ serving) named free (behind ▸ readLines_eq_none hi notIn notOut))
  intro lines read ok free cash into dir after linked admitted nets itemized effect sound room
  obtain ⟨k, kind, named⟩ := cancels ok
  have jnl := State.jnl_accept s (.tl n)
  have moves : k.reversalDir ≠ .none ↔ cash := by
    simp only [cash, kind]
    exact k.reversalDir_ne_none_iff
  have direction : k.reversalDir = dir := by
    simp only [dir, kind]
    exact k.reversalDir_eq
  have inward : (k.reversalDir == .inward) = into := by
    simp only [into, kind]
    exact k.reversalDir_beq_inward
  have form : (k.reversalDir = .none → lines = []) ↔ admitted := by
    rw [← not_imp_not]
    exact imp_congr_right fun _ => moves
  have judged := void_read (state ▸ serving) named free (behind.symm ▸ read)
  rw [judgeMovement_accept] at judged
  have passed (fine : admitted) := judged.trans (check_pos (not_and.2 fun none => not_not_intro (form.2 fine none)))
  have spec (fine : admitted) := judgeMovement_spec s n k.reversalDir r.amount lines
    (okReply ((s.accept (.tl n)).makeVoid n r k lines) (be 2 (s.accept (.tl n)).jnl.next)) (form.2 fine)
  simp only [moves, inward] at spec
  refine ⟨fun bad => refused (judged.trans (check_neg fun fine => bad (form.1 fun none => not_not.1 (not_and.1 fine none)))),
    fun fine no => ?_, fun fine yes no => ?_, fun fine yes small c code fails => ?_, fun all full => ?_, fun all fit => ?_⟩
  · obtain ⟨unbalanced, -⟩ := spec fine
    exact refused ((passed fine).trans (unbalanced no))
  · obtain ⟨-, uncounted, -⟩ := spec fine
    exact refused ((passed fine).trans (uncounted yes no))
  · obtain ⟨-, -, ineffective, -⟩ := spec fine
    exact refused ((passed fine).trans (ineffective yes small c code fails))
  · obtain ⟨fine, yes, small, passes⟩ := all
    obtain ⟨-, -, -, unrecorded, -⟩ := spec fine
    exact refused ((passed fine).trans (unrecorded yes small passes full))
  · obtain ⟨fine, yes, small, passes⟩ := all
    obtain ⟨-, -, -, -, taken⟩ := spec fine
    have made := (passed fine).trans (taken yes small passes fit)
    rw [makeVoid_eq, jnl, direction, Position.tellerNum, teller] at made
    obtain ⟨answered, left⟩ := movement_taken (k := .void) (tag := tag) (j := s.jnl.void r.seq s.jnl.next) accepts rfl length rfl
      made
    obtain ⟨text, amount, current⟩ := left.window
    refine ⟨_, rfl, answered, left.still, fun m => ⟨left.cash m, left.lock m⟩, left.jnl.trans ?_, left.bal.trans ?_, text, amount,
      current⟩
    · rw [reversalOf, PostKind.reversalEffect_eq, ← kind]
      rfl
    · rw [addPosting_eq]
end

section
/-! PROOF. READ-CASH (04 R80, R81, 11 R199): the figures of a reply, each read at its place. -/

namespace Sys2Proof.Machine

/-! ### Parts of one length, and signed numbers, read back (11 R199) -/

/-- A field of a part stands in the run of parts of one length, as many lengths on as there are parts before it. -/
theorem field_flatten {parts : List Bytes} {p : Bytes} {k i off width : Nat} (size : ∀ q ∈ parts, q.length = k)
    (h : parts[i]? = some p) (inside : off + width ≤ k) (rest : Bytes) :
    field (parts.flatten ++ rest) (k * i + off) width = field p off width := by
  induction parts generalizing i with
  | nil => cases h
  | cons a parts ih =>
    have first := size a List.mem_cons_self
    rw [List.flatten_cons, List.append_assoc]
    cases i with
    | zero =>
      obtain rfl : a = p := by simpa using h
      rw [Nat.mul_zero, Nat.zero_add, field, field, List.drop_append_of_le_length (by omega),
        List.take_append_of_le_length (by rw [List.length_drop]; omega)]
    | succ i =>
      rw [Nat.mul_succ, Nat.add_comm (k * i), Nat.add_assoc, field_append_add first]
      exact ih (fun q hq => size q (List.mem_cons_of_mem _ hq)) (by simpa using h)

/-- A signed number read from the field that carries it (11 R199). -/
theorem fieldInt_of_field {b : Bytes} {off k : Nat} {z : Int} (read : field b off k = (z % (256 ^ k : Nat)).toNat)
    (low : -(256 ^ k : Nat) ≤ 2 * z) (high : 2 * z < (256 ^ k : Nat)) : fieldInt b off k = z := by
  have pos : 0 < 256 ^ k := Nat.pow_pos (by decide)
  simp only [fieldInt, read]
  generalize 256 ^ k = m at *
  rcases lt_or_ge z 0 with neg | nonneg
  · have wrapped : z % (m : Int) = z + m := by
      rw [← Int.add_emod_right]
      exact Int.emod_eq_of_lt (by omega) (by omega)
    rw [wrapped, if_neg (by omega)]
    omega
  · rw [Int.emod_eq_of_lt nonneg (by omega), if_pos (by omega)]
    omega

/-! ### The slots (04 R80) -/

section
variable (faces : Vec 12 (Option Nat)) (counts : Vec 12 Nat) (w : Nat) (rest : Bytes)

theorem length_slotBytes : (slotBytes faces counts w).length = 12 * (3 + w) := by
  rw [slotBytes, List.length_flatten, List.map_map]
  have each : List.length ∘ (fun i : Fin 12 => be 3 ((faces.get i).getD 0) ++ be w (counts.get i)) = fun _ => 3 + w := by
    funext i
    simp
  rw [each, List.map_const', List.sum_replicate, List.length_finRange, smul_eq_mul]

theorem field_slotBytes (i : Fin 12) :
    field (slotBytes faces counts w ++ rest) ((3 + w) * i.val) 3 = (faces.get i).getD 0 % 256 ^ 3 ∧
      field (slotBytes faces counts w ++ rest) ((3 + w) * i.val + 3) w = counts.get i % 256 ^ w := by
  have size : ∀ q ∈ (List.finRange 12).map (fun i => be 3 ((faces.get i).getD 0) ++ be w (counts.get i)), q.length = 3 + w := by
    simp
  have slot : ((List.finRange 12).map (fun i => be 3 ((faces.get i).getD 0) ++ be w (counts.get i)))[i.val]? =
      some (be 3 ((faces.get i).getD 0) ++ be w (counts.get i)) := by simp
  constructor
  · exact (field_flatten size slot (off := 0) (by omega) rest).trans (field_be ..)
  · refine (field_flatten size slot (off := 3) (by omega) rest).trans ?_
    have count := field_be_add 3 ((faces.get i).getD 0) 0 w (be w (counts.get i) ++ [])
    rwa [field_be, List.append_nil] at count

theorem field_behind_slots (off width : Nat) :
    field (slotBytes faces counts w ++ rest) (12 * (3 + w) + off) width = field rest off width :=
  field_append_add (length_slotBytes faces counts w) off width rest

end

/-- Slots whose faces and counts fit their bytes are read as they are. -/
theorem slots_read {faces : Vec 12 (Option Nat)} {counts : Vec 12 Nat} {w : Nat}
    (inRange : ∀ i v, faces.get i = some v → 1 ≤ v ∧ v ≤ Config.maxFace) (fits : ∀ i, counts.get i < 256 ^ w) (rest : Bytes)
    (i : Fin 12) : field (slotBytes faces counts w ++ rest) ((3 + w) * i.val) 3 = (faces.get i).getD 0 ∧
      field (slotBytes faces counts w ++ rest) ((3 + w) * i.val + 3) w = counts.get i := by
  have face : (faces.get i).getD 0 < 256 ^ 3 := by
    cases slot : faces.get i with
    | none => exact Nat.pow_pos (by decide)
    | some v => exact Nat.lt_of_le_of_lt (inRange i v slot).2 (by decide)
  obtain ⟨read, counted⟩ := field_slotBytes faces counts w rest i
  exact ⟨read.trans (Nat.mod_eq_of_lt face), counted.trans (Nat.mod_eq_of_lt (fits i))⟩

/-! ### A cash record's figures (04 R80) -/

/-- The bytes of a cash record's figures, its counts in `w` bytes, and of what follows them. -/
def CashRecord.figures (faces : Vec 12 (Option Nat)) (w : Nat) (r : CashRecord) (rest : Bytes) : Bytes :=
  slotBytes faces r.counts w ++ (beInt 5 r.unitemized ++ (be 5 r.total.toNat ++ rest))

section
variable {faces : Vec 12 (Option Nat)} {bound w : Nat} {r : CashRecord} (rest : Bytes)

theorem length_figures : (r.figures faces w rest).length = 12 * (3 + w) + 10 + rest.length := by
  simp only [CashRecord.figures, beInt, List.length_append, length_slotBytes, be_length]
  omega

theorem field_behind_figures (off width : Nat) :
    field (r.figures faces w rest) (12 * (3 + w) + (5 + (5 + off))) width = field rest off width := by
  rw [CashRecord.figures, field_behind_slots, beInt, field_be_add, field_be_add]

/-- The unitemized balance and the total are read behind the slots. -/
theorem balance_read (law : r.Law faces bound) : fieldInt (r.figures faces w rest) (12 * (3 + w)) 5 = r.unitemized ∧
    (field (r.figures faces w rest) (12 * (3 + w) + 5) 5 : Int) = r.total := by
  obtain ⟨-, -, -, ⟨least, most⟩, low, high⟩ := law
  simp only [Config.maxUnitemized] at least most
  simp only [Config.maxTotal] at high
  constructor
  · refine fieldInt_of_field ?_ (by omega) (by omega)
    refine (field_behind_slots _ _ _ _ 0 5).trans ((field_be _ _ _).trans (Nat.mod_eq_of_lt ?_))
    omega
  · rw [CashRecord.figures, field_behind_slots, beInt, field_be_skip _ _ _ (Nat.le_refl 5), field_be]
    omega

end

/-! ### The three layouts (04 R80, R81) -/

/-- What follows the figures of a drawer: DRAWER-HIGH, the drawer maximum and the minor digits. -/
def State.drawerTail (s : State) (n : Fin 8) : Bytes :=
  be 1 (boolNum (s.cash.high.get n)) ++ (be 5 s.day.drawerMax ++ be 1 s.day.minorDigits)

theorem drawerBytes_eq (s : State) (n : Fin 8) :
    drawerBytes s n = (s.drawer n).figures s.cash.faces 2 (s.drawerTail n) := by
  simp only [drawerBytes, CashRecord.figures, State.drawerTail, List.append_assoc]

theorem vaultBytes_eq (s : State) : vaultBytes s = s.cash.vault.figures s.cash.faces 3 (be 1 s.day.minorDigits) := by
  simp only [vaultBytes, CashRecord.figures, List.append_assoc]

/-- Nine totals in their range sum to a number of five bytes. -/
theorem grandTotal_range {s : State} (records : s.RecordsLaw) : 0 ≤ s.cash.grandTotal ∧ s.cash.grandTotal < 256 ^ 5 := by
  obtain ⟨drawers, -, -, -, -, low, high⟩ := records
  have each (n : Fin 8) : 0 ≤ (s.cash.drawers.get n).total ∧ (s.cash.drawers.get n).total ≤ Config.maxTotal := by
    obtain ⟨-, -, -, -, total⟩ := drawers n
    exact total
  have least : 0 ≤ ∑ n, (s.cash.drawers.get n).total := Finset.sum_nonneg fun n _ => (each n).1
  have most : ∑ n, (s.cash.drawers.get n).total ≤ ∑ _n : Fin 8, Config.maxTotal := Finset.sum_le_sum fun n _ => (each n).2
  rw [Finset.sum_const, Finset.card_univ, Fintype.card_fin, nsmul_eq_mul] at most
  rw [Cash.grandTotal_eq]
  simp only [Config.maxTotal] at *
  omega

section
variable {s : State} (parameters : s.day.ParametersInRange)
include parameters

theorem minorDigits_read : field (be 1 s.day.minorDigits) 0 1 = s.day.minorDigits :=
  field_be_alone 1 _ (by obtain ⟨minor, -⟩ := parameters; omega)

theorem drawerTail_read (n : Fin 8) : (field (s.drawerTail n) 0 1 = 1 ↔ s.cash.high.get n = true) ∧
    field (s.drawerTail n) 1 5 = s.day.drawerMax ∧ field (s.drawerTail n) 6 1 = s.day.minorDigits := by
  have digits := minorDigits_read parameters
  obtain ⟨-, -, -, ⟨-, most⟩, -⟩ := parameters
  simp only [Config.maxTotal] at most
  refine ⟨?_, ?_, ?_⟩
  · rw [State.drawerTail, field_be]
    cases s.cash.high.get n <;> decide
  · rw [State.drawerTail, field_be_skip _ _ _ (Nat.le_refl 1), field_be]
    omega
  · rw [State.drawerTail, field_be_skip _ _ _ (by decide), field_be_skip _ _ _ (by decide)]
    exact digits

/-- A drawer's figures. -/
theorem drawerBytes_read {n : Fin 8} (faces : s.FacesLaw) (law : (s.drawer n).Law s.cash.faces Config.maxDrawerCount) :
    let r := drawerBytes s n
    r.length = 77 ∧
      (∀ i : Fin 12, field r (5 * i.val) 3 = (s.cash.faces.get i).getD 0 ∧
        field r (5 * i.val + 3) 2 = (s.drawer n).counts.get i) ∧
      fieldInt r 60 5 = (s.drawer n).unitemized ∧ (field r 65 5 : Int) = (s.drawer n).total ∧
      (field r 70 1 = 1 ↔ s.cash.high.get n = true) ∧ field r 71 5 = s.day.drawerMax ∧ field r 76 1 = s.day.minorDigits := by
  rw [drawerBytes_eq]
  obtain ⟨unitemized, total⟩ := balance_read (w := 2) (s.drawerTail n) law
  obtain ⟨high, most, digits⟩ := drawerTail_read parameters n
  obtain ⟨-, -, counts, -⟩ := law
  obtain ⟨-, inRange⟩ := faces
  have behind := field_behind_figures (faces := s.cash.faces) (w := 2) (r := s.drawer n) (s.drawerTail n)
  exact ⟨(length_figures _).trans (by simp [State.drawerTail]),
    slots_read inRange (fun i => Nat.lt_of_le_of_lt (counts i) (by decide)) _, unitemized, total,
    (behind 0 1).symm ▸ high, (behind 1 5).trans most, (behind 6 1).trans digits⟩

/-- The vault's figures. -/
theorem vaultBytes_read (faces : s.FacesLaw) (law : s.cash.vault.Law s.cash.faces Config.maxVaultCount) :
    let r := vaultBytes s
    r.length = 83 ∧
      (∀ i : Fin 12, field r (6 * i.val) 3 = (s.cash.faces.get i).getD 0 ∧
        field r (6 * i.val + 3) 3 = s.cash.vault.counts.get i) ∧
      fieldInt r 72 5 = s.cash.vault.unitemized ∧ (field r 77 5 : Int) = s.cash.vault.total ∧
      field r 82 1 = s.day.minorDigits := by
  rw [vaultBytes_eq]
  obtain ⟨unitemized, total⟩ := balance_read (w := 3) (be 1 s.day.minorDigits) law
  obtain ⟨-, -, counts, -⟩ := law
  obtain ⟨-, inRange⟩ := faces
  have behind := field_behind_figures (faces := s.cash.faces) (w := 3) (r := s.cash.vault) (be 1 s.day.minorDigits)
  exact ⟨(length_figures _).trans (by simp), slots_read inRange (fun i => Nat.lt_of_le_of_lt (counts i) (by decide)) _,
    unitemized, total, (behind 0 1).trans (minorDigits_read parameters)⟩

/-- The counters, each in five bytes. -/
theorem counterBytes_read (records : s.RecordsLaw) (counters : s.cash.CountersInRange) :
    let r := counterBytes s
    r.length = 31 ∧ field r 0 5 = s.cash.opening ∧ field r 5 5 = s.cash.cashIn ∧ field r 10 5 = s.cash.cashOut ∧
      field r 15 5 = s.cash.dayOver ∧ field r 20 5 = s.cash.dayShort ∧ (field r 25 5 : Int) = s.cash.grandTotal ∧
      field r 30 1 = s.day.minorDigits := by
  intro r
  obtain ⟨opening, cashIn, cashOut, dayOver, dayShort⟩ := counters
  simp only [Config.maxCounter] at opening cashIn cashOut dayOver dayShort
  obtain ⟨low, high⟩ := grandTotal_range records
  have digits := minorDigits_read parameters
  simp only [r, counterBytes, List.append_assoc]
  refine ⟨by simp, ?_, ?_, ?_, ?_, ?_, ?_, ?_⟩ <;>
    simp only [field_be_skip, field_be, Nat.reduceLeDiff, Nat.reduceSub, digits] <;> omega

end

/-! ### The selector (04 R80) -/

theorem readSelector_drawer (n : Fin 8) : readSelector n.val = some (.drawer n) := dif_pos n.isLt

theorem readSelector_out {v : Nat} (h : 10 ≤ v) : readSelector v = none := by
  rw [readSelector, dif_neg (by omega), if_neg (by omega), if_neg (by omega)]

theorem exec_readCashSupervisor (tag : Byte) (s : State) {v : Nat} (fits : v < 256) :
    exec (.readCashSupervisor tag (be 1 v)) s = .next (request .sl .readCash tag (be 1 v) (readCashSupervisor v) s) := by
  show Host.Outcome.next (request .sl .readCash tag (be 1 v) (readCashSupervisor (field (be 1 v) 0 1)) s) = _
  rw [field_be_alone 1 v fits]

/-- A reading on SL, by what its selector names. -/
theorem readCash_sl {tag : Byte} {s : State} {v : Nat} {r : Bytes} (accepts : s.Accepts .sl) (fits : v < 256)
    (named : readCashSupervisor v (s.accept .sl) = okReply (s.accept .sl) r) :
    ∃ t, exec (.readCashSupervisor tag (be 1 v)) s = .next t ∧ s.Answered t .sl 19 tag false .ok r {} := by
  obtain ⟨answered, -⟩ := (State.Makes.refl (s.accept .sl)).taken (k := .readCash) (tag := tag) (body := be 1 v)
    accepts rfl rfl named
  exact ⟨_, exec_readCashSupervisor tag s fits, answered⟩

end Sys2Proof.Machine

open Sys2Proof Sys2Proof.Machine

/-- Settles O29: each reply is the bytes of its figures, and each figure is read at its place. -/
theorem readCashReturnsTheFigures : Obligations.ReadCashReturnsTheFigures := by
  intro n tag s records faces counters parameters drawer
  have drawers (l : Link) : drawerBytes (s.accept l) n = drawerBytes s n := by
    simp only [drawerBytes, State.drawer, State.cash_accept, State.day_accept]
  have figures : drawer (drawerBytes s n) := drawerBytes_read parameters faces (records.1 n)
  refine ⟨fun accepts => ?_, fun accepts => ⟨?_, ?_, ?_, fun v out fits => ?_⟩⟩
  · have taken : readCashTeller n (s.accept (.tl n)) = okReply (s.accept (.tl n)) (drawerBytes s n) := by
      rw [readCashTeller, drawers]
    obtain ⟨answered, -⟩ := (State.Makes.refl (s.accept (.tl n))).taken (k := .readCash) (tag := tag) (body := [])
      accepts rfl rfl taken
    exact ⟨_, _, rfl, answered, figures⟩
  · obtain ⟨t, row, answered⟩ := readCash_sl (tag := tag) (r := drawerBytes s n) accepts (n.isLt.trans (by decide))
      (by rw [readCashSupervisor, readSelector_drawer]; dsimp only; rw [drawers])
    exact ⟨t, _, row, answered, figures⟩
  · have vault : vaultBytes (s.accept .sl) = vaultBytes s := by simp only [vaultBytes, State.cash_accept, State.day_accept]
    obtain ⟨t, row, answered⟩ := readCash_sl (tag := tag) (v := 8) (r := vaultBytes s) accepts (by decide) (vault ▸ rfl)
    exact ⟨t, _, row, answered, vaultBytes_read parameters faces records.2⟩
  · have counts : counterBytes (s.accept .sl) = counterBytes s := by simp only [counterBytes, State.cash_accept, State.day_accept]
    obtain ⟨t, row, answered⟩ := readCash_sl (tag := tag) (v := 9) (r := counterBytes s) accepts (by decide) (counts ▸ rfl)
    exact ⟨t, _, row, answered, counterBytes_read parameters records counters⟩
  · have refused : readCashSupervisor v (s.accept .sl) = .error .badForm := by rw [readCashSupervisor, readSelector_out out]
    exact refuses_of_row (k := .readCash) (exec_readCashSupervisor tag s fits) accepts rfl rfl refused
end

section
/-! PROOF. PROPOSE (05 R85, R87, R88): its body read, its checks as the claim says them, and the entry it creates. -/

namespace Sys2Proof.Machine

/-! ### What any link's request leaves of a position (03 R48) -/

theorem core_accept (s : State) (l : Link) (m : Fin 8) : ((s.accept l).pos m).core = s.heardPos l m := core_arrive s l m

/-- The items of a position that a request on any link leaves. -/
theorem accept_items (s : State) (l : Link) (m : Fin 8) :
    let p := (s.accept l).pos m
    p.state = (s.pos m).state ∧ p.teller = (s.pos m).teller ∧ p.sensor = (s.pos m).sensor ∧ p.lock = (s.pos m).lock ∧
      p.window = (s.pos m).window := by
  cases l with
  | sl => exact ⟨rfl, rfl, rfl, rfl, rfl⟩
  | tl n =>
    by_cases own : m = n
    · subst own
      rw [pos_accept_self]
      exact ⟨rfl, rfl, rfl, rfl, rfl⟩
    · rw [pos_accept_ne s own]
      exact ⟨rfl, rfl, rfl, rfl, rfl⟩

/-! ### A proposal's body (11 R198) -/

theorem Holder.num_lt (h : Holder) : h.num < 9 := by
  cases h with
  | drawer n => exact Nat.lt_succ_of_lt n.isLt
  | vault => decide

theorem readHolder_num (h : Holder) : readHolder h.num = some h := by
  cases h with
  | drawer n => exact dif_pos n.isLt
  | vault => rfl

/-- The ends, the amount and the lines that a body spells are read back. -/
theorem readPropose_spelled (src dst : Holder) {amount : Nat} {tail : Bytes} {lines : List Line} (fits : amount < 256 ^ 5)
    (read : readLines tail = some lines) :
    readPropose (be 1 src.num ++ be 1 dst.num ++ be 5 amount ++ tail) = some ⟨src, dst, amount, lines⟩ := by
  have number (h : Holder) : h.num % 256 ^ 1 = h.num := Nat.mod_eq_of_lt (by have := h.num_lt; omega)
  have source : field (be 1 src.num ++ be 1 dst.num ++ be 5 amount ++ tail) 0 1 = src.num := by
    rw [List.append_assoc, List.append_assoc, field_be, number]
  have destination : field (be 1 src.num ++ be 1 dst.num ++ be 5 amount ++ tail) 1 1 = dst.num := by
    rw [List.append_assoc, List.append_assoc, field_be_skip _ _ _ (Nat.le_refl 1), field_be, number]
  have sum : field (be 1 src.num ++ be 1 dst.num ++ be 5 amount ++ tail) 2 5 = amount := by
    rw [List.append_assoc, List.append_assoc, field_be_skip _ _ _ (by decide : 1 ≤ 2), field_be_skip _ _ _ (Nat.le_refl 1),
      field_be, Nat.mod_eq_of_lt fits]
  have rest : (be 1 src.num ++ be 1 dst.num ++ be 5 amount ++ tail).drop 7 = tail := List.drop_left' (by simp)
  rw [readPropose, source, destination, sum, rest, readHolder_num, readHolder_num, read]

/-! ### The checks (05 R87, R88) -/

/-- The table of confirming parties. -/
theorem confirmingParty_eq_some_iff (l : Link) (src dst : Holder) (k : Link) : confirmingParty l src dst = some k ↔
    (∃ n m : Fin 8, m ≠ n ∧ l = .tl n ∧ src = .drawer n ∧ dst = .drawer m ∧ k = .tl m) ∨
    (∃ n : Fin 8, l = .tl n ∧ src = .drawer n ∧ dst = .vault ∧ k = .sl) ∨
    (∃ n : Fin 8, l = .tl n ∧ src = .vault ∧ dst = .drawer n ∧ k = .sl) ∨
    (∃ n : Fin 8, l = .sl ∧ src = .drawer n ∧ dst = .vault ∧ k = .tl n) ∨
    (∃ n : Fin 8, l = .sl ∧ src = .vault ∧ dst = .drawer n ∧ k = .tl n) := by
  constructor
  · intro party
    unfold confirmingParty at party
    split at party
    · next n a b =>
      split at party
      · next own =>
        obtain ⟨rfl, other⟩ := own
        exact Or.inl ⟨a, b, other, rfl, rfl, rfl, (Option.some.inj party).symm⟩
      · cases party
    · next n a =>
      split at party
      · next own => exact Or.inr (Or.inl ⟨a, by rw [own], rfl, rfl, (Option.some.inj party).symm⟩)
      · cases party
    · next n b =>
      split at party
      · next own => exact Or.inr (Or.inr (Or.inl ⟨b, by rw [own], rfl, rfl, (Option.some.inj party).symm⟩))
      · cases party
    · next a => exact Or.inr (Or.inr (Or.inr (Or.inl ⟨a, rfl, rfl, rfl, (Option.some.inj party).symm⟩)))
    · next b => exact Or.inr (Or.inr (Or.inr (Or.inr ⟨b, rfl, rfl, rfl, (Option.some.inj party).symm⟩)))
    · cases party
  · rintro (⟨n, m, other, rfl, rfl, rfl, rfl⟩ | ⟨n, rfl, rfl, rfl, rfl⟩ | ⟨n, rfl, rfl, rfl, rfl⟩ | ⟨n, rfl, rfl, rfl, rfl⟩ |
      ⟨n, rfl, rfl, rfl, rfl⟩)
    · exact if_pos ⟨rfl, other⟩
    · exact if_pos rfl
    · exact if_pos rfl
    · rfl
    · rfl

theorem isReady_iff (s : State) (n : Fin 8) : s.isReady n = true ↔ (s.pos n).state = .ready := beq_iff_eq

theorem linkReady_iff (s : State) (k : Link) : s.linkReady k = true ↔ ∀ n, k = .tl n → (s.pos n).state = .ready := by
  cases k with
  | tl n => simp [State.linkReady, isReady_iff]
  | sl => simp [State.linkReady]

theorem isReady_accept (s : State) (l : Link) (n : Fin 8) : (s.accept l).isReady n = s.isReady n := by
  obtain ⟨state, -⟩ := accept_items s l n
  rw [State.isReady, state, State.isReady]

theorem linkReady_accept (s : State) (l k : Link) : (s.accept l).linkReady k = s.linkReady k := by
  cases k with
  | tl n => exact isReady_accept s l n
  | sl => rfl

theorem holding_accept (s : State) (l : Link) (h : Holder) : (s.accept l).holding h = s.holding h := by
  rw [holding_eq, State.cash_accept, holding_eq]

theorem sourceCovers_accept (s : State) (l : Link) (h : Holder) (amount : Nat) (lines : List Line) :
    (s.accept l).sourceCovers h amount lines = s.sourceCovers h amount lines := by
  rw [State.sourceCovers, holding_accept, State.sourceCovers]

/-- Check 7: lines that are all IN name no slot twice. -/
theorem Cash.proposalOk_iff_slots (c : Cash) (amount : Nat) (lines : List Line) : c.proposalOk amount lines = true ↔
    lines ≠ [] ∧
      (∀ x ∈ lines, x.isIn = true ∧ (∃ h : x.slot < 12, c.faces.get ⟨x.slot, h⟩ ≠ none) ∧ 1 ≤ x.count ∧ x.count ≤ 999) ∧
      (lines.map Line.slot).Nodup ∧ worth c.faces (pieces true lines) = amount := by
  have slots (ins : ∀ x ∈ lines, x.isIn = true) :
      (lines.Pairwise fun a b => a.slot ≠ b.slot ∨ a.isIn ≠ b.isIn) ↔ (lines.map Line.slot).Nodup := by
    rw [List.Nodup, List.pairwise_map]
    refine List.Pairwise.iff_of_mem fun {a b} ha hb => ⟨fun h => h.resolve_right fun no => no ?_, Or.inl⟩
    rw [ins a ha, ins b hb]
  rw [Cash.proposalOk_iff, Cash.linesSound_iff]
  refine and_congr_right fun _ => ⟨?_, ?_⟩
  · rintro ⟨ins, ⟨sound, distinct⟩, value⟩
    exact ⟨fun x hx => ⟨ins x hx, sound x hx⟩, (slots ins).1 distinct, value⟩
  · rintro ⟨sound, distinct, value⟩
    have ins : ∀ x ∈ lines, x.isIn = true := fun x hx => (sound x hx).1
    exact ⟨ins, ⟨fun x hx => (sound x hx).2, (slots ins).2 distinct⟩, value⟩

section
variable {l k : Link} {body : Bytes} {b : ProposeBody} {s : State}

/-- A proposal between one place and itself. -/
theorem propose_same (read : readPropose body = some b) (same : b.source = b.destination) :
    propose l body s = .error .badForm := by
  rw [propose, read]
  exact check_neg (not_not_intro same)

/-- A proposal that the table gives its proposer no confirming party for. -/
theorem propose_unlisted (read : readPropose body = some b) (apart : b.source ≠ b.destination)
    (none : confirmingParty l b.source b.destination = none) : propose l body s = .error .notAllowed := by
  rw [propose, read]
  dsimp only
  rw [check_pos apart, none]

/-- The checks of a proposal whose confirming party the table gives, read of the state that the request found. -/
theorem propose_listed (read : readPropose body = some b) (apart : b.source ≠ b.destination)
    (party : confirmingParty l b.source b.destination = some k) : propose l body (s.accept l) =
      check (s.day.state = .opened ∨ s.day.state = .cutoff) .dayState
        (check (1 ≤ b.amount ∧ b.amount ≤ 9999999999) .range
          (check (s.linkReady l = true) .wrongState
            (check (s.linkReady k = true) .wrongState
              (check (s.cash.proposalOk b.amount b.lines = true) .breakdown
                (check (s.sourceCovers b.source b.amount b.lines = true) .shortfall
                  (check (s.dct.entries.length < 6) .tableFull
                    (okReply ((s.accept l).createTransfer l k b) (be 1 s.dct.freshId)))))))) := by
  rw [propose, read]
  dsimp only
  rw [check_pos apart, party]
  simp only [State.day_accept, linkReady_accept, sourceCovers_accept, State.cash_accept, State.dct_accept]
  rfl

theorem apart_of_party {src dst : Holder} (party : confirmingParty l src dst = some k) : src ≠ dst := by
  rintro rfl
  cases l <;> cases src <;> simp [confirmingParty] at party

end

/-! ### The entry created (05 R85, R88) -/

theorem makes_createTransfer (s : State) (l k : Link) (b : ProposeBody) :
    s.Makes (s.createTransfer l k b) { parts := [.dct], notices := [(.transferOffered, k)] } :=
  (makes_setDct s _).trans (makes_notify _ (by cases k <;> rfl))

theorem dct_createTransfer (s : State) (l k : Link) (b : ProposeBody) : (s.createTransfer l k b).dct =
    s.dct.create l k b.amount (s.settings.transferExpiry * 100) (.transfer b.source b.destination b.lines) :=
  State.dct_notify _ _ _

end Sys2Proof.Machine

open Sys2Proof Sys2Proof.Machine

/-- Settles O30: the body spells its proposal, the checks come in their order, and the entry created takes the next id. -/
theorem proposeIsJudgedAndTaken : Obligations.ProposeIsJudgedAndTaken := by
  intro l confirmer tag src dst amount tail lines s accepts fits few width read cursor ids c listed party open_ ready sound covers
  have spelled := readPropose_spelled src dst fits read
  have length : Kind.propose.admits l (be 1 src.num ++ be 1 dst.num ++ be 5 amount ++ tail).length = true :=
    (listLength_iff 7 4 0 12 _ (by decide)).2 ⟨_, Nat.zero_le _, few, by simp [width, ← Nat.add_assoc]⟩
  have refused {code : Code} (h : propose l _ (s.accept l) = .error code) : s.Refuses c l 20 tag code :=
    refuses_of_row (k := .propose) rfl accepts (by cases l <;> rfl) length h
  have partyOf (k : Link) : confirmingParty l src dst = some k ↔ listed k := confirmingParty_eq_some_iff l src dst k
  have judged (p : party) := propose_listed (s := s) spelled (apart_of_party ((partyOf confirmer).2 p)) ((partyOf confirmer).2 p)
  have bothReady : s.linkReady l = true ∧ s.linkReady confirmer = true ↔ ready l ∧ ready confirmer :=
    and_congr (linkReady_iff s l) (linkReady_iff s confirmer)
  have sounds : s.cash.proposalOk amount lines = true ↔ sound := s.cash.proposalOk_iff_slots amount lines
  have covered : s.sourceCovers src amount lines = true ↔ covers := State.sourceCovers_iff
  refine ⟨fun same => refused (propose_same spelled same), fun apart none => refused (propose_unlisted spelled apart ?_),
    fun p shut => refused ?_, fun p o out => refused ?_, fun p o least most busy => refused ?_,
    fun p o least most own other no => refused ?_, fun p o least most own other ok no => refused ?_,
    fun p o least most own other ok enough full => refused ?_, fun p o least most own other ok enough room => ?_⟩
  · exact Option.eq_none_iff_forall_ne_some.2 fun k some => none k ((partyOf k).1 some)
  · rw [judged p, check_neg shut]
  · rw [judged p, check_pos o, check_neg out]
  · rw [judged p, check_pos o, check_pos ⟨least, most⟩]
    by_cases own : s.linkReady l = true
    · rw [check_pos own, check_neg fun other => busy (bothReady.1 ⟨own, other⟩)]
    · exact check_neg own
  all_goals
    obtain ⟨own, other⟩ := bothReady.2 ⟨own, other⟩
    have passed := judged p
    rw [check_pos o, check_pos ⟨least, most⟩, check_pos own, check_pos other] at passed
  · rw [passed, check_neg (mt sounds.1 no)]
  · rw [passed, check_pos (sounds.2 ok), check_neg (mt covered.1 no)]
  · rw [passed, check_pos (sounds.2 ok), check_pos (covered.2 enough), check_neg (Nat.not_lt.2 full)]
  · rw [check_pos (sounds.2 ok), check_pos (covered.2 enough), check_pos room] at passed
    obtain ⟨answered, carries⟩ := (makes_createTransfer (s.accept l) l confirmer ⟨src, dst, amount, lines⟩).taken (k := .propose)
      (tag := tag) accepts (by cases l <;> rfl) length passed
    obtain ⟨first, last, fresh, -⟩ := freshId_next (d := s.dct) (by omega) cursor
    have table := (show _ = _ from carries.part .dct).trans (dct_createTransfer (s.accept l) l confirmer _)
    rw [State.dct_accept, State.settings_accept] at table
    exact ⟨_, s.dct.freshId, rfl, answered, first, last, fresh, table⟩
end

section
/-! PROOF. The entries of the dual-control table (05 R84, R89 to R95): the one a request names, and what its leaving makes. -/

namespace Sys2Proof.Machine

/-! ### The entry of an id -/

theorem Dct.find_of_mem {d : Dct} {e : Entry} (mem : e ∈ d.entries) (distinct : (d.entries.map Entry.id).Nodup) :
    d.find e.id = some e := by
  cases found : d.find e.id with
  | none => exact absurd (beq_self_eq_true _) (List.find?_eq_none.1 found e mem)
  | some k =>
    have same : k.id = e.id := by simpa using List.find?_some found
    rw [List.inj_on_of_nodup_map distinct (Dct.mem_of_find found) mem same]

theorem Dct.find_absent {d : Dct} {id : Nat} (absent : ∀ e ∈ d.entries, e.id ≠ id) : d.find id = none :=
  List.find?_eq_none.2 fun e he => by simpa using absent e he

/-! ### The rows that name an entry (11 R198) -/

section
variable (l : Link) (tag : Byte) (s : State) {id : Nat} (fits : id < 256)
include fits

theorem exec_confirm :
    exec (.confirm l tag (be 1 id)) s = .next (request l .confirm tag (be 1 id) (confirm l id) s) := by
  show Host.Outcome.next (request l .confirm tag (be 1 id) (confirm l (field (be 1 id) 0 1)) s) = _
  rw [field_be_alone 1 id fits]

theorem exec_decline :
    exec (.decline l tag (be 1 id)) s = .next (request l .decline tag (be 1 id) (decline l id) s) := by
  show Host.Outcome.next (request l .decline tag (be 1 id) (decline l (field (be 1 id) 0 1)) s) = _
  rw [field_be_alone 1 id fits]

theorem exec_withdraw :
    exec (.withdraw l tag (be 1 id)) s = .next (request l .withdraw tag (be 1 id) (withdraw l id) s) := by
  show Host.Outcome.next (request l .withdraw tag (be 1 id) (withdraw l (field (be 1 id) 0 1)) s) = _
  rw [field_be_alone 1 id fits]

end

/-! ### What CONFIRM, DECLINE and WITHDRAW answer (05 R89, R93, R94) -/

section
variable {l : Link} {id : Nat} {e : Entry} {s : State}

/-- A request that names no entry. -/
theorem unnamed_refused (none : s.dct.find id = none) : confirm l id s = .error .noSuch ∧ decline l id s = .error .noSuch ∧
    withdraw l id s = .error .noSuch := by
  refine ⟨?_, ?_, ?_⟩
  · rw [confirm, none]
  · rw [decline, none]
  · rw [withdraw, none]

variable (found : s.dct.find id = some e)
include found

theorem confirm_other (other : l ≠ e.confirmer) : confirm l id s = .error .notAllowed := by
  rw [confirm, found]
  exact check_neg other

theorem confirm_transfer {src dst : Holder} {lines : List Line} (own : l = e.confirmer)
    (proposal : e.proposal = .transfer src dst lines) : confirm l id s = confirmTransfer e src dst lines s := by
  rw [confirm, found]
  dsimp only
  rw [check_pos own, proposal]

theorem confirm_override {n : Fin 8} {p : Posting} (own : l = e.confirmer) (proposal : e.proposal = .override n p) :
    confirm l id s = confirmOverride e n p s := by
  rw [confirm, found]
  dsimp only
  rw [check_pos own, proposal]

theorem decline_found : decline l id s = check (l = e.confirmer) .notAllowed (okReply (s.decline e) []) := by
  rw [decline, found]

theorem withdraw_found : withdraw l id s = check (l = e.proposer) .notAllowed (okReply (s.withdraw e) []) := by
  rw [withdraw, found]

end

/-! ### An entry that leaves (05 R92 to R95) -/

section
variable (s : State) (e : Entry) (n : Fin 8) (o : OverrideOutcome)

theorem makes_dropEntry (id : Nat) : s.Makes (s.dropEntry id) { parts := [.dct] } := makes_setDct s _

/-- A transfer that leaves the table tells a party. -/
theorem makes_transferEnded (k : Link) :
    s.Makes ((s.dropEntry e.id).notify .transferEnded k) { parts := [.dct], notices := [(.transferEnded, k)] } :=
  (makes_dropEntry s e.id).trans (makes_notify _ (by cases k <;> rfl))

/-- An override that leaves the table: its position serves again. -/
theorem makes_endOverride : s.Makes (s.endOverride e n o)
    { parts := [.dct], positions := [n], notices := [(.positionChanged, .sl)] } :=
  ((makes_setDct s _).trans (makes_movePos _ n .serving)).widen (List.Subset.refl _) (List.Subset.refl _) (List.Subset.refl _)
    fun _ => Iff.rfl

theorem dct_endOverride : (s.endOverride e n o).dct =
    { s.dct with entries := s.dct.entries.filter (fun y => y.id != e.id), outcomes := s.dct.outcomes.set n o } :=
  State.dct_movePos _ _ _

theorem pos_endOverride : (s.endOverride e n o).pos n = { s.pos n with state := .serving } := pos_movePos_self _ _ _

/-- Its teller is told where it failed. -/
theorem makes_overrideFailed : s.Makes ((s.endOverride e n o).notify .overrideFailed (.tl n))
    { parts := [.dct], positions := [n], notices := [(.positionChanged, .sl), (.overrideFailed, .tl n)] } :=
  ((makes_endOverride s e n o).trans (makes_notify _ rfl)).widen (List.Subset.refl _) (List.Subset.refl _) (List.Subset.refl _)
    fun _ => Iff.rfl

end

/-! ### A drawer's release at a request of any link (03 R50) -/

/-- A record released, by its core alone. -/
theorem released_of_core_release {p q : Position} (h : q.core = p.release.core) :
    p.Released q ∧ q.core = { p.core with lock := q.lock, window := q.window } := by
  obtain ⟨lock, window⟩ := p.released_release
  have sameLock : q.lock = p.release.lock := show q.core.lock = _ by rw [h]; rfl
  have sameWindow : q.window = p.release.window := show q.core.window = _ by rw [h]; rfl
  refine ⟨⟨sameLock.trans lock, sameWindow.trans window⟩, ?_⟩
  rw [h, Position.core_release, sameLock, sameWindow]

/-- What a release reads of a position stands where a request has been heard. -/
theorem released_accept {s : State} {l : Link} {n : Fin 8} {q : Position} (h : ((s.accept l).pos n).Released q) :
    (s.pos n).Released q := by
  obtain ⟨-, -, sensor, lock, window⟩ := accept_items s l n
  rwa [Position.Released, sensor, lock, window] at h

end Sys2Proof.Machine
end

section
/-! PROOF. CONFIRM of a transfer (05 R89 to R91): its checks, and the pieces, the record, the locks and DRAWER-HIGH. -/

namespace Sys2Proof.Machine

/-! ### DRAWER-HIGH over two judgements (04 R78) -/

theorem mem_highDrawer {s t : State} {x : Notice × Link} : x ∈ s.highDrawer t ↔
    (∃ n, s.cash.high.get n = false ∧ t.cash.high.get n = true) ∧ x = (.drawerHigh, .sl) := by
  unfold State.highDrawer
  split
  · next high => simp [high]
  · next same => simp [same]

/-- Of two changes each drawer's state takes part in one alone. -/
theorem mem_highDrawer_trans {s t u : State}
    (one : ∀ n, t.cash.high.get n = s.cash.high.get n ∨ u.cash.high.get n = t.cash.high.get n) (x : Notice × Link) :
    x ∈ s.highDrawer t ++ t.highDrawer u ↔ x ∈ s.highDrawer u := by
  rw [List.mem_append, mem_highDrawer, mem_highDrawer, mem_highDrawer, ← or_and_right, ← exists_or]
  refine and_congr_left' (exists_congr fun n => ?_)
  rcases one n with same | same
  · rw [same]
    exact or_iff_right fun ⟨low, high⟩ => Bool.false_ne_true (low.symm.trans high)
  · rw [same]
    exact or_iff_left fun ⟨low, high⟩ => Bool.false_ne_true (low.symm.trans high)

/-! ### The parties' drawers (05 R91) -/

/-- The position whose drawer a holder is. -/
def Holder.drawers : Holder → List (Fin 8)
  | .drawer n => [n]
  | .vault => []

theorem Holder.mem_drawers {h : Holder} {n : Fin 8} : n ∈ h.drawers ↔ h = .drawer n := by
  cases h <;> simp [Holder.drawers, eq_comm]

section
variable (s : State) (h src dst : Holder) (lines : List Line)

theorem makes_movePieces : s.Makes (s.movePieces src dst lines) { parts := [.cash] } := by
  rw [movePieces_eq]
  exact makes_setCash s _

theorem makes_releaseHolder : s.Makes (s.releaseHolder h) { positions := h.drawers } := by
  cases h with
  | drawer n => exact makes_onPos s n _
  | vault => exact .refl s

theorem makes_judgeHolder : s.Makes (s.judgeHolder h) { parts := [.cash], notices := s.highDrawer (s.judgeHolder h) } := by
  cases h with
  | drawer n => exact makes_judgeHigh s n
  | vault =>
    have same : s.highDrawer (s.judgeHolder .vault) = [] := highDrawer_same rfl
    rw [same]
    exact (State.Makes.refl s).widen (List.nil_subset _) (List.Subset.refl _) (List.Subset.refl _) fun _ => Iff.rfl

/-- The judgement of a holder's drawer, where it is one, changes that drawer's DRAWER-HIGH state alone. -/
theorem cash_judgeHolder : (s.judgeHolder h).cash = { s.cash with
    high := Vec.tab fun n => if h = .drawer n then highAfter (s.cash.high.get n) true s.day.drawerMax (s.drawer n).total
      else s.cash.high.get n } := by
  cases h with
  | drawer n =>
    refine (cash_judgeHigh s n).trans (congrArg (fun v => { s.cash with high := v }) (Vec.ext_get fun m => ?_))
    rw [Vec.get_set, Vec.get_tab]
    by_cases same : m = n
    · subst same
      rw [if_pos rfl, if_pos rfl]
    · rw [if_neg same, if_neg fun e => same (Holder.drawer.inj e).symm]
  | vault => exact congrArg (fun v => { s.cash with high := v }) (Vec.ext_get fun m => (Vec.get_tab _ m).symm)

theorem positions_judgeHolder : (s.judgeHolder h).positions = s.positions := by
  cases h with
  | drawer n => exact positions_judgeHigh s n
  | vault => rfl

theorem pos_releaseHolder (m : Fin 8) :
    (s.releaseHolder h).pos m = if h = .drawer m then (s.pos m).release else s.pos m := by
  cases h with
  | drawer n =>
    by_cases same : m = n
    · subst same
      rw [if_pos rfl]
      exact State.pos_onPos_self s m _
    · rw [if_neg fun e => same (Holder.drawer.inj e).symm]
      exact State.pos_onPos_ne s _ same
  | vault => rfl

theorem jnl_releaseHolder : (s.releaseHolder h).jnl = s.jnl := (makes_releaseHolder s h).part (p := .jnl) List.not_mem_nil

theorem jnl_judgeHolder : (s.judgeHolder h).jnl = s.jnl := (makes_judgeHolder s h).part (p := .jnl) (by simp)

theorem cash_releaseHolder : (s.releaseHolder h).cash = s.cash := (makes_releaseHolder s h).part (p := .cash) List.not_mem_nil

theorem day_releaseHolder : (s.releaseHolder h).day = s.day := (makes_releaseHolder s h).part (p := .day) List.not_mem_nil

variable {src dst}

/-- Of two holders at most one is a drawer's. -/
theorem apart_drawers (apart : src ≠ dst) {n : Fin 8} (own : src = .drawer n) : dst ≠ .drawer n :=
  fun other => apart (own.trans other.symm)

/-- The judgement of both parties' drawers. -/
theorem cash_judgeHolders (apart : src ≠ dst) : ((s.judgeHolder src).judgeHolder dst).cash = { s.cash with
    high := Vec.tab fun n => if src = .drawer n ∨ dst = .drawer n then
      highAfter (s.cash.high.get n) true s.day.drawerMax (s.drawer n).total else s.cash.high.get n } := by
  have day : (s.judgeHolder src).day = s.day := (makes_judgeHolder s src).part (p := .day) (by simp)
  rw [cash_judgeHolder, cash_judgeHolder, day]
  refine congrArg (fun v => { s.cash with high := v }) (Vec.ext_get fun n => ?_)
  simp only [Vec.get_tab, State.drawer, cash_judgeHolder]
  by_cases own : src = .drawer n
  · simp only [own, if_true, true_or, if_neg (apart_drawers apart own)]
  · simp only [own, if_false, false_or]

theorem makes_judgeHolders (apart : src ≠ dst) : s.Makes ((s.judgeHolder src).judgeHolder dst)
    { parts := [.cash], notices := s.highDrawer ((s.judgeHolder src).judgeHolder dst) } := by
  refine ((makes_judgeHolder s src).trans (makes_judgeHolder _ dst)).widen (by simp [Change.andThen]) (List.Subset.refl _)
    (List.Subset.refl _) (mem_highDrawer_trans fun n => ?_)
  by_cases own : src = .drawer n
  · right
    rw [cash_judgeHolder]
    exact (Vec.get_tab _ n).trans (if_neg (apart_drawers apart own))
  · left
    rw [cash_judgeHolder]
    exact (Vec.get_tab _ n).trans (if_neg own)

end

/-! ### The pieces moved (05 R91) -/

theorem Cash.holding_setHolding_self (c : Cash) (h : Holder) (r : CashRecord) : (c.setHolding h r).holding h = r := by
  cases h with
  | drawer n => exact Vec.get_set_self _ _ _
  | vault => rfl

theorem Cash.holding_put_take (c : Cash) {src dst : Holder} (apart : src ≠ dst) (lines : List Line) (h : Holder) :
    ((c.take src lines).put dst lines).holding h =
      if h = src then (c.holding src).without c.faces lines
      else if h = dst then (c.holding dst).joined c.faces lines else c.holding h := by
  rw [Cash.put, Cash.take, Cash.faces_setHolding, Cash.holding_setHolding_ne _ _ apart.symm]
  by_cases fromSrc : h = src
  · rw [if_pos fromSrc, fromSrc, Cash.holding_setHolding_ne _ _ apart, Cash.holding_setHolding_self]
  rw [if_neg fromSrc]
  by_cases toDst : h = dst
  · rw [if_pos toDst, toDst, Cash.holding_setHolding_self]
  · rw [if_neg toDst, Cash.holding_setHolding_ne _ _ toDst, Cash.holding_setHolding_ne _ _ fromSrc]

/-- What moving pieces leaves of the cash unit besides its records. -/
theorem Cash.kept_put_take (c : Cash) (src dst : Holder) (lines : List Line) :
    let k := (c.take src lines).put dst lines
    k.faces = c.faces ∧ k.opening = c.opening ∧ k.cashIn = c.cashIn ∧ k.cashOut = c.cashOut ∧ k.dayOver = c.dayOver ∧
      k.dayShort = c.dayShort ∧ k.high = c.high := by
  cases src <;> cases dst <;> exact ⟨rfl, rfl, rfl, rfl, rfl, rfl, rfl⟩

/-! ### The transfer made (05 R91) -/

section
variable (s : State) (e : Entry) {src dst : Holder} (lines : List Line)

/-- The pieces moved and the record asked for. -/
def State.recordedTransfer (s : State) (e : Entry) (src dst : Holder) (lines : List Line) : State :=
  (s.movePieces src dst lines).appendSystem (s.transferRecord e src dst)

theorem movedTransfer_eq : s.movedTransfer e src dst lines =
    ((((s.recordedTransfer e src dst lines).releaseHolder src).releaseHolder dst).judgeHolder src).judgeHolder dst := rfl

theorem makes_recordedTransfer : s.Makes (s.recordedTransfer e src dst lines)
    { parts := [.cash, .jnl], notices := s.highJournal (s.recordedTransfer e src dst lines) } := by
  have moved := makes_movePieces s src dst lines
  refine (moved.trans (makes_appendSystem _ _)).widen (List.Subset.refl _) (List.Subset.refl _) (List.Subset.refl _) fun x => ?_
  rw [highJournal_congr (moved.part (p := .jnl) (by simp)) rfl]
  exact Iff.rfl

theorem jnl_recordedTransfer : (s.recordedTransfer e src dst lines).jnl =
    s.jnl.withSystem s.day.seconds (s.transferRecord e src dst) := by
  rw [State.recordedTransfer, appendSystem_jnl, movePieces_eq]

theorem cash_recordedTransfer : (s.recordedTransfer e src dst lines).cash = (s.cash.take src lines).put dst lines := by
  rw [State.recordedTransfer, State.cash_appendSystem, movePieces_eq]

theorem pos_recordedTransfer (m : Fin 8) : (s.recordedTransfer e src dst lines).pos m = s.pos m := by
  rw [State.pos, State.recordedTransfer, State.positions_appendSystem, movePieces_eq]
  rfl

theorem jnl_movedTransfer : (s.movedTransfer e src dst lines).jnl =
    s.jnl.withSystem s.day.seconds (s.transferRecord e src dst) := by
  rw [movedTransfer_eq, jnl_judgeHolder, jnl_judgeHolder, jnl_releaseHolder, jnl_releaseHolder, jnl_recordedTransfer]

theorem pos_movedTransfer (apart : src ≠ dst) (m : Fin 8) : (s.movedTransfer e src dst lines).pos m =
    if src = .drawer m ∨ dst = .drawer m then (s.pos m).release else s.pos m := by
  rw [movedTransfer_eq, State.pos, positions_judgeHolder, positions_judgeHolder, ← State.pos, pos_releaseHolder,
    pos_releaseHolder, pos_recordedTransfer]
  by_cases own : src = .drawer m
  · rw [if_neg (apart_drawers apart own), if_pos own, if_pos (Or.inl own)]
  · simp only [own, if_false, false_or]

theorem cash_movedTransfer (apart : src ≠ dst) : (s.movedTransfer e src dst lines).cash =
    { (s.cash.take src lines).put dst lines with
      high := Vec.tab fun n => if src = .drawer n ∨ dst = .drawer n then
        highAfter (s.cash.high.get n) true s.day.drawerMax (((s.cash.take src lines).put dst lines).holding (.drawer n)).total
        else s.cash.high.get n } := by
  have day : (s.recordedTransfer e src dst lines).day = s.day := (makes_recordedTransfer s e lines).part (p := .day) (by simp)
  obtain ⟨-, -, -, -, -, -, high⟩ := s.cash.kept_put_take src dst lines
  rw [movedTransfer_eq, cash_judgeHolders _ apart]
  simp only [State.drawer, cash_releaseHolder, day_releaseHolder, cash_recordedTransfer, day, high]
  rfl

/-- The cash, the record, the locks and DRAWER-HIGH. -/
theorem makes_movedTransfer (apart : src ≠ dst) : s.Makes (s.movedTransfer e src dst lines)
    { parts := [.cash, .jnl], positions := src.drawers ++ dst.drawers
      notices := s.highJournal (s.movedTransfer e src dst lines) ++ s.highDrawer (s.movedTransfer e src dst lines) } := by
  have recorded := makes_recordedTransfer s e (src := src) (dst := dst) lines
  have released := (recorded.trans (makes_releaseHolder _ src)).trans (makes_releaseHolder _ dst)
  refine (released.trans (makes_judgeHolders _ apart)).widen (by simp [Change.andThen]) (by simp [Change.andThen])
    (List.Subset.refl _) fun x => ?_
  have journal : s.highJournal (s.recordedTransfer e src dst lines) = s.highJournal (s.movedTransfer e src dst lines) :=
    highJournal_congr rfl ((jnl_recordedTransfer s e lines).trans (jnl_movedTransfer s e lines).symm)
  have drawer : State.highDrawer (((s.recordedTransfer e src dst lines).releaseHolder src).releaseHolder dst)
      (s.movedTransfer e src dst lines) = s.highDrawer (s.movedTransfer e src dst lines) := by
    obtain ⟨-, -, -, -, -, -, high⟩ := s.cash.kept_put_take src dst lines
    refine highDrawer_congr ?_ rfl
    rw [cash_releaseHolder, cash_releaseHolder, cash_recordedTransfer, high]
  rw [← movedTransfer_eq, ← journal, ← drawer]
  simp [Change.andThen]

/-- Both parties are told and the entry leaves. -/
theorem makes_makeTransfer (apart : src ≠ dst) : s.Makes (s.makeTransfer e src dst lines)
    { parts := [.cash, .jnl, .dct], positions := src.drawers ++ dst.drawers
      notices := s.highJournal (s.makeTransfer e src dst lines) ++ s.highDrawer (s.makeTransfer e src dst lines) ++
        [(.transferDone, e.proposer), (.transferDone, e.confirmer)] } := by
  have carried (k : Link) : Notice.transferDone.carriedBy k = true := by cases k <;> rfl
  have told := ((makes_dropEntry (s.movedTransfer e src dst lines) e.id).trans (makes_notify _ (carried e.proposer))).trans
    (makes_notify _ (carried e.confirmer))
  rw [← makeTransfer_eq] at told
  refine ((makes_movedTransfer s e lines apart).trans told).widen (by simp [Change.andThen]) (by simp [Change.andThen])
    (List.Subset.refl _) fun x => ?_
  rw [highJournal_congr rfl (told.part (p := .jnl) (by simp [Change.andThen])).symm,
    highDrawer_congr rfl (congrArg Cash.high (told.part (p := .cash) (by simp [Change.andThen]))).symm]
  simp [Change.andThen]

/-- The entry's leaving and the notices change nothing else of a transfer moved. -/
theorem told_makeTransfer : (s.makeTransfer e src dst lines).cash = (s.movedTransfer e src dst lines).cash ∧
    (s.makeTransfer e src dst lines).jnl = (s.movedTransfer e src dst lines).jnl ∧
    (s.makeTransfer e src dst lines).dct = s.dct.drop e.id ∧
    ∀ m, (s.makeTransfer e src dst lines).pos m = (s.movedTransfer e src dst lines).pos m := by
  rw [makeTransfer_eq]
  refine ⟨?_, ?_, ?_, fun m => ?_⟩
  · rw [State.cash_notify, State.cash_notify]
    rfl
  · rw [State.jnl_notify, State.jnl_notify]
    rfl
  · rw [State.dct_notify, State.dct_notify, State.dropEntry, dct_movedTransfer]
  · rw [pos_notify, pos_notify]
    rfl

end

/-! ### The checks (05 R90) -/

theorem holderReady_iff (s : State) (h : Holder) :
    s.holderReady h = true ↔ ∀ n, h = .drawer n → (s.pos n).state = .ready := by
  cases h with
  | drawer n => simp [State.holderReady, isReady_iff]
  | vault => simp [State.holderReady]

theorem holderReady_accept (s : State) (l : Link) (h : Holder) : (s.accept l).holderReady h = s.holderReady h := by
  cases h with
  | drawer n => exact isReady_accept s l n
  | vault => rfl

theorem destinationTakes_accept (s : State) (l : Link) (h : Holder) (amount : Nat) (lines : List Line) :
    (s.accept l).destinationTakes h amount lines = s.destinationTakes h amount lines := by
  rw [State.destinationTakes, holding_accept, State.destinationTakes]

theorem Holder.maxCount_eq (h : Holder) : h.maxCount = if h = .vault then 16777215 else 65535 := by cases h <;> rfl

theorem bytes_written (s : State) : s.written.bytes = s.jnl.answered := by
  rw [State.written, apply_ite Written.bytes]
  rfl

/-- The checks of a transfer, read of the state that the request found. -/
theorem confirmTransfer_accept (s : State) (l : Link) (e : Entry) (src dst : Holder) (lines : List Line) :
    confirmTransfer e src dst lines (s.accept l) =
      check (s.holderReady src = true ∧ s.holderReady dst = true) .wrongState
        (check (s.sourceCovers src e.amount lines = true) .shortfall
          (check (s.destinationTakes dst e.amount lines = true) .range
            (okReply ((s.accept l).makeTransfer e src dst lines) (be 1 1 ++ s.jnl.answered)))) := by
  simp only [confirmTransfer, holderReady_accept, sourceCovers_accept, destinationTakes_accept, bytes_written, State.jnl_accept]

theorem tellerNum_accept (s : State) (l : Link) (n : Fin 8) :
    ((s.accept l).pos n).tellerNum = (s.pos n).teller.getD 0 := by
  obtain ⟨-, teller, -⟩ := accept_items s l n
  rw [Position.tellerNum, teller]

/-- The record names its teller party and that position's teller. -/
theorem transferRecord_accept (s : State) (l : Link) (e : Entry) (src dst : Holder) :
    (s.accept l).transferRecord e src dst = { (match e.proposer, e.confirmer with
      | .tl n, _ | .sl, .tl n => Record.plain .transfer (.position n) ((s.pos n).teller.getD 0) e.amount
      | .sl, .sl => Record.plain .transfer .none 0 e.amount) with source := some src, destination := some dst } := by
  unfold State.transferRecord Entry.party
  cases e.proposer with
  | tl n =>
    dsimp only
    rw [tellerNum_accept]
  | sl => cases e.confirmer with
    | tl n =>
      dsimp only
      rw [tellerNum_accept]
    | sl => rfl

end Sys2Proof.Machine

open Sys2Proof Sys2Proof.Machine

/-- Settles O31: the checks in their order, and what the pieces' move, the record, the releases and the judgements leave. -/
theorem confirmMovesATransfersPieces : Obligations.ConfirmMovesATransfersPieces := by
  intro l tag e src dst lines s accepts mem distinct fits proposal apart c ready moved bound covers takes less more record
  have row : exec c s = _ := exec_confirm l tag s fits
  have role : Kind.confirm.allows l = true := by cases l <;> rfl
  have found : (s.accept l).dct.find e.id = some e := by
    rw [State.dct_accept]
    exact Dct.find_of_mem mem distinct
  have refused {code : Code} (h : confirm l e.id (s.accept l) = .error code) : s.Refuses c l 21 tag code :=
    refuses_of_row (k := .confirm) row accepts role rfl h
  have judged (own : l = e.confirmer) := (confirm_transfer found own proposal).trans (confirmTransfer_accept s l e src dst lines)
  have bothReady : s.holderReady src = true ∧ s.holderReady dst = true ↔ ready src ∧ ready dst :=
    and_congr (holderReady_iff s src) (holderReady_iff s dst)
  have covered : s.sourceCovers src e.amount lines = true ↔ covers := State.sourceCovers_iff
  have taken : s.destinationTakes dst e.amount lines = true ↔ takes := by
    rw [State.destinationTakes_iff, Holder.maxCount_eq]
    rfl
  refine ⟨fun other => refused (confirm_other found other), fun own busy => refused ?_, fun own a b no => refused ?_,
    fun own a b enough no => refused ?_, fun own a b enough room => ?_⟩
  · rw [judged own, check_neg (mt bothReady.1 busy)]
  · rw [judged own, check_pos (bothReady.2 ⟨a, b⟩), check_neg (mt covered.1 no)]
  · rw [judged own, check_pos (bothReady.2 ⟨a, b⟩), check_pos (covered.2 enough), check_neg (mt taken.1 no)]
  · have made := judged own
    rw [check_pos (bothReady.2 ⟨a, b⟩), check_pos (covered.2 enough), check_pos (taken.2 room)] at made
    obtain ⟨answered, carries⟩ := ((makes_makeTransfer (s.accept l) e lines apart).widen
      (d := { parts := [.cash, .jnl, .dct]
              positions := (List.finRange 8).filter (fun n => src == .drawer n || dst == .drawer n), notices := _ })
      (List.Subset.refl _) (fun n hn => by simpa [Holder.mem_drawers] using hn) (List.Subset.refl _) fun _ => Iff.rfl).taken
        (k := .confirm) (tag := tag) (body := be 1 e.id) accepts role rfl made
    obtain ⟨cash, jnl, dct, pos⟩ := told_makeTransfer (s.accept l) e (src := src) (dst := dst) lines
    rw [← highJournal_congr (State.jnl_accept s l).symm (carries.part .jnl),
      ← highDrawer_congr (congrArg Cash.high (State.cash_accept s l)).symm (congrArg Cash.high (carries.part .cash))] at answered
    have left := (show _ = _ from carries.part .cash).trans (cash.trans (cash_movedTransfer (s.accept l) e lines apart))
    rw [State.cash_accept, State.day_accept] at left
    obtain ⟨faces, opening, cashIn, cashOut, dayOver, dayShort, -⟩ := s.cash.kept_put_take src dst lines
    refine ⟨_, row, answered, fun h => ?_, ?_, ?_, ?_, ?_, ?_, ?_, fun n => ?_, ?_, fun n party => ?_, ?_⟩
    · have place := s.cash.holding_put_take apart lines h
      rw [← holding_eq, ← holding_eq, ← holding_eq] at place
      rw [holding_eq, left]
      cases h <;> exact place
    · exact (congrArg Cash.faces left).trans faces
    · exact (congrArg Cash.opening left).trans opening
    · exact (congrArg Cash.cashIn left).trans cashIn
    · exact (congrArg Cash.cashOut left).trans cashOut
    · exact (congrArg Cash.dayOver left).trans dayOver
    · exact (congrArg Cash.dayShort left).trans dayShort
    · rw [State.drawer, left]
      exact Vec.get_tab _ n
    · refine (carries.part .jnl).trans (jnl.trans ((jnl_movedTransfer (s.accept l) e lines).trans ?_))
      rw [State.jnl_accept, State.day_accept]
      exact congrArg (s.jnl.withSystem s.day.seconds) (transferRecord_accept s l e src dst)
    · have core := carries.core n
      rw [pos, pos_movedTransfer _ e lines apart, if_pos party] at core
      obtain ⟨released, heard⟩ := released_of_core_release core
      exact ⟨released_accept released, by rw [← core_accept]; exact heard⟩
    · exact (carries.part .dct).trans (dct.trans (by rw [State.dct_accept]; rfl))
end

section
/-! PROOF. CONFIRM of an override (05 R89, R92, 04 R72): the held posting made, or failed by its re-check. -/

namespace Sys2Proof.Machine

/-! ### The held posting made (05 R92) -/

section
variable (s : State) (e : Entry) (n : Fin 8) (p : Posting)

/-- A held posting made is a movement with its record, of which an override is counted and an entry leaves. -/
theorem makeHeld_eq : s.makeHeld e n p =
    (((s.movement n p.kind.dir p.amount p.lines s.jnl (p.record n (s.pos n).tellerNum)).onProfile n
      Profile.addOverride).endOverride e n (.done s.jnl.next)).notify .overrideDone (.tl n) := by
  rw [State.makeHeld, makePosting_eq]

/-- What follows the movement. -/
theorem makes_counted : (s.makePosting n p).Makes (s.makeHeld e n p)
    { parts := [.bal, .dct], positions := [n], notices := [(.positionChanged, .sl), (.overrideDone, .tl n)] } :=
  ((makes_setBal (s.makePosting n p) _).trans (makes_endOverride _ e n _)).trans (makes_notify _ rfl)

theorem jnl_makeHeld : (s.makeHeld e n p).jnl = s.jnl.withRecord s.day.seconds (p.record n (s.pos n).tellerNum) := by
  refine ((makes_counted s e n p).part (p := .jnl) (by simp)).trans ?_
  rw [makePosting_eq, jnl_movement]

theorem cash_makeHeld : (s.makeHeld e n p).cash = (s.makePosting n p).cash :=
  (makes_counted s e n p).part (p := .cash) (by simp)

theorem makes_makeHeld : s.Makes (s.makeHeld e n p)
    { parts := [.dct, .cash, .jnl, .bal], positions := [n], windows := [n]
      notices := [(.positionChanged, .sl), (.overrideDone, .tl n)] ++ s.highJournal (s.makeHeld e n p) ++
        s.highDrawer (s.makeHeld e n p) } := by
  have made := makes_movement s n p.kind.dir p.amount p.lines s.jnl (p.record n (s.pos n).tellerNum) rfl
  rw [← makePosting_eq] at made
  have counted := makes_counted s e n p
  refine (made.trans counted).widen (by simp [Change.andThen]) (by simp [Change.andThen]) (by simp [Change.andThen]) fun x => ?_
  rw [highJournal_congr rfl (counted.part (p := .jnl) (by simp)).symm,
    highDrawer_congr rfl (congrArg Cash.high (cash_makeHeld s e n p)).symm]
  simp only [Change.andThen, List.mem_append]
  tauto

theorem dct_makeHeld : (s.makeHeld e n p).dct = { s.dct with
    entries := s.dct.entries.filter (fun y => y.id != e.id), outcomes := s.dct.outcomes.set n (.done s.jnl.next) } := by
  rw [State.makeHeld, State.dct_notify, dct_endOverride, State.dct_onProfile, dct_makePosting]

theorem bal_makeHeld : (s.makeHeld e n p).bal = { s.bal with
    profiles := s.bal.profiles.set n ((s.profile n).addPosting p.kind.dir p.amount).addOverride } := by
  rw [makeHeld_eq, State.bal_notify]
  refine ((makes_endOverride _ e n _).part (p := .bal) (by simp)).trans ?_
  rw [State.onProfile, bal_movement]
  simp only [Vec.modify, Vec.get_set_self, Vec.set_set_self]

theorem pos_makeHeld : (s.makeHeld e n p).pos n = { (s.makePosting n p).pos n with state := .serving } := by
  rw [State.makeHeld, pos_notify, pos_endOverride]
  rfl

theorem window_makeHeld : (s.makeHeld e n p).window n = { s.window n with amount := some p.amount } := by
  have counted : (s.makeHeld e n p).windows = (s.makePosting n p).windows := by
    rw [State.makeHeld, State.windows_notify, State.endOverride, State.windows_movePos]
    rfl
  rw [State.window, counted, makePosting_eq, ← State.window, window_movement]

/-! ### The held posting failed (05 R92) -/

theorem dct_failHeld (c : Code) : (s.failHeld e n c).dct = { s.dct with
    entries := s.dct.entries.filter (fun y => y.id != e.id), outcomes := s.dct.outcomes.set n (.failed c) } := by
  rw [State.failHeld, State.dct_notify, dct_endOverride]

theorem pos_failHeld (c : Code) : (s.failHeld e n c).pos n = { s.pos n with state := .serving } := by
  rw [State.failHeld, pos_notify, pos_endOverride]

end

/-! ### The re-check (04 R72) -/

section
variable {e : Entry} {n : Fin 8} {p : Posting} {s : State}

theorem confirmOverride_made (l : Link) (ok : p.recheck n s (.ok ()) = .ok ()) : confirmOverride e n p (s.accept l) =
    okReply ((s.accept l).makeHeld e n p) ([2, 0] ++ be 2 s.jnl.next) := by
  rw [confirmOverride, recheck_accept, ok, State.jnl_accept]
  rfl

theorem confirmOverride_failed (l : Link) {code : Code} (fails : p.recheck n s (.ok ()) = .error code) :
    confirmOverride e n p (s.accept l) = okReply ((s.accept l).failHeld e n code) ([2, 1] ++ be 2 code.num) := by
  rw [confirmOverride, recheck_accept, fails]
  rfl

end

/-! ### Position and profile -/

theorem Position.release_setState (p : Position) (st : PosState) :
    ({ p with state := st } : Position).release = { p.release with state := st } := by
  unfold Position.release
  dsimp only
  split <;> rfl

/-- An override in the profile (06 R115). -/
theorem addOverride_eq (f : Profile) : f.addOverride = { f with overrides := min 65535 (f.overrides + 1) } := by
  rw [Profile.addOverride, holdAt_eq_min]
  rfl

end Sys2Proof.Machine

open Sys2Proof Sys2Proof.Machine

/-- Settles O32: the re-check decides between a movement with its record and an outcome alone; either way the entry leaves. -/
theorem confirmMakesOrFailsAnOverride : Obligations.ConfirmMakesOrFailsAnOverride := by
  intro l tag e n x s accepts mem distinct fits proposal c cash after left
  have row : exec c s = _ := exec_confirm l tag s fits
  have role : Kind.confirm.allows l = true := by cases l <;> rfl
  have found : (s.accept l).dct.find e.id = some e := by
    rw [State.dct_accept]
    exact Dct.find_of_mem mem distinct
  have judged (own : l = e.confirmer) := confirm_override found own proposal
  have heard := core_accept s l n
  refine ⟨fun other => refuses_of_row (k := .confirm) row accepts role rfl (confirm_other found other),
    fun own code fails => ?_, fun own ok => ?_⟩
  · have taken := (judged own).trans (confirmOverride_failed l fails)
    obtain ⟨answered, carries⟩ := (makes_overrideFailed (s.accept l) e n (.failed code)).taken (k := .confirm) (tag := tag)
      (body := be 1 e.id) accepts role rfl taken
    refine ⟨_, row, answered, (carries.part .dct).trans ?_, (carries.core n).trans ?_⟩
    · exact (dct_failHeld (s.accept l) e n code).trans (by rw [State.dct_accept])
    · exact (congrArg Position.core (pos_failHeld (s.accept l) e n code)).trans (by rw [← heard]; rfl)
  · have taken := (judged own).trans (confirmOverride_made l ok)
    obtain ⟨answered, carries⟩ := (makes_makeHeld (s.accept l) e n x).taken (k := .confirm) (tag := tag) (body := be 1 e.id)
      accepts role rfl taken
    have moves : x.kind.dir ≠ .none ↔ cash := x.kind.dir_ne_none_iff
    have teller : ((s.accept l).pos n).tellerNum = (s.pos n).teller.getD 0 := tellerNum_accept s l n
    have drawer : (s.accept l).drawer n = s.drawer n := by simp only [State.drawer, State.cash_accept]
    rw [← highJournal_congr (State.jnl_accept s l).symm (carries.part .jnl),
      ← highDrawer_congr (congrArg Cash.high (State.cash_accept s l)).symm (congrArg Cash.high (carries.part .cash))] at answered
    have cashLeft := (show _ = _ from carries.part .cash).trans (cash_makeHeld (s.accept l) e n x)
    have posLeft := (carries.core n).trans (congrArg Position.core (pos_makeHeld (s.accept l) e n x))
    have layers := carries.layers n
    have window : (s.accept l).window n = s.window n := by simp only [State.window, State.windows_accept]
    rw [State.SameLayers, window_makeHeld, window] at layers
    obtain ⟨text, amount, current⟩ := layers
    rw [makePosting_eq] at cashLeft posLeft
    refine ⟨_, row, answered, ?_, fun none => ?_, fun some => ?_, ?_, ?_, text, amount, current⟩
    · exact (carries.part .dct).trans ((dct_makeHeld (s.accept l) e n x).trans (by rw [State.dct_accept, State.jnl_accept]))
    · obtain ⟨sameCash, samePos⟩ := movement_none (s.accept l) n x.kind.dir x.amount x.lines (s.accept l).jnl
        (x.record n ((s.accept l).pos n).tellerNum) (not_not.1 (mt moves.1 none))
      rw [samePos] at posLeft
      exact ⟨cashLeft.trans (sameCash.trans (State.cash_accept s l)), posLeft.trans (by rw [← heard]; rfl)⟩
    · rw [pos_movement _ n _ _ _ _ _ (moves.2 some), ← Position.release_setState] at posLeft
      obtain ⟨released, core⟩ := released_of_core_release posLeft
      refine ⟨cashLeft.trans ?_, released_accept released, core.trans (by rw [← heard]; rfl)⟩
      rw [cash_movement _ n _ _ _ _ _ (moves.2 some), State.cashMoved, drawer, State.cash_accept, State.day_accept]
      simp only [x.kind.dir_eq_inward_iff, x.kind.dir_eq_outward_iff]
      rfl
    · refine (carries.part .jnl).trans ?_
      rw [jnl_makeHeld, teller, State.jnl_accept, State.day_accept]
    · refine (carries.part .bal).trans ?_
      rw [bal_makeHeld, State.profile, State.bal_accept, addOverride_eq, addPosting_eq]
      simp only [x.kind.dir_eq_inward_iff, x.kind.dir_eq_outward_iff]
      rfl
end

section
/-! PROOF. DECLINE, WITHDRAW and expiry (05 R93 to R95, R98): each way an entry ends, by its kind. -/

namespace Sys2Proof.Machine

section
variable {s : State} {e : Entry} {src dst : Holder} {lines : List Line} {n : Fin 8} {x : Posting}

/-! ### A transfer that ends -/

theorem decline_transfer (proposal : e.proposal = .transfer src dst lines) :
    s.decline e = (s.dropEntry e.id).notify .transferEnded e.proposer := by rw [State.decline, proposal]

theorem withdraw_transfer (proposal : e.proposal = .transfer src dst lines) :
    s.withdraw e = (s.dropEntry e.id).notify .transferEnded e.confirmer := by rw [State.withdraw, proposal]

theorem expire_transfer (proposal : e.proposal = .transfer src dst lines) :
    s.expire e = ((s.dropEntry e.id).notify .transferEnded e.proposer).notify .transferEnded e.confirmer := by
  rw [State.expire, proposal]

/-! ### An override that ends -/

theorem decline_override (proposal : e.proposal = .override n x) :
    s.decline e = (s.endOverride e n .declined).notify .overrideFailed (.tl n) := by rw [State.decline, proposal]

theorem withdraw_override (proposal : e.proposal = .override n x) : s.withdraw e = s.endOverride e n .withdrawn := by
  rw [State.withdraw, proposal]

theorem expire_override (proposal : e.proposal = .override n x) :
    s.expire e = (s.endOverride e n .expired).notify .overrideFailed (.tl n) := by rw [State.expire, proposal]

/-! ### Expiry by an id (05 R98) -/

theorem expireId_found (found : s.dct.find e.id = some e) : s.expireId e.id = s.expire e := by rw [State.expireId, found]

theorem expireId_absent {id : Nat} (none : s.dct.find id = none) : s.expireId id = s := by rw [State.expireId, none]

end

/-- An override's end, told or not, at a request of any link: its position serves again. -/
theorem core_served {s t : State} {l : Link} {n : Fin 8} (core : (t.pos n).core =
    ({ (s.accept l).pos n with state := .serving } : Position).core) :
    (t.pos n).core = { s.heardPos l n with state := .serving } := by
  rw [core, ← core_accept]
  rfl

end Sys2Proof.Machine

open Sys2Proof Sys2Proof.Machine

/-- Settles O33: each way of ending finds the entry of the id, and removes it with the effects of its kind. -/
theorem entriesAreDeclinedWithdrawnOrExpire : Obligations.EntriesAreDeclinedWithdrawnOrExpire := by
  intro l tag id s alive distinct fits confirms declines withdraws left
  have confirmRow : exec confirms s = _ := exec_confirm l tag s fits
  have declineRow : exec declines s = _ := exec_decline l tag s fits
  have withdrawRow : exec withdraws s = _ := exec_withdraw l tag s fits
  have expiryRow : exec (.expiry id) s = .next (s.expireId id).settle := congrArg Host.Outcome.next (event_alive _ alive)
  have dct := State.dct_accept s l
  refine ⟨fun absent => ?_, ?_⟩
  · have none : (s.accept l).dct.find id = none := by
      rw [dct]
      exact Dct.find_absent absent
    obtain ⟨noConfirm, noDecline, noWithdraw⟩ := unnamed_refused (l := l) none
    exact ⟨⟨_, expiryRow, event_nothing alive (expireId_absent (Dct.find_absent absent))⟩, fun accepts =>
      ⟨refuses_of_row (k := .confirm) confirmRow accepts (by cases l <;> rfl) rfl noConfirm,
        refuses_of_row (k := .decline) declineRow accepts (by cases l <;> rfl) rfl noDecline,
        refuses_of_row (k := .withdraw) withdrawRow accepts (by cases l <;> rfl) rfl noWithdraw⟩⟩
  intro e mem named
  subst named
  have found := Dct.find_of_mem mem distinct
  have foundHeard : (s.accept l).dct.find e.id = some e := by rwa [dct]
  have declined (own : l = e.confirmer) : decline l e.id (s.accept l) = okReply ((s.accept l).decline e) [] :=
    (decline_found foundHeard).trans (check_pos own)
  have withdrawn (own : l = e.proposer) : withdraw l e.id (s.accept l) = okReply ((s.accept l).withdraw e) [] :=
    (withdraw_found foundHeard).trans (check_pos own)
  have declineRole : Kind.decline.allows l = true := by cases l <;> rfl
  have withdrawRole : Kind.withdraw.allows l = true := by cases l <;> rfl
  rw [expireId_found found] at expiryRow
  refine ⟨fun accepts other => ?_, fun accepts other => ?_, fun src dst lines proposal => ?_, fun n x proposal => ?_⟩
  · exact refuses_of_row (k := .decline) declineRow accepts declineRole rfl ((decline_found foundHeard).trans (check_neg other))
  · exact refuses_of_row (k := .withdraw) withdrawRow accepts withdrawRole rfl
      ((withdraw_found foundHeard).trans (check_neg other))
  · have dropped (k : Link) : ((s.accept l).dropEntry e.id |>.notify .transferEnded k).dct = { s.dct with entries := left } := by
      rw [State.dct_notify, State.dropEntry, dct]
      rfl
    refine ⟨fun accepts own => ?_, fun accepts own => ?_, ?_⟩
    · have taken := declined own
      rw [decline_transfer proposal] at taken
      obtain ⟨answered, carries⟩ := (makes_transferEnded (s.accept l) e e.proposer).taken (k := .decline) (tag := tag)
        (body := be 1 e.id) accepts declineRole rfl taken
      exact ⟨_, declineRow, answered, (carries.part .dct).trans (dropped e.proposer)⟩
    · have taken := withdrawn own
      rw [withdraw_transfer proposal] at taken
      obtain ⟨answered, carries⟩ := (makes_transferEnded (s.accept l) e e.confirmer).taken (k := .withdraw) (tag := tag)
        (body := be 1 e.id) accepts withdrawRole rfl taken
      exact ⟨_, withdrawRow, answered, (carries.part .dct).trans (dropped e.confirmer)⟩
    · rw [expire_transfer proposal] at expiryRow
      obtain ⟨event, carries⟩ := ((makes_transferEnded s e e.proposer).trans
        (makes_notify _ (k := .transferEnded) (l := e.confirmer) (by cases e.confirmer <;> rfl))).takes alive
      exact ⟨_, expiryRow, (carries.part .dct).trans (by rw [State.dct_notify, State.dct_notify]; rfl), event⟩
  · have ended (o : OverrideOutcome) : ((s.accept l).endOverride e n o).dct =
        { s.dct with entries := left, outcomes := s.dct.outcomes.set n o } := by rw [dct_endOverride, dct]
    refine ⟨fun accepts own => ?_, fun accepts own => ?_, ?_⟩
    · have taken := declined own
      rw [decline_override proposal] at taken
      obtain ⟨answered, carries⟩ := (makes_overrideFailed (s.accept l) e n .declined).taken (k := .decline) (tag := tag)
        (body := be 1 e.id) accepts declineRole rfl taken
      exact ⟨_, declineRow, (carries.part .dct).trans ((State.dct_notify _ _ _).trans (ended .declined)), answered,
        core_served ((carries.core n).trans (by rw [pos_notify, pos_endOverride]))⟩
    · have taken := withdrawn own
      rw [withdraw_override proposal] at taken
      obtain ⟨answered, carries⟩ := (makes_endOverride (s.accept l) e n .withdrawn).taken (k := .withdraw) (tag := tag)
        (body := be 1 e.id) accepts withdrawRole rfl taken
      exact ⟨_, withdrawRow, (carries.part .dct).trans (ended .withdrawn), answered,
        core_served ((carries.core n).trans (by rw [pos_endOverride]))⟩
    · rw [expire_override proposal] at expiryRow
      obtain ⟨event, carries⟩ := (makes_overrideFailed s e n .expired).takes alive
      refine ⟨_, expiryRow, (carries.part .dct).trans ((State.dct_notify _ _ _).trans (dct_endOverride s e n .expired)), event,
        (carries.core n).trans ?_⟩
      rw [pos_notify, pos_endOverride]
      rfl
end

section
/-! PROOF. The day profile (06 R114, R116, R117, 11 R199): durations gathered one by one, the average between the bounds, and the
profile's bytes read back. -/

namespace Sys2Proof.Machine

/-! ### Durations gathered (06 R114) -/

/-- A profile into which `count` durations have gone: the transactions counted, and a sum that the least of them does not
exceed. -/
structure Profile.Gathered (f : Profile) (count : Nat) : Prop where
  counted : f.transactions = min count 65535
  least : f.serviceMin * f.transactions ≤ f.serviceSum

theorem Profile.gathered_empty : Profile.empty.Gathered 0 := ⟨rfl, Nat.le_refl 0⟩

theorem Profile.Gathered.addDuration {f : Profile} {count : Nat} (h : f.Gathered count) (d : Nat) :
    (f.addDuration d).Gathered (count + 1) := by
  obtain ⟨counted, least⟩ := h
  have below : min f.serviceMin d * f.transactions ≤ f.serviceSum :=
    (Nat.mul_le_mul_right _ (Nat.min_le_left _ _)).trans least
  unfold Profile.addDuration
  split
  · next room =>
    simp only [Config.hold16] at room
    refine ⟨show f.transactions + 1 = _ by omega, ?_⟩
    by_cases first : f.transactions = 0
    · simp [first]
    · simp only [first, if_false, Nat.mul_succ]
      exact Nat.add_le_add below (Nat.min_le_right _ _)
  · next full =>
    simp only [Config.hold16] at full
    exact ⟨show f.transactions = _ by omega, below⟩

/-- A list of durations within the stopwatch's bound, gathered behind `count` others. -/
theorem Profile.gathered_foldl {c : Cash} (durations : List Nat) {f : Profile} {count : Nat} (law : f.Law c)
    (gathered : f.Gathered count) (within : ∀ d ∈ durations, d ≤ Config.maxStopwatch) :
    (durations.foldl (fun f d => f.addDuration d) f).Law c ∧
      (durations.foldl (fun f d => f.addDuration d) f).Gathered (count + durations.length) := by
  induction durations generalizing f count with
  | nil => exact ⟨law, gathered⟩
  | cons d durations ih =>
    obtain ⟨first, rest⟩ := List.forall_mem_cons.1 within
    rw [List.foldl_cons, List.length_cons, Nat.add_comm durations.length, ← Nat.add_assoc]
    exact ih (law.addDuration first) (gathered.addDuration d) rest

/-! ### The average (06 R116) -/

theorem Profile.average_eq {f : Profile} (some : f.transactions ≠ 0) :
    f.average = (2 * f.serviceSum + f.transactions) / (2 * f.transactions) := if_neg some

theorem Profile.serviceMin_le_average {f : Profile} (some : f.transactions ≠ 0)
    (least : f.serviceMin * f.transactions ≤ f.serviceSum) : f.serviceMin ≤ f.average := by
  rw [average_eq some, Nat.le_div_iff_mul_le (by omega), Nat.mul_left_comm]
  omega

/-- Rounding half up does not carry the average above the greatest. -/
theorem Profile.average_le_serviceMax {f : Profile} (greatest : f.serviceSum ≤ f.serviceMax * f.transactions) :
    f.average ≤ f.serviceMax := by
  by_cases none : f.transactions = 0
  · exact (if_pos none).trans_le (Nat.zero_le _)
  · rw [average_eq none]
    refine Nat.le_of_lt_succ (Nat.div_lt_of_lt_mul ?_)
    rw [Nat.mul_succ, Nat.mul_assoc, Nat.mul_comm f.transactions]
    omega

/-! ### READ-PROFILE (06 R117, 11 R199) -/

theorem Profile.length_bytes (f : Profile) : f.bytes.length = 46 := by
  simp only [Profile.bytes, List.length_append, be_length]

/-- Each item of a profile's bytes, read at its place behind those before it. -/
theorem Profile.field_bytes (f : Profile) :
    let at_ (off width value : Nat) : Prop := field f.bytes off width = value % 256 ^ width
    at_ 0 2 f.transactions ∧ at_ 2 5 f.serviceSum ∧ at_ 7 3 (if f.transactions = 0 then 0 else f.serviceMin) ∧
    at_ 10 3 (if f.transactions = 0 then 0 else f.serviceMax) ∧ at_ 13 3 f.average ∧
    at_ 16 1 (boolNum (f.transactions == 0)) ∧ at_ 17 2 f.postings ∧ at_ 19 5 f.cashIn ∧ at_ 24 5 f.cashOut ∧
    at_ 29 5 f.largest ∧ at_ 34 2 f.overrides ∧ at_ 36 5 f.overSum ∧ at_ 41 5 f.shortSum := by
  have last := field_be 5 f.shortSum []
  rw [List.append_nil] at last
  simp only [Profile.bytes, Profile.noData, beq_iff_eq, List.append_assoc, field_be_skip, field_be, last, Nat.reduceLeDiff,
    Nat.reduceSub, and_self]

theorem exec_readProfile (tag : Byte) (s : State) {v : Nat} (fits : v < 256) :
    exec (.readProfile .sl tag (be 1 v)) s = .next (request .sl .readProfile tag (be 1 v) (readProfile v) s) := by
  show Host.Outcome.next (request .sl .readProfile tag (be 1 v) (readProfile (field (be 1 v) 0 1)) s) = _
  rw [field_be_alone 1 v fits]

end Sys2Proof.Machine

open Sys2Proof Sys2Proof.Machine

/-- Settles O18, by induction on the durations: each keeps the profile's law and the sum above the least. -/
theorem profileAverageLiesBetweenItsBounds : Obligations.ProfileAverageLiesBetweenItsBounds := by
  intro durations some within f
  obtain ⟨⟨-, -, most, greatest, -⟩, counted, least⟩ :=
    Profile.gathered_foldl durations (Profile.law_empty Cash.cold) Profile.gathered_empty within
  rw [Nat.zero_add] at counted
  have served : f.transactions ≠ 0 := by
    have := List.length_pos_iff.2 some
    simp only [f, counted]
    omega
  exact ⟨Profile.serviceMin_le_average served least, Profile.average_le_serviceMax greatest, most, counted⟩

/-- Settles O38: the reply is the profile's bytes, and each item of it is read behind the ones before it. -/
theorem readProfileReturnsTheProfile : Obligations.ReadProfileReturnsTheProfile := by
  intro n tag s accepts f transactions sum ordered bound greatest postings cashIn cashOut largest overrides
    overSum shortSum
  have same : (s.accept .sl).profile n = f := by simp only [State.profile, State.bal_accept, f]
  have taken : readProfile n.val (s.accept .sl) = okReply (s.accept .sl) f.bytes := by
    rw [readProfile, readPosition?_val]
    dsimp only
    rw [same]
  obtain ⟨answered, -⟩ := (State.Makes.refl (s.accept .sl)).taken (k := .readProfile) (tag := tag) (body := be 1 n.val)
    accepts rfl rfl taken
  refine ⟨fun v out fits => ?_, _, _, exec_readProfile tag s (n.isLt.trans (by decide)), answered, f.length_bytes, ?_⟩
  · exact refuses_of_row (k := .readProfile) (exec_readProfile tag s fits) accepts rfl rfl
      (by rw [readProfile, readPosition?_out out])
  obtain ⟨count, total, low, high, middle, flag, posted, paidIn, paidOut, top, held, above, below⟩ := f.field_bytes
  have average : f.average ≤ f.serviceMax := Profile.average_le_serviceMax greatest
  have cut (width : Nat) {v : Nat} (fits : v < 256 ^ width) : v % 256 ^ width = v := Nat.mod_eq_of_lt fits
  have service {v : Nat} (fits : v ≤ f.serviceMax) :
      (if f.transactions = 0 then 0 else v) % 256 ^ 3 = if f.transactions = 0 then 0 else v := cut 3 (by split <;> omega)
  refine ⟨count.trans (cut 2 (by omega)), total.trans (cut 5 (by omega)), low.trans (service ordered),
    high.trans (service (Nat.le_refl _)), middle.trans (cut 3 (by omega)), ?_, posted.trans (cut 2 (by omega)),
    paidIn.trans (cut 5 (by omega)), paidOut.trans (cut 5 (by omega)), top.trans (cut 5 (by omega)),
    held.trans (cut 2 (by omega)), above.trans (cut 5 (by omega)), below.trans (cut 5 (by omega))⟩
  rw [flag]
  by_cases none : f.transactions = 0 <;> simp [none, boolNum]
end

section
/-! PROOF. BEGIN-BALANCE and REOPEN (06 R101, R107). -/

namespace Sys2Proof.Machine

theorem Holder.isDrawer_iff (n : Fin 8) (h : Holder) : h.isDrawer n = true ↔ h = .drawer n := by
  cases h <;> simp [Holder.isDrawer]

/-- A transfer names the drawers of its ends, an override its own position. -/
theorem Entry.names_iff (n : Fin 8) (e : Entry) : e.names n = true ↔
    match e.proposal with
    | .transfer src dst _ => src = .drawer n ∨ dst = .drawer n
    | .override m _ => m = n := by
  unfold Entry.names
  cases e.proposal with
  | transfer src dst lines => simp only [Bool.or_eq_true, Holder.isDrawer_iff]
  | override m p => simp only [beq_iff_eq]

section
variable (s : State) (n : Fin 8)

theorem makes_beginBalance : s.Makes (s.beginBalance n)
    { parts := [.bal], positions := [n], notices := [(.positionChanged, .sl)] } :=
  (((makes_setBal s _).trans (makes_movePos _ n .balancing)).trans (makes_onPos _ n Position.release)).widen
    (List.Subset.refl _) (by simp [Change.andThen]) (List.Subset.refl _) fun _ => Iff.rfl

theorem bal_beginBalance : (s.beginBalance n).bal = { s.bal with contexts := s.bal.contexts.set n Context.empty } := by
  rw [State.beginBalance, State.bal_release, State.bal_movePos]
  rfl

theorem pos_beginBalance : (s.beginBalance n).pos n = ({ s.pos n with state := .balancing } : Position).release := by
  rw [State.beginBalance, State.release, State.pos_onPos_self, pos_movePos_self]
  rfl

end

theorem beginBalance_eq (n : Fin 8) (s : State) : beginBalance n s =
    check ((s.pos n).state = .ready ∧ ∀ e ∈ s.dct.entries, e.names n = false) .wrongState (okReply (s.beginBalance n) []) := by
  have free : s.dct.entries.any (Entry.names n) = false ↔ ∀ e ∈ s.dct.entries, e.names n = false := by simp
  unfold beginBalance
  by_cases ready : (s.pos n).state = .ready <;> simp only [check, ready, free, true_and, false_and, if_true, if_false]

end Sys2Proof.Machine

open Sys2Proof Sys2Proof.Machine

/-- Settles O34: each request by its checks, and what it leaves of its position and context. -/
theorem beginBalanceAndReopenMoveThePosition : Obligations.BeginBalanceAndReopenMoveThePosition := by
  intro n tag s accepts b r named
  obtain ⟨state, -⟩ := heard_items s n n
  have free : (∀ e ∈ (s.accept (.tl n)).dct.entries, e.names n = false) ↔ ¬named := by
    rw [State.dct_accept]
    simp only [named, not_exists, not_and, ← Bool.not_eq_true]
    exact forall₂_congr fun e _ => not_congr (e.names_iff n)
  refine ⟨fun not => ?_, fun ready unnamed => ?_, fun busy => ?_, fun balanced => ?_⟩
  · refine refuses_of_row (k := .beginBalance) (handler := beginBalance n) rfl accepts rfl rfl ?_
    rw [beginBalance_eq, check_neg]
    rw [free, state]
    exact fun ⟨ready, unnamed⟩ => not.elim (absurd ready) unnamed
  · have judged : beginBalance n (s.accept (.tl n)) = okReply ((s.accept (.tl n)).beginBalance n) [] := by
      rw [beginBalance_eq, check_pos ⟨state ▸ ready, free.2 unnamed⟩]
    obtain ⟨answered, carries⟩ := (makes_beginBalance (s.accept (.tl n)) n).taken (k := .beginBalance) (tag := tag) (body := [])
      accepts rfl rfl judged
    have core := carries.core n
    rw [pos_beginBalance, pos_accept_self] at core
    obtain ⟨released, left⟩ := released_of_core_release core
    exact ⟨_, rfl, answered, (carries.part .bal).trans (by rw [bal_beginBalance, State.bal_accept]; rfl), released, left⟩
  · exact refuses_of_row (k := .reopen) (handler := reopen n) rfl accepts rfl rfl (check_neg (state ▸ busy))
  · have judged : reopen n (s.accept (.tl n)) = okReply ((s.accept (.tl n)).movePos n .ready) [] := check_pos (state ▸ balanced)
    obtain ⟨answered, carries⟩ := (makes_movePos (s.accept (.tl n)) n .ready).taken (k := .reopen) (tag := tag) (body := [])
      accepts rfl rfl judged
    refine ⟨_, rfl, answered, (carries.core n).trans ?_⟩
    rw [pos_movePos_self, pos_accept_self]
    rfl
end

section
/-! PROOF. Declarations (06 R102, R104, R110): their lines read and judged, the counts they name, and the difference accepted. -/

namespace Sys2Proof.Machine

/-! ### The lines read back (11 R198) -/

/-- The bytes of a declaration line as sent, its count in `w` bytes. -/
def CountLine.sent (w : Nat) (x : CountLine) : Bytes := be 1 x.slot ++ be w x.count

section
variable {w : Nat}

theorem CountLine.length_sent (x : CountLine) : (x.sent w).length = w + 1 := by
  rw [CountLine.sent, List.length_append, be_length, be_length, Nat.add_comm]

theorem CountLine.length_flatMap_sent (lines : List CountLine) :
    (lines.flatMap (CountLine.sent w)).length = (w + 1) * lines.length := by
  simp only [List.length_flatMap, CountLine.length_sent, List.map_const', List.sum_replicate, smul_eq_mul, Nat.mul_comm]

theorem CountLine.read_sent {x : CountLine} (slot : x.slot < 256) (count : x.count < 256 ^ w) :
    ({ slot := field (x.sent w) 0 1, count := field (x.sent w) 1 w } : CountLine) = x := by
  have read0 : field (x.sent w) 0 1 = x.slot := by
    rw [CountLine.sent, field_be]
    exact Nat.mod_eq_of_lt slot
  have read1 : field (x.sent w) 1 w = x.count := by
    rw [CountLine.sent, field_be_skip _ _ _ (Nat.le_refl 1)]
    exact field_be_alone w x.count count
  rw [read0, read1]

/-- A declaration whose fields fit their bytes is read as it was sent. -/
theorem readCounts_sent {lines : List CountLine} (fits : ∀ x ∈ lines, x.slot < 256 ∧ x.count < 256 ^ w) :
    readCounts w (lines.flatMap (CountLine.sent w)) = lines := by
  rw [readCounts, CountLine.length_flatMap_sent, Nat.mul_div_cancel_left _ (Nat.succ_pos w),
    linesOf_flatMap _ CountLine.length_sent, List.map_map]
  refine (List.map_congr_left fun x hx => ?_).trans (List.map_id _)
  obtain ⟨slot, count⟩ := fits x hx
  exact CountLine.read_sent slot count

end

/-! ### The lines judged, and the counts they name (06 R102, R110) -/

theorem countsDistinct_iff (lines : List CountLine) : countsDistinct lines = true ↔ (lines.map CountLine.slot).Nodup := by
  induction lines with
  | nil => simp [countsDistinct]
  | cons a lines ih =>
    rw [countsDistinct, Bool.and_eq_true, ih, List.map_cons, List.nodup_cons]
    exact and_congr_left' (by simp)

/-- Lines whose counts lie within the bound are judged by their slots alone. -/
theorem Cash.countsSound_iff (c : Cash) {bound : Nat} {lines : List CountLine} (within : ∀ x ∈ lines, x.count ≤ bound) :
    c.countsSound bound lines = true ↔
      (∀ x ∈ lines, ∃ h : x.slot < 12, c.faces.get ⟨x.slot, h⟩ ≠ none) ∧ (lines.map CountLine.slot).Nodup := by
  rw [Cash.countsSound, Bool.and_eq_true, countsDistinct_iff, List.all_eq_true]
  refine and_congr_left' (forall₂_congr fun x hx => ?_)
  rw [Bool.and_eq_true, Cash.face?_isSome_iff, decide_eq_true_eq]
  exact and_iff_left (within x hx)

/-- Of lines that name no slot twice, one slot's counts are those of its one line. -/
theorem sum_counts_eq_find {lines : List CountLine} (distinct : (lines.map CountLine.slot).Nodup) (slot : Nat) :
    ((lines.filter fun x => x.slot == slot).map CountLine.count).sum =
      match lines.find? fun x => x.slot == slot with | some x => x.count | none => 0 := by
  induction lines with
  | nil => rfl
  | cons a lines ih =>
    obtain ⟨other, distinct⟩ := List.nodup_cons.1 distinct
    by_cases named : a.slot = slot
    · have alone : lines.filter (fun x => x.slot == slot) = [] := List.filter_eq_nil_iff.2 fun x hx same =>
        other (List.mem_map.2 ⟨x, hx, (beq_iff_eq.1 same).trans named.symm⟩)
      simp [named, alone]
    · simpa [named] using ih distinct

theorem declaredCounts_eq {lines : List CountLine} (distinct : (lines.map CountLine.slot).Nodup) :
    declaredCounts lines = Vec.tab fun i =>
      match lines.find? fun x => x.slot == i.val with | some x => x.count | none => 0 :=
  congrArg Vec.tab (funext fun i => sum_counts_eq_find distinct i.val)

/-! ### The difference (06 R104, R110) -/

theorem Cash.takesDifference_iff (c : Cash) (d : Int) : c.takesDifference d = true ↔
    (0 < d → c.dayOver + d.natAbs ≤ 999999999999) ∧ (d < 0 → c.dayShort + d.natAbs ≤ 999999999999) := by
  simp only [Cash.takesDifference, Bool.and_eq_true, Bool.or_eq_true, decide_eq_true_eq, ← not_lt (b := d), ← not_lt (a := d),
    ← imp_iff_not_or]
  exact Iff.rfl

theorem Profile.addDifference_eq (d : Int) (f : Profile) : f.addDifference d = { f with
    overSum := if 0 < d then f.overSum + d.natAbs else f.overSum
    shortSum := if d < 0 then f.shortSum + d.natAbs else f.shortSum } := by
  unfold Profile.addDifference
  split
  · next above => rw [if_neg (lt_asymm above)]
  · split <;> rfl

theorem CashRecord.make_itemized (faces : Vec 12 (Option Nat)) (counts : Vec 12 Nat) :
    CashRecord.make faces counts 0 = { counts := counts, unitemized := 0, total := worth faces counts } := by
  rw [CashRecord.make, Int.add_zero]

section
variable (s : State) (d : Int) (place : Place) (teller : Nat)

theorem bytes_writtenDifference : (s.writtenDifference d).bytes = if d = 0 then [1, 0, 0] else s.jnl.answered := by
  rw [State.writtenDifference, apply_ite Written.bytes, bytes_written]
  rfl

theorem jnl_appendDifference : (s.appendDifference d place teller).jnl =
    if d = 0 then s.jnl else s.jnl.withSystem s.day.seconds
      (Record.plain (if 0 < d then .cashOver else .cashShort) place teller d.natAbs) := by
  rw [State.appendDifference, apply_ite State.jnl, appendSystem_jnl]
  rfl

theorem makes_appendDifference : s.Makes (s.appendDifference d place teller)
    { parts := [.jnl], notices := s.highJournal (s.appendDifference d place teller) } := by
  unfold State.appendDifference
  split
  · rw [highJournal_same rfl]
    exact (State.Makes.refl s).widen (List.nil_subset _) (List.Subset.refl _) (List.Subset.refl _) fun _ => Iff.rfl
  · exact makes_appendSystem s _

theorem spent_appendDifference (h : s.jnl.spent = true) : (s.appendDifference d place teller).jnl.spent = true := by
  unfold State.appendDifference
  split
  · exact h
  · exact spent_appendSystem s _ h

end

end Sys2Proof.Machine
end

section
/-! PROOF. A declaration applied (06 R103 to R106): DECLARE, with its misses, and FORCE-BALANCE. -/

namespace Sys2Proof.Machine

/-! ### The declaration applied (06 R104) -/

section
variable (s : State) (n : Fin 8)

/-- Where nothing raises a drawer, its total after a change re-arms it or leaves it (04 R79). -/
theorem cash_rearm : (s.rearm n).cash = { s.cash with
    high := s.cash.high.set n (highAfter (s.cash.high.get n) false s.day.drawerMax (s.drawer n).total) } := by
  rw [rearm_eq_setHigh]
  unfold State.setHigh highAfter
  cases s.cash.high.get n <;> rfl

theorem makes_rearm : s.Makes (s.rearm n) { parts := [.cash] } := by
  rw [rearm_eq_setHigh]
  exact makes_setHigh s n _

theorem rearm_setCash : s.rearm n = { s with cash := (s.rearm n).cash } := by
  rw [rearm_eq_setHigh]
  rfl

variable (counts : Vec 12 Nat) (d : Int)

theorem makes_balanceDrawer : s.Makes (s.balanceDrawer n counts d)
    { parts := [.bal, .cash], positions := [n], notices := [(.positionChanged, .sl)] } :=
  ((((makes_setBal s _).trans (makes_rearm _ n)).trans (makes_setBal _ _)).trans (makes_movePos _ n .balanced)).widen
    (by simp [Change.andThen]) (List.Subset.refl _) (List.Subset.refl _) fun _ => Iff.rfl

theorem jnl_balanceDrawer : (s.balanceDrawer n counts d).jnl = s.jnl :=
  (makes_balanceDrawer s n counts d).part (p := .jnl) (by simp)

theorem cash_balanceDrawer : (s.balanceDrawer n counts d).cash = { s.cash with
    high := s.cash.high.set n (highAfter (s.cash.high.get n) false s.day.drawerMax (s.drawer n).total) } := by
  rw [State.balanceDrawer, State.cash_movePos, State.cash_onContext, cash_rearm]
  rfl

theorem bal_balanceDrawer : (s.balanceDrawer n counts d).bal =
    { contexts := s.bal.contexts.set n { s.context n with declaration := some counts, difference := some d }
      profiles := s.bal.profiles.set n ((s.profile n).addDifference d) } := by
  rw [State.balanceDrawer, State.bal_movePos, rearm_setCash]
  rfl

theorem pos_balanceDrawer : (s.balanceDrawer n counts d).pos n = { s.pos n with state := .balanced } := by
  rw [State.balanceDrawer, pos_movePos_self, rearm_setCash]
  rfl

theorem makes_applyDeclaration : s.Makes (s.applyDeclaration n counts d)
    { parts := [.cash, .jnl, .bal], positions := [n]
      notices := (.positionChanged, .sl) :: s.highJournal (s.applyDeclaration n counts d) } := by
  rw [applyDeclaration_eq]
  refine (((makes_setCash s _).trans (makes_appendDifference (s.countDrawer n counts d) d _ _)).trans
    (makes_balanceDrawer _ n counts d)).widen (by simp [Change.andThen]) (List.Subset.refl _) (List.Subset.refl _) fun x => ?_
  rw [highJournal_congr (s := s.countDrawer n counts d) (s' := s) rfl (jnl_balanceDrawer _ n counts d)]
  simp [Change.andThen, or_comm]

theorem jnl_applyDeclaration : (s.applyDeclaration n counts d).jnl =
    if d = 0 then s.jnl else s.jnl.withSystem s.day.seconds
      (Record.plain (if 0 < d then .cashOver else .cashShort) (.position n) (s.pos n).tellerNum d.natAbs) := by
  rw [applyDeclaration_eq, jnl_balanceDrawer, jnl_appendDifference]
  rfl

theorem cash_applyDeclaration : (s.applyDeclaration n counts d).cash = { s.cash with
    drawers := s.cash.drawers.set n { counts := counts, unitemized := 0, total := worth s.cash.faces counts }
    dayOver := if 0 < d then s.cash.dayOver + d.natAbs else s.cash.dayOver
    dayShort := if d < 0 then s.cash.dayShort + d.natAbs else s.cash.dayShort
    high := s.cash.high.set n (highAfter (s.cash.high.get n) false s.day.drawerMax (worth s.cash.faces counts)) } := by
  have cash : ((s.countDrawer n counts d).appendDifference d (.position n) (s.pos n).tellerNum).cash = _ :=
    (appendDifference_same ..).2.1
  have day : ((s.countDrawer n counts d).appendDifference d (.position n) (s.pos n).tellerNum).day = s.day :=
    (makes_appendDifference (s.countDrawer n counts d) d _ _).part (p := .day) (by simp)
  have drawn : ((s.countDrawer n counts d).cash.drawers.get n).total = worth s.cash.faces counts := by
    rw [State.countDrawer, CashRecord.make_itemized]
    exact congrArg CashRecord.total (Vec.get_set_self ..)
  rw [applyDeclaration_eq, cash_balanceDrawer, State.drawer, cash, day, drawn, State.countDrawer, CashRecord.make_itemized]
  rfl

theorem bal_applyDeclaration : (s.applyDeclaration n counts d).bal =
    { contexts := s.bal.contexts.set n { s.context n with declaration := some counts, difference := some d }
      profiles := s.bal.profiles.set n ((s.profile n).addDifference d) } := by
  have bal : ((s.countDrawer n counts d).appendDifference d (.position n) (s.pos n).tellerNum).bal = s.bal :=
    (makes_appendDifference (s.countDrawer n counts d) d _ _).part (p := .bal) (by simp)
  rw [applyDeclaration_eq, bal_balanceDrawer, State.context, State.profile, bal]
  rfl

theorem pos_applyDeclaration : (s.applyDeclaration n counts d).pos n = { s.pos n with state := .balanced } := by
  rw [applyDeclaration_eq, pos_balanceDrawer, State.pos, (appendDifference_same ..).1]
  rfl

end

/-! ### A request that applies a declaration (06 R104, R106) -/

/-- Drawer `n` counted at the difference `d`: what a declaration applied leaves of the cash, the journal, the contexts and the
profiles. -/
structure State.Counted (s t : State) (n : Fin 8) (counts : Vec 12 Nat) (d : Int) : Prop where
  cash : t.cash = { s.cash with
    drawers := s.cash.drawers.set n { counts := counts, unitemized := 0, total := worth s.cash.faces counts }
    dayOver := if 0 < d then s.cash.dayOver + d.natAbs else s.cash.dayOver
    dayShort := if d < 0 then s.cash.dayShort + d.natAbs else s.cash.dayShort
    high := s.cash.high.set n (highAfter (s.cash.high.get n) false s.day.drawerMax (worth s.cash.faces counts)) }
  jnl : t.jnl = if d = 0 then s.jnl else s.jnl.withSystem s.day.seconds
    (Record.plain (if 0 < d then .cashOver else .cashShort) (.position n) ((s.pos n).teller.getD 0) d.natAbs)
  contexts : t.bal.contexts = s.bal.contexts.set n { s.context n with declaration := some counts, difference := some d }
  profiles : t.bal.profiles = s.bal.profiles.set n { s.profile n with
    overSum := if 0 < d then (s.profile n).overSum + d.natAbs else (s.profile n).overSum
    shortSum := if d < 0 then (s.profile n).shortSum + d.natAbs else (s.profile n).shortSum }

theorem declaration_taken {s : State} {l : Link} {n : Fin 8} {k : Kind} {tag : Byte} {body rest : Bytes}
    {handler : State → Judged} {counts : Vec 12 Nat} {d : Int} (accepts : s.Accepts l) (role : k.allows l = true)
    (length : k.admits l body.length = true)
    (judged : handler (s.accept l) = okReply ((s.accept l).applyDeclaration n counts d) rest) :
    let t := request l k tag body handler s
    s.Answered t l k.byte tag k.acting .ok rest
      { parts := [.cash, .jnl, .bal], positions := [n], notices := (.positionChanged, .sl) :: s.highJournal t } ∧
      s.Counted t n counts d ∧ (t.pos n).core = { s.heardPos l n with state := .balanced } := by
  intro t
  have cash := State.cash_accept s l
  have day := State.day_accept s l
  have bal := State.bal_accept s l
  obtain ⟨answered, carries⟩ := (makes_applyDeclaration (s.accept l) n counts d).taken (tag := tag) accepts role length judged
  rw [← highJournal_congr (State.jnl_accept s l).symm (carries.part .jnl)] at answered
  have left : t.bal = _ := (carries.part .bal).trans (bal_applyDeclaration (s.accept l) n counts d)
  rw [State.context, State.profile, Profile.addDifference_eq, bal] at left
  refine ⟨answered, ⟨(carries.part .cash).trans ?_, (carries.part .jnl).trans ?_, congrArg Bal.contexts left,
    congrArg Bal.profiles left⟩, ?_⟩
  · rw [cash_applyDeclaration, cash, day]
  · rw [jnl_applyDeclaration, tellerNum_accept, State.jnl_accept, day]
  · rw [carries.core, pos_applyDeclaration, ← core_accept]
    rfl

/-! ### DECLARE (06 R102 to R105) -/

/-- The state that a miss leaves, after `attempts` misses in all (06 R105). -/
def afterMisses (attempts : Nat) : PosState := if attempts < 3 then .outOfBalance else .forceWait

section
variable (s : State) (n : Fin 8) (counts : Vec 12 Nat) (d : Int)

/-- Position `n`'s context with one more miss counted, its state not yet moved (06 R105). -/
def State.missed : State := s.onContext n fun c =>
  { c with attempts := (s.context n).attempts + 1, declaration := some counts, difference := some d }

theorem miss_eq : s.miss n counts d =
    if (s.pos n).state = afterMisses ((s.context n).attempts + 1) then s.missed n counts d
    else (s.missed n counts d).movePos n (afterMisses ((s.context n).attempts + 1)) := rfl

theorem makes_miss : s.Makes (s.miss n counts d)
    { parts := [.bal], positions := [n]
      notices := if afterMisses ((s.context n).attempts + 1) = (s.pos n).state then [] else [(.positionChanged, .sl)] } := by
  rw [miss_eq]
  split
  · next same =>
    rw [if_pos same.symm]
    exact (makes_setBal s _).widen (List.Subset.refl _) (List.nil_subset _) (List.Subset.refl _) fun _ => Iff.rfl
  · next moves =>
    rw [if_neg (Ne.symm moves)]
    exact (makes_setBal s _).trans (makes_movePos _ n _)

theorem bal_miss : (s.miss n counts d).bal =
    { s.bal with contexts := s.bal.contexts.set n ⟨(s.context n).attempts + 1, some counts, some d⟩ } := by
  rw [miss_eq, apply_ite State.bal, State.bal_movePos, ite_self]
  rfl

theorem pos_miss : (s.miss n counts d).pos n = { s.pos n with state := afterMisses ((s.context n).attempts + 1) } := by
  rw [miss_eq]
  split
  · next same =>
    rw [← same]
    rfl
  · rw [pos_movePos_self]
    rfl

end

theorem miss_taken {s : State} {l : Link} {n : Fin 8} {k : Kind} {tag : Byte} {body rest : Bytes} {handler : State → Judged}
    {counts : Vec 12 Nat} {d : Int} (accepts : s.Accepts l) (role : k.allows l = true) (length : k.admits l body.length = true)
    (judged : handler (s.accept l) = okReply ((s.accept l).miss n counts d) rest) :
    let t := request l k tag body handler s
    s.Answered t l k.byte tag k.acting .ok rest
      { parts := [.bal], positions := [n]
        notices := if (t.pos n).state = (s.pos n).state then [] else [(.positionChanged, .sl)] } ∧
      t.bal = { s.bal with contexts := s.bal.contexts.set n ⟨(s.context n).attempts + 1, some counts, some d⟩ } ∧
      (t.pos n).core = { s.heardPos l n with state := afterMisses ((s.context n).attempts + 1) } := by
  intro t
  have context : (s.accept l).context n = s.context n := by simp only [State.context, State.bal_accept]
  obtain ⟨state, -⟩ := accept_items s l n
  obtain ⟨answered, carries⟩ := (makes_miss (s.accept l) n counts d).taken (tag := tag) accepts role length judged
  have core : (t.pos n).core = { s.heardPos l n with state := afterMisses ((s.context n).attempts + 1) } := by
    rw [carries.core, pos_miss, context, ← core_accept]
    rfl
  have after : (t.pos n).state = afterMisses ((s.context n).attempts + 1) := congrArg Position.state core
  rw [context, state, ← after] at answered
  refine ⟨answered, (carries.part .bal).trans ?_, core⟩
  rw [bal_miss, context, State.bal_accept]

section
variable (s : State) (n : Fin 8) (counts : Vec 12 Nat) (d : Int)

/-- A DECLARE's checks of its lines and its total, read of the state that the request found. -/
theorem declare_accept {lines : List CountLine} (l : Link) (fits : ∀ x ∈ lines, x.slot < 256 ∧ x.count < 65536) :
    declare (lines.flatMap (CountLine.sent 2)) n (s.accept l) =
      check ((s.pos n).state = .balancing ∨ (s.pos n).state = .outOfBalance) .wrongState
        (check (s.cash.countsSound Config.maxDrawerCount lines = true) .breakdown
          (check (worth s.cash.faces (declaredCounts lines) ≤ Config.maxTotal) .range
            (judgeDeclaration (declaredCounts lines) n (s.accept l)))) := by
  obtain ⟨state, -⟩ := accept_items s l n
  rw [declare, readCounts_sent fits, state, State.cash_accept]

theorem declareRest_eq (outcome : Bytes) (total d : Int) (k : Nat) (w : Written) : outcome ++ declareRest total d k w =
    outcome ++ be 5 total.toNat ++ beInt 6 d ++ be 1 k ++ w.bytes := by
  simp only [declareRest, List.append_assoc]

/-- A declaration within tolerance or outside it. -/
theorem judgeDeclaration_accept (l : Link) (diff : d = worth s.cash.faces counts - (s.drawer n).total) :
    judgeDeclaration counts n (s.accept l) =
      if d.natAbs ≤ s.day.tolerance then
        check (s.cash.takesDifference d = true) .range (okReply ((s.accept l).applyDeclaration n counts d)
          ([0] ++ be 5 (worth s.cash.faces counts).toNat ++ beInt 6 d ++ be 1 (s.context n).attempts ++
            if d = 0 then [1, 0, 0] else s.jnl.answered))
      else okReply ((s.accept l).miss n counts d)
        ((if (s.context n).attempts + 1 < 3 then [1] else [2]) ++ be 5 (worth s.cash.faces counts).toNat ++ beInt 6 d ++
          be 1 ((s.context n).attempts + 1) ++ [1, 0, 0]) := by
  have outcome (p : Prop) [Decidable p] : be 1 (if p then 1 else 2) = if p then [1] else [2] := apply_ite (be 1) p 1 2
  simp only [judgeDeclaration, State.drawer, State.context, State.cash_accept, State.day_accept, State.bal_accept,
    declareRest_eq, outcome, bytes_writtenDifference, State.jnl_accept]
  subst diff
  rfl

end

/-! ### FORCE-BALANCE (06 R106) -/

theorem exec_forceBalance (tag : Byte) (s : State) {v : Nat} (fits : v < 256) :
    exec (.forceBalance .sl tag (be 1 v)) s = .next (request .sl .forceBalance tag (be 1 v) (forceBalance v) s) := by
  show Host.Outcome.next (request .sl .forceBalance tag (be 1 v) (forceBalance (field (be 1 v) 0 1)) s) = _
  rw [field_be_alone 1 v fits]

section
variable {s : State} {n : Fin 8}

theorem forceBalance_elsewhere (elsewhere : (s.pos n).state ≠ .forceWait) :
    forceBalance n.val (s.accept .sl) = .error .wrongState := by
  rw [forceBalance, readPosition?_val]
  exact check_neg elsewhere

/-- In FORCE-WAIT the last declaration is judged by the day counter alone. -/
theorem forceBalance_accept {counts : Vec 12 Nat} {d : Int} (waiting : (s.pos n).state = .forceWait)
    (declared : (s.context n).declaration = some counts) (diff : d = worth s.cash.faces counts - (s.drawer n).total) :
    forceBalance n.val (s.accept .sl) =
      check (s.cash.takesDifference d = true) .range (okReply ((s.accept .sl).applyDeclaration n counts d)
        (beInt 6 d ++ if d = 0 then [1, 0, 0] else s.jnl.answered)) := by
  have context : (s.accept .sl).context n = s.context n := by simp only [State.context, State.bal_accept]
  rw [forceBalance, readPosition?_val]
  dsimp only
  rw [check_pos (p := ((s.accept .sl).pos n).state = .forceWait) waiting, context, declared]
  simp only [State.drawer, State.cash_accept, bytes_writtenDifference, State.jnl_accept]
  subst diff
  rfl

end

end Sys2Proof.Machine

open Sys2Proof Sys2Proof.Machine

/-- Settles O35: the checks in their order, then a declaration applied or a miss. -/
theorem declareAppliesACountOrCountsAMiss : Obligations.DeclareAppliesACountOrCountsAMiss := by
  intro n tag lines s accepts few fits c may sound counts total d within takes k
  have length : Kind.declare.admits (.tl n) (lines.flatMap (CountLine.sent 2)).length = true :=
    (listLength_iff 0 3 0 12 _ (by decide)).2 ⟨lines.length, Nat.zero_le _, few, by rw [CountLine.length_flatMap_sent]; omega⟩
  have lined : s.cash.countsSound Config.maxDrawerCount lines = true ↔ sound :=
    s.cash.countsSound_iff fun x hx => Nat.le_of_lt_succ (fits x hx).2
  have named (ok : sound) : declaredCounts lines = counts := declaredCounts_eq ok.2
  have booked : s.cash.takesDifference d = true ↔ takes := s.cash.takesDifference_iff d
  have refuses {code : Code} (h : declare (lines.flatMap (CountLine.sent 2)) n (s.accept (.tl n)) = .error code) :
      s.Refuses c (.tl n) 25 tag code :=
    refuses_of_row (k := .declare) (handler := declare (lines.flatMap (CountLine.sent 2)) n) rfl accepts rfl length h
  have judged := declare_accept s n (.tl n) fits
  have counted (ok : may) (fine : sound) : declare (lines.flatMap (CountLine.sent 2)) n (s.accept (.tl n)) =
      check (total ≤ Config.maxTotal) .range (judgeDeclaration counts n (s.accept (.tl n))) := by
    rw [judged, check_pos ok, check_pos (lined.2 fine), named fine]
  have difference := judgeDeclaration_accept s n counts d (.tl n) rfl
  have own : s.heardPos (.tl n) n = { (s.pos n).core with silence := 0 } := if_pos rfl
  refine ⟨fun no => refuses ?_, fun ok bad => refuses ?_, fun ok fine big => refuses ?_,
    fun ok fine (small : total ≤ Config.maxTotal) near full => refuses ?_,
    fun ok fine (small : total ≤ Config.maxTotal) near fit => ?_, fun ok fine (small : total ≤ Config.maxTotal) far => ?_⟩
  · rw [judged, check_neg no]
  · rw [judged, check_pos ok, check_neg (mt lined.1 bad)]
  · rw [counted ok fine, check_neg (p := total ≤ Config.maxTotal) (not_le.2 big)]
  · rw [counted ok fine, check_pos small, difference, if_pos near, check_neg (mt booked.1 full)]
  · have taken := counted ok fine
    rw [check_pos small, difference, if_pos near, check_pos (booked.2 fit)] at taken
    obtain ⟨answered, ⟨cash, jnl, contexts, profiles⟩, core⟩ := declaration_taken (k := .declare) (tag := tag)
      (handler := declare (lines.flatMap (CountLine.sent 2)) n) accepts rfl length taken
    rw [own] at core
    exact ⟨_, rfl, answered, cash, jnl, contexts, profiles, core⟩
  · have taken := counted ok fine
    rw [check_pos small, difference, if_neg far] at taken
    obtain ⟨answered, bal, core⟩ := miss_taken (k := .declare) (tag := tag)
      (handler := declare (lines.flatMap (CountLine.sent 2)) n) accepts rfl length taken
    rw [own] at core
    exact ⟨_, rfl, answered, bal, core⟩

/-- Settles O36: the checks in their order, then the last declaration applied. -/
theorem forceBalanceAppliesTheLastDeclaration : Obligations.ForceBalanceAppliesTheLastDeclaration := by
  intro n tag counts s accepts c total d takes
  have row : exec c s = _ := exec_forceBalance tag s (n.isLt.trans (by decide))
  have booked : s.cash.takesDifference d = true ↔ takes := s.cash.takesDifference_iff d
  refine ⟨fun v out fits => ?_, fun elsewhere => ?_, fun waiting declared full => ?_, fun waiting declared fit => ?_⟩
  · exact refuses_of_row (k := .forceBalance) (exec_forceBalance tag s fits) accepts rfl rfl
      (by rw [forceBalance, readPosition?_out out])
  · exact refuses_of_row (k := .forceBalance) row accepts rfl rfl (forceBalance_elsewhere elsewhere)
  · exact refuses_of_row (k := .forceBalance) row accepts rfl rfl
      ((forceBalance_accept waiting declared rfl).trans (check_neg (mt booked.1 full)))
  · have taken := (forceBalance_accept waiting declared (d := d) rfl).trans (check_pos (booked.2 fit))
    obtain ⟨answered, ⟨cash, jnl, contexts, profiles⟩, core⟩ := declaration_taken (k := .forceBalance) (tag := tag)
      (body := be 1 n.val) accepts rfl rfl taken
    have own : s.heardPos .sl n = (s.pos n).core := if_neg Link.noConfusion
    rw [own] at core
    exact ⟨_, row, answered, cash, jnl, contexts, profiles, core⟩
end

section
/-! PROOF. VAULT-DECLARE (06 R110, R111). -/

namespace Sys2Proof.Machine

section
variable (s : State) (counts : Vec 12 Nat) (d : Int)

/-- The vault counted, and the difference and its two records asked for. -/
def State.vaultCounted : State := (s.countVault counts d).appendDifference d .vault 0

theorem makes_countVault : s.Makes (s.countVault counts d)
    { parts := [.cash, .jnl], notices := s.highJournal (s.countVault counts d) } :=
  (makes_setCash s _).trans (makes_appendSystem _ _)

theorem jnl_countVault : (s.countVault counts d).jnl =
    s.jnl.withSystem s.day.seconds (Record.plain .vaultCount .vault 0 (worth s.cash.faces counts).toNat) := by
  rw [State.countVault, CashRecord.make_itemized, appendSystem_jnl]
  rfl

theorem cash_countVault : (s.countVault counts d).cash = { s.cash with
    vault := { counts := counts, unitemized := 0, total := worth s.cash.faces counts }
    dayOver := if 0 < d then s.cash.dayOver + d.natAbs else s.cash.dayOver
    dayShort := if d < 0 then s.cash.dayShort + d.natAbs else s.cash.dayShort } := by
  rw [State.countVault, CashRecord.make_itemized, State.cash_appendSystem]
  rfl

theorem makes_vaultCounted : s.Makes (s.vaultCounted counts d)
    { parts := [.cash, .jnl], notices := s.highJournal (s.vaultCounted counts d) } := by
  have spent (h : s.jnl.spent = true) : (s.countVault counts d).jnl.spent = true := spent_appendSystem { s with cash := _ } _ h
  exact ((makes_countVault s counts d).trans (makes_appendDifference _ d .vault 0)).widen (by simp [Change.andThen])
    (List.Subset.refl _) (List.Subset.refl _) (mem_highJournal_trans spent (spent_appendDifference _ d .vault 0))

theorem jnl_vaultCounted : (s.vaultCounted counts d).jnl =
    if d = 0 then (s.countVault counts d).jnl else (s.countVault counts d).jnl.withSystem s.day.seconds
      (Record.plain (if 0 < d then .cashOver else .cashShort) .vault 0 d.natAbs) := by
  have day : (s.countVault counts d).day = s.day := (makes_countVault s counts d).part (p := .day) (by simp)
  rw [State.vaultCounted, jnl_appendDifference, day]

theorem cash_vaultCounted : (s.vaultCounted counts d).cash = (s.countVault counts d).cash := (appendDifference_same ..).2.1

/-- A VAULT-DECLARE's checks, read of the state that the request found. -/
theorem vaultDeclare_accept {lines : List CountLine} (fits : ∀ x ∈ lines, x.slot < 256 ∧ x.count ≤ 16777215)
    (named : s.cash.countsSound Config.maxVaultCount lines = true → declaredCounts lines = counts)
    (diff : d = worth s.cash.faces counts - s.cash.vault.total) :
    vaultDeclare (lines.flatMap (CountLine.sent 3)) (s.accept .sl) =
      check (s.day.state = .opened ∨ s.day.state = .cutoff) .dayState
        (check (s.cash.countsSound Config.maxVaultCount lines = true) .breakdown
          (check (worth s.cash.faces counts ≤ Config.maxTotal) .range
            (check (s.cash.takesDifference d = true) .range
              (okReply ((s.accept .sl).vaultCounted counts d)
                (be 5 (worth s.cash.faces counts).toNat ++ beInt 6 d ++ s.jnl.answered ++
                  if d = 0 then [1, 0, 0] else (s.countVault counts d).jnl.answered))))) := by
  have counted : ((s.accept .sl).countVault counts d).jnl = (s.countVault counts d).jnl := by
    rw [jnl_countVault, State.jnl_accept, State.day_accept, State.cash_accept, jnl_countVault]
  have read : readCounts 3 (lines.flatMap (CountLine.sent 3)) = lines :=
    readCounts_sent fun x hx => (fits x hx).imp_right Nat.lt_succ_of_le
  unfold vaultDeclare
  rw [read, State.day_accept, State.cash_accept]
  by_cases sound : s.cash.countsSound Config.maxVaultCount lines = true
  · subst diff
    simp only [check_pos sound, named sound, bytes_written, bytes_writtenDifference, counted, State.jnl_accept]
    rfl
  · simp only [check_neg sound]

end

end Sys2Proof.Machine

open Sys2Proof Sys2Proof.Machine

/-- Settles O37: the checks in their order, then the vault counted and its two records asked for one after the other. -/
theorem vaultDeclareCountsTheVault : Obligations.VaultDeclareCountsTheVault := by
  intro tag lines s accepts few fits c open_ sound counts total d takes counted
  have length : Kind.vaultDeclare.admits .sl (lines.flatMap (CountLine.sent 3)).length = true :=
    (listLength_iff 0 4 0 12 _ (by decide)).2 ⟨lines.length, Nat.zero_le _, few, by rw [CountLine.length_flatMap_sent]; omega⟩
  have lined : s.cash.countsSound Config.maxVaultCount lines = true ↔ sound := s.cash.countsSound_iff fun x hx => (fits x hx).2
  have booked : s.cash.takesDifference d = true ↔ takes := s.cash.takesDifference_iff d
  have judged := vaultDeclare_accept s counts d fits (fun ok => declaredCounts_eq (lined.1 ok).2) rfl
  have refuses {code : Code} (h : vaultDeclare (lines.flatMap (CountLine.sent 3)) (s.accept .sl) = .error code) :
      s.Refuses c .sl 28 tag code :=
    refuses_of_row (k := .vaultDeclare) (handler := vaultDeclare (lines.flatMap (CountLine.sent 3))) rfl accepts rfl length h
  refine ⟨fun shut => refuses ?_, fun ok bad => refuses ?_, fun ok fine out => refuses ?_,
    fun ok fine (small : total ≤ Config.maxTotal) fit => ?_⟩
  · rw [judged, check_neg shut]
  · rw [judged, check_pos ok, check_neg (mt lined.1 bad)]
  · rw [judged, check_pos ok, check_pos (lined.2 fine)]
    by_cases small : total ≤ Config.maxTotal
    · rw [check_pos small, check_neg fun fit => out ⟨small, booked.1 fit⟩]
    · exact check_neg small
  · rw [check_pos ok, check_pos (lined.2 fine), check_pos small, check_pos (booked.2 fit), jnl_countVault] at judged
    obtain ⟨answered, carries⟩ := (makes_vaultCounted (s.accept .sl) counts d).taken (k := .vaultDeclare) (tag := tag)
      (handler := vaultDeclare (lines.flatMap (CountLine.sent 3))) accepts rfl length judged
    rw [← highJournal_congr (State.jnl_accept s .sl).symm (carries.part .jnl)] at answered
    refine ⟨_, rfl, answered, (carries.part .cash).trans ?_, (carries.part .jnl).trans ?_⟩
    · rw [cash_vaultCounted, cash_countVault, State.cash_accept]
    · rw [jnl_vaultCounted, jnl_countVault, State.jnl_accept, State.day_accept, State.cash_accept]
end
